-- ==== Sys2Proof/Word.lean ====
section
/-! DEFINITION. The words the manual treats as bits: a byte of the serial line, and the two resin tanks and
the two ends of the shutoff valve, which the commands name. Counts, volumes and times are plain numbers (section 4 of
00_scope.md: every computation is integer arithmetic). -/

namespace Sys2Proof

/-- One byte of the serial line (R168). -/
abbrev Byte := BitVec 8

/-- The two resin tanks (00_scope.md, section 2). -/
inductive Tank where
  | a
  | b
  deriving DecidableEq, Repr

/-- The other tank. -/
def Tank.other : Tank → Tank
  | .a => .b
  | .b => .a

@[simp] theorem Tank.other_a : Tank.other .a = .b := rfl
@[simp] theorem Tank.other_b : Tank.other .b = .a := rfl
@[simp] theorem Tank.other_other (t : Tank) : t.other.other = t := by cases t <;> rfl

/-- One value for each tank. -/
structure PerTank (α : Type) where
  a : α
  b : α
  deriving DecidableEq, Repr

/-- The value of the named tank. -/
def PerTank.get {α : Type} (p : PerTank α) : Tank → α
  | .a => p.a
  | .b => p.b

/-- The pair with the named tank's value replaced. -/
def PerTank.set {α : Type} (p : PerTank α) (t : Tank) (v : α) : PerTank α :=
  match t with
  | .a => { p with a := v }
  | .b => { p with b := v }

@[simp] theorem PerTank.get_a {α : Type} (p : PerTank α) : p.get .a = p.a := rfl
@[simp] theorem PerTank.get_b {α : Type} (p : PerTank α) : p.get .b = p.b := rfl
@[simp] theorem PerTank.set_a {α : Type} (p : PerTank α) (v : α) : p.set .a v = { p with a := v } := rfl
@[simp] theorem PerTank.set_b {α : Type} (p : PerTank α) (v : α) : p.set .b v = { p with b := v } := rfl

@[simp] theorem PerTank.get_set_same {α : Type} (p : PerTank α) (t : Tank) (v : α) :
    (p.set t v).get t = v := by cases t <;> rfl

@[simp] theorem PerTank.get_set_other {α : Type} (p : PerTank α) (t : Tank) (v : α) :
    (p.set t v).get t.other = p.get t.other := by cases t <;> rfl

theorem PerTank.get_set {α : Type} (p : PerTank α) (t u : Tank) (v : α) :
    (p.set t v).get u = if u = t then v else p.get u := by cases t <;> cases u <;> rfl

/-- The two ends of the shutoff valve's travel, each with its end switch (09_shutoff_valve_and_backup_supply.md):
OPEN_END and CLOSED_END. -/
inductive ValveEnd where
  | openEnd
  | closedEnd
  deriving DecidableEq, Repr

end Sys2Proof
end

