-- ==== Sys2Proof/Syntax.lean ====
section
/-! DEFINITION. The commands of the block: one constructor for each row of spec/opcode_table.json, in the table's order,
with the operands that the rules of each row name. The table gives no row any bits. -/

namespace Sys2Proof

/-- What the part's inputs show at one metering second: the pulses of the second (R2), one sample of each sensor (R33,
R91, R92, R108), the battery voltage in mV (R151) and the level of the service jumper (R175). -/
structure SecondInputs where
  /-- Pulses of the inlet meter since the previous metering second. -/
  pulsesIn : Nat
  /-- Pulses of the process meter since the previous metering second. -/
  pulsesProc : Nat
  /-- Sample of pressure sensor P1, kPa. -/
  p1 : Int
  /-- Sample of pressure sensor P2, kPa. -/
  p2 : Int
  /-- Sample of pressure sensor P3, kPa. -/
  p3 : Int
  /-- Bed probe ratio of tank A, per-mille. -/
  probeA : Int
  /-- Bed probe ratio of tank B, per-mille. -/
  probeB : Int
  /-- Sample of the brine well level probe, mm. -/
  level : Int
  /-- Distance an ultrasonic salt reading would give, mm. -/
  saltDistance : Int
  /-- Battery voltage, mV. -/
  battery : BitVec 16
  /-- Whether SVCn is asserted. -/
  svc : Bool
  deriving DecidableEq, Repr

/-- The input levels that a restart finds (R154, R155). -/
structure RestartInputs where
  /-- Whether the mains sense is present. -/
  mains : Bool
  /-- Battery voltage, mV. -/
  battery : BitVec 16
  /-- Whether the end switch OPEN_END is made. -/
  openEnd : Bool
  /-- Whether the end switch CLOSED_END is made. -/
  closedEnd : Bool
  /-- Whether SVCn is asserted. -/
  svc : Bool
  /-- Whether the reset or the loss of power before it came while the last group of retained writes was being written, and that
  group was lost (R190). -/
  lost : Bool := false
  deriving DecidableEq, Repr

/-- The commands: the requests of the host and the events of the part (spec/opcode_table.json). A request carries its tag
and its payload's fields as R173 lays them out; an event carries what the part's inputs show at it. `svc` is the level of the
service jumper, whether SVCn is asserted, at a command that takes or answers a request (R172, R175, R178): not asserted where a
command is written without it. -/
inductive Instr where
  -- restarts
  | coldStart (x : RestartInputs)
  | firstStart (x : RestartInputs)
  | warmReset (x : RestartInputs)
  -- the metering second and what comes due in it
  | meteringSecond (x : SecondInputs)
  | meterLossBegin
  | meterLossEnd
  | processFlowUnownedBegin
  | processFlowUnownedEnd
  | midnight
  | hourClose
  | frontDetected (t : Tank)
  -- the disc
  | inPlaceSet (code : BitVec 4)
  | inPlaceClear
  | discTimeout
  | discStall
  | discRestartObservation (lit : Bool) (code : BitVec 4)
  -- the sequencer
  | changeoverBegin
  | dwellEnd
  | calendarFallback
  | regenClaim
  | stepEnd
  | brine1200
  | sequencerMoveRequest
  | postRegenReading (distance : Int)
  -- the filter
  | baselineSet
  | flushVolumeReached
  | flushClaim
  | flushEnd
  -- the leak detector and the pressure-hold test
  | eventBegin
  | eventEnd
  | flowTrip
  | testDue
  | claimWaitExpiry
  | testSettle
  | holdBegin
  | holdEnd
  -- the shutoff valve
  | endSwitchArrival (e : ValveEnd)
  | valveTravelLimit
  | valveOvercurrent
  | valvePauseEnd
  | shutoffSwitch
  | endSwitchRelease (e : ValveEnd)
  | exerciseCue
  | exerciseStart
  | exerciseArmedExpiry
  | closeRunEnd (driveMs : Nat)
  -- the supply
  | mainsLost
  | mainsReturned
  | voltageSteady
  -- the pod loop
  | poll
  | pollAnswer (slot seq : Byte) (wet batteryLow tamper : Bool) (temperature : Int) (sumGood : Bool)
  | pollAnswerMissed
  | podMissing (slot : Fin 8)
  | podLost (slot : Fin 8)
  | enrolCall
  | enrolAnswer (serial : BitVec 32) (sumGood : Bool) (delayMs : Nat := 0)
  | enrolWindowClose
  -- the serial line
  | frameReceived (bytes : List Byte) (svc : Bool := false)
  | frameTimeout
  | frameBadLength (length : Byte)
  | frameReject (kind tag : Byte) (payload : List Byte) (crc : BitVec 16) (svc : Bool := false)
  | unknownKind (kind tag : Byte) (payload : List Byte) (svc : Bool := false)
  | badLength (kind tag : Byte) (payload : List Byte) (svc : Bool := false)
  | replyComplete (svc : Bool := false)
  -- the requests
  | identify (tag : Byte) (svc : Bool := false)
  | status (tag : Byte) (svc : Bool := false)
  | get (tag id : Byte) (svc : Bool := false)
  | set (tag id : Byte) (value : BitVec 32) (svc : Bool := false)
  | clockSet (tag : Byte) (day : BitVec 16) (second : BitVec 32) (svc : Bool := false)
  | noticeTake (tag : Byte) (svc : Bool := false)
  | noticePeek (tag : Byte) (svc : Bool := false)
  | historyRead (tag : Byte) (svc : Bool := false)
  | historyClear (tag : Byte) (svc : Bool := false)
  | totalsRead (tag : Byte) (svc : Bool := false)
  | totalsClear (tag : Byte) (svc : Bool := false)
  | tankCmdRegen (tag tank : Byte) (svc : Bool := false)
  | tankCmdChangeover (tag tank : Byte) (svc : Bool := false)
  | tankCmdHalt (tag tank : Byte) (svc : Bool := false)
  | tankCmdResume (tag tank : Byte) (svc : Bool := false)
  | tankCmdSkip (tag tank : Byte) (svc : Bool := false)
  | discStep (tag : Byte) (svc : Bool := false)
  | discRetry (tag : Byte) (svc : Bool := false)
  | flushCmd (tag : Byte) (svc : Bool := false)
  | shutoffCmdClose (tag : Byte) (svc : Bool := false)
  | shutoffCmdOpen (tag : Byte) (svc : Bool := false)
  | shutoffCmdRetry (tag : Byte) (svc : Bool := false)
  | leakReset (tag option : Byte) (svc : Bool := false)
  | pressureTest (tag : Byte) (svc : Bool := false)
  | saltFilled (tag : Byte) (grams : BitVec 32) (svc : Bool := false)
  | cartridgeFitted (tag : Byte) (svc : Bool := false)
  | podEnrol (tag : Byte) (duration : BitVec 16) (svc : Bool := false)
  | podRemove (tag slot : Byte) (svc : Bool := false)
  | podList (tag : Byte) (svc : Bool := false)
  | podLabel (tag slot flag : Byte) (label : List Byte) (svc : Bool := false)
  | faultsRead (tag : Byte) (svc : Bool := false)
  | faultsClear (tag : Byte) (svc : Bool := false)
  | defaultsRestore (tag : Byte) (svc : Bool := false)
  | reset (tag : Byte) (svc : Bool := false)
  -- the last two rows of the table
  | frameStart
  | openEndReleaseInRun
  deriving DecidableEq, Repr

end Sys2Proof
end

