-- ==== Sys2Proof/Config.lean ====
section
/-! DEFINITION. The free values: what the manual leaves open on a value while the part goes on. Each is opaque: it
has no body, so nothing can be proved of it and a claim that holds, holds whatever it is. -/

namespace Sys2Proof

/-- Byte `index` of a field of `width` bytes that carries `value`, where the value does not fit the field. R173 and R177
give the fields their widths; no rule states what such a field then carries (log entry 8). -/
opaque Config.unfitByte (width index : Nat) (value : Int) : Byte

/-- Value `index` (1 to 3) of a notice whose kind has the code `kind` and whose rule states fewer than three
values. R180 gives every notice three values; no rule states the ones left over (log entry 9). -/
opaque Config.unusedValue (kind index : Nat) : Int

/-- The positioner state byte of STATUS while the 100 ms restart observation of R57 lasts: none of the four states of R44
is stated to hold then (log entry 10). -/
opaque Config.observingStateCode : Byte

/-- The four bytes of POD_LIST after the window's mark while no window is open, its remaining time and its two counts: R166 lists
them without a value for a closed window (log entry 41). -/
opaque Config.closedWindowByte (index : Nat) : Byte

/-- The detail of a SHUTOFF_SWITCH fault found by the restart's own look at the end switches: R146 makes it the valve state
before the fault, and no rule states which state that is at a restart (log entry 24). -/
opaque Config.restartSwitchDetail : Int

end Sys2Proof
end

