-- ==== Sys2Proof/Machine/State.lean ====
section
/-! DEFINITION. Everything the manual gives the part to hold, block by block (00_scope.md, section 3), as plain data,
and the state right after reset. A field that is the model's own and not the manual's says so. -/

namespace Sys2Proof.Machine

/-! ### Faults and refusals of the model -/

/-- No command of this part ends in a fault: the manual gives every one its effect, or none. -/
inductive Fault where
  deriving DecidableEq, Repr

/-- The refusals of the model. -/
inductive Refusal where
  /-- The command has no meaning in the model yet; raised by `exec`'s arm alone (safe: it claims nothing). -/
  | notModelled (mnemonic : String)
  deriving DecidableEq, Repr

/-- A time stamp: seconds from day 0, 00:00:00 (R188). -/
abbrev Stamp := Nat

/-! ### Settings (R175) -/

/-- The disc mode: setting 35, and the mode in force (R54). -/
inductive DiscMode where
  | auto
  | manual
  deriving DecidableEq, Repr

/-- The regeneration timing, setting 25 (R66). -/
inductive Timing where
  | immediate
  | window
  deriving DecidableEq, Repr

/-- The leak mode, setting 50 (R121). -/
inductive LeakMode where
  | home
  | away
  | vacation
  deriving DecidableEq, Repr

/-- The choice of settings 51, 67 and 70, NOTIFY 0 and CLOSE 1. -/
inductive LeakAction where
  | notify
  | close
  deriving DecidableEq, Repr

/-- The choice of setting 69, HOLD 0 and CLOSE 1 (R153). -/
inductive LowBatteryAction where
  | hold
  | close
  deriving DecidableEq, Repr

/-- The installer settings, ids 1 to 13, at their defaults. -/
structure InstallerSettings where
  vrA : Nat := 250
  vrB : Nat := 250
  kIn : Nat := 4500
  kProc : Nat := 30000
  probeDepth : Nat := 750
  brineArea : Nat := 1600
  tankDepth : Nat := 900
  sensorFitted : Bool := true
  saltDensity : Nat := 780
  saltCapacity : Nat := 90
  travelLimit : Nat := 25
  overlap : Nat := 30
  qRef : Nat := 250
  deriving DecidableEq, Repr

/-- The user settings of softening and regeneration, ids 20 to 35. -/
structure SofteningSettings where
  hardness : Nat := 300
  iron : Nat := 0
  ironWeight : Nat := 68
  dose : Nat := 120
  margin : Nat := 20
  timing : Timing := .window
  windowHour : Nat := 2
  maxServiceDays : Nat := 0
  backwash : Nat := 600
  brine : Nat := 3600
  rinse : Nat := 300
  refillLimit : Nat := 1800
  dissolveTime : Nat := 120
  designUse : Nat := 600
  calendarDays : Nat := 3
  discMode : DiscMode := .auto
  deriving DecidableEq, Repr

/-- The user settings of the filters, ids 40 to 48. -/
structure FilterSettings where
  flushIndex : Nat := 60
  blockIndex : Nat := 150
  flushVolume : Nat := 20000
  flushDays : Nat := 14
  flushTime : Nat := 30
  qMin : Nat := 100
  cartVolume : Nat := 40000
  cartMonths : Nat := 6
  cartIndex : Nat := 40
  deriving DecidableEq, Repr

/-- The five values of a threshold set (08_leak_detection.md, section 8.1). -/
structure Thresholds where
  trickle : Nat
  continuous : Nat
  volume : Nat
  burstRate : Nat
  burstTime : Nat
  deriving DecidableEq, Repr

/-- The user settings of leak protection, the valve, the battery and the pods, ids 50 to 71. -/
structure LeakSettings where
  mode : LeakMode := .home
  action : LeakAction := .close
  home : Thresholds := ⟨5, 3600, 400, 500, 120⟩
  away : Thresholds := ⟨5, 900, 100, 300, 30⟩
  quietGap : Nat := 20
  testMinute : Nat := 210
  testDuration : Nat := 300
  testDecay : Nat := 30
  drawDrop : Nat := 80
  microleakAction : LeakAction := .notify
  exerciseDays : Nat := 30
  lowBatteryAction : LowBatteryAction := .hold
  podLostAction : LeakAction := .notify
  freeze : Int := 3
  deriving DecidableEq, Repr

/-- The user settings of the salt account, ids 80 to 83. -/
structure SaltSettings where
  lowMark : Nat := 150
  lowKg : Nat := 10
  reminderDays : Nat := 7
  forecastDays : Nat := 14
  deriving DecidableEq, Repr

/-- The user settings together. -/
structure UserSettings where
  soft : SofteningSettings := {}
  filter : FilterSettings := {}
  leak : LeakSettings := {}
  salt : SaltSettings := {}
  deriving DecidableEq, Repr

/-- The settings table (R175), retained; at first start every setting holds its default. -/
structure Settings where
  inst : InstallerSettings := {}
  user : UserSettings := {}
  deriving DecidableEq, Repr

/-! ### Time-of-day counter (R188) -/

/-- The counter, volatile. The two due marks are the model's own: they are set by an advance that brings a midnight or an
hour close and cleared when its work is done, within the same metering second (log entry 3). -/
structure Clock where
  day : Nat := 0
  second : Nat := 0
  unset : Bool := true
  midnightDue : Bool := false
  hourDue : Bool := false
  deriving DecidableEq, Repr

/-! ### Faults and notices -/

/-- The fault codes of section 12.3. -/
inductive FaultCode where
  | meterLoss
  | processFlowUnowned
  | valvePassing
  | shutoffStuck
  | shutoffSwitch
  | shutoffSeized
  | discStall
  | discCode
  | discMissed
  | discTimeout
  | brineDrawFail
  | refillShort
  | flushNoFlow
  | pressureSensor
  | levelSensor
  | saltSensor
  | bedProbe
  | podLost
  | batteryLow
  deriving DecidableEq, Repr

/-- The subject of a notice or a fault record (R173). -/
inductive Subject where
  | slot (n : Fin 8)
  | tank (t : Tank)
  | sensor (n : Fin 3)
  | none
  deriving DecidableEq, Repr

/-- One record of the Fault Log (R185). -/
structure FaultRecord where
  code : FaultCode
  subject : Subject
  first : Stamp
  last : Stamp
  count : Nat
  active : Bool
  detail : Int
  deriving DecidableEq, Repr

/-- The Fault Log (R185), retained. -/
structure FaultLog where
  records : List FaultRecord := []
  overflow : Bool := false
  deriving DecidableEq, Repr

/-- The notice kinds of section 12.2. -/
inductive NoticeKind where
  | supplyState
  | shutoffState
  | saltState
  | filterState
  | podState
  | tankState
  | historyPending
  | hardWater
  | frontSeen
  | changeoverPending
  | changeoverDone
  | regenDeferred
  | regenDone
  | saltFillSeen
  | saltReminder
  | saltBridgeSuspect
  | flushDone
  | cartridgeDue
  | leakTrip
  | leakCleared
  | testResult
  | microleak
  | freezeWarn
  | podEnrolled
  | requestDone
  | fault
  deriving DecidableEq, Repr

/-- One notice (R180). The in-flight mark is that of R183. -/
structure Notice where
  kind : NoticeKind
  subject : Subject
  stamp : Stamp
  v1 : Int
  v2 : Int
  v3 : Int
  merges : Nat := 0
  inFlight : Bool := false
  deriving DecidableEq, Repr

/-- The Notice Queue (R180), volatile, oldest first. -/
structure NoticeQueue where
  queue : List Notice := []
  lost : Bool := false
  deriving DecidableEq, Repr

/-! ### Metering Unit -/

/-- The seven totals (R7), in mL, retained. -/
structure Totals where
  inlet : Nat := 0
  process : Nat := 0
  house : Nat := 0
  flush : Nat := 0
  treatedA : Nat := 0
  treatedB : Nat := 0
  hardWater : Nat := 0
  deriving DecidableEq, Repr

/-- The flags of an hour (R14). -/
structure HourFlags where
  leakTrip : Bool := false
  regen : Bool := false
  shutoffClosed : Bool := false
  onBattery : Bool := false
  clockSet : Bool := false
  deriving DecidableEq, Repr

/-- The open hour (R14), retained. -/
structure OpenHour where
  day : Nat := 0
  hour : Nat := 0
  volume : Nat := 0
  flags : HourFlags := {}
  recordable : Bool := false
  deriving DecidableEq, Repr

/-- One record of the usage history (section 1.7), with the in-flight mark of R17. -/
structure HistoryRecord where
  day : Nat
  hour : Nat
  litres : Nat
  flags : HourFlags
  repeats : Nat
  inFlight : Bool := false
  deriving DecidableEq, Repr

/-- The usage history ring, its read cursor (the index of the first unread record) and GAP, retained, and the volatile
arming of HISTORY_PENDING (R15, R18). -/
structure History where
  ring : List HistoryRecord := []
  cursor : Nat := 0
  gap : Bool := false
  armed : Bool := true
  deriving DecidableEq, Repr

/-- The per-second figures of the last metering second (R6), volatile. -/
structure Figures where
  vIn : Nat := 0
  vProc : Nat := 0
  vFl : Nat := 0
  vTr : Nat := 0
  vH : Nat := 0
  shares : PerTank Nat := ⟨0, 0⟩
  deriving DecidableEq, Repr

/-- The pulse counters and remainders of the two meters (R2), volatile, with the mark that a changed K factor leaves for the
next metering second (R1). -/
structure Meters where
  pulsesIn : Nat := 0
  pulsesProc : Nat := 0
  remIn : Nat := 0
  remProc : Nat := 0
  kInChanged : Bool := false
  kProcChanged : Bool := false
  deriving DecidableEq, Repr

/-- The counts and windows of the three metering conditions (R9 to R11), volatile. -/
structure Conditions where
  lossCount : Nat := 0
  clearCount : Nat := 0
  lossActive : Bool := false
  unownedCount : Nat := 0
  unownedVolume : Nat := 0
  quietCount : Nat := 0
  unownedActive : Bool := false
  passing : List Nat := []
  passingActive : Bool := false
  deriving DecidableEq, Repr

/-- The Metering Unit. The seven-day ring and the open day are retained (R13). -/
structure Metering where
  meters : Meters := {}
  now : Figures := {}
  totals : Totals := {}
  cond : Conditions := {}
  week : List Nat := []
  openDay : Nat := 0
  hour : OpenHour := {}
  history : History := {}
  deriving DecidableEq, Repr

/-! ### Capacity Unit -/

/-- The learning modes of section 2.7. -/
inductive LearnMode where
  | acquisition
  | tracking
  deriving DecidableEq, Repr

/-- A capacity record (section 2.1), retained. -/
structure CapacityRecord where
  credited : Nat
  remaining : Int
  consumed : Nat := 0
  carry : Nat := 0
  learned : Nat := 1000
  mode : LearnMode := .acquisition
  smallErrors : Nat := 0
  frontSeen : Bool := false
  hardPosted : Bool := false
  exhaustionRaised : Bool := false
  deriving DecidableEq, Repr

/-- The Capacity Unit: the two records, the volatile probe run counts and fault marks (R20), and the effective hardness
(R22). -/
structure Capacity where
  recs : PerTank CapacityRecord
  runs : PerTank Nat := ⟨0, 0⟩
  probeFault : PerTank Bool := ⟨false, false⟩
  hEff : Nat := 300
  deriving DecidableEq, Repr

/-! ### Disc Positioner -/

/-- A disc position P0 to P13 (section 3.1). -/
abbrev Pos := Fin 14

/-- The positioner states of R44, and the model's own name for the 100 ms restart observation of R57, in which none
of the four is stated to hold (log entry 10). -/
inductive DiscState where
  | atPosition
  | running
  | creeping
  | fault
  | observing
  deriving DecidableEq, Repr

/-- The target of a move (section 3.3): a position, or NEXT. -/
inductive DiscTarget where
  | pos (p : Pos)
  | next
  deriving DecidableEq, Repr

/-- Who asked for the current move (section 3.3). -/
inductive Requester where
  | sequencer
  | discStep (tag : Byte)
  | restart
  deriving DecidableEq, Repr

/-- The positioner record (section 3.3), volatile; `code` is the code read when in-place was last set (R43). -/
structure Disc where
  position : Option Pos := none
  inPlace : Bool := false
  code : BitVec 4 := 0
  state : DiscState := .observing
  target : Option DiscTarget := none
  requester : Option Requester := none
  retryTag : Option Byte := none
  retriedFault : Option FaultCode := none
  legTime : Nat := 0
  overcurrent : Nat := 0
  fault : Option (FaultCode × Int) := none
  mode : DiscMode := .auto
  deriving DecidableEq, Repr

/-! ### Regeneration Sequencer -/

/-- The service states of R59. -/
inductive Service where
  | inService
  | exhausted
  | regenerating
  | ready
  | disabled
  | faulted
  deriving DecidableEq, Repr

/-- The regeneration steps. -/
inductive Step where
  | backwash
  | brine
  | rinse
  | refill
  deriving DecidableEq, Repr

/-- Where a regeneration stands within its step. -/
inductive Phase where
  | toStep
  | inStep
  | stepEnded
  | halted
  | toReady
  deriving DecidableEq, Repr

/-- The values latched at the grant (R70). -/
structure Recipe where
  dose : Nat := 120
  vr : Nat := 250
  backwash : Nat := 600
  brine : Nat := 3600
  rinse : Nat := 300
  refillLimit : Nat := 1800
  refillML : Nat := 8334
  deriving DecidableEq, Repr

/-- The deferral set (section 4.1). -/
structure Deferral where
  lineBusy : Bool := false
  onBattery : Bool := false
  shutoffClosed : Bool := false
  manual : Bool := false
  discFault : Bool := false
  halted : Bool := false
  window : Bool := false
  deriving DecidableEq, Repr

/-- The urgent mark (section 4.1). -/
inductive Urgent where
  | none
  | projected
  | forced
  deriving DecidableEq, Repr

/-- Whether the sequencer holds a claim or the grant for a tank (section 4.1). -/
inductive Claim where
  | none
  | pending
  | granted
  deriving DecidableEq, Repr

/-- A tank record (section 4.1). The elapsed time is volatile and its whole minutes are retained (R72); `suspended` says
whether the step was last found suspended (R59), which only a step IN_STEP is (log entry 51). -/
structure TankRecord where
  service : Service := .ready
  step : Option Step := .none
  phase : Option Phase := .none
  elapsed : Nat := 0
  elapsedMin : Nat := 0
  recipe : Recipe := {}
  halt : Bool := false
  hours : Nat := 0
  deferral : Deferral := {}
  urgent : Urgent := .none
  claim : Claim := .none
  regenTag : Option Byte := .none
  changeTag : Option Byte := .none
  haltTag : Option Byte := .none
  suspended : Bool := false
  deriving DecidableEq, Repr

/-- The changeover phases (section 4.1). -/
inductive ChangePhase where
  | toChange
  | dwell
  | toHold
  deriving DecidableEq, Repr

/-- The changeover record (section 4.1); the incoming tank is the other one. The dwell time is volatile. -/
structure Changeover where
  outgoing : Tank
  phase : ChangePhase
  dwell : Nat := 0
  deriving DecidableEq, Repr

/-- The Regeneration Sequencer. `chosen` is the tank chosen for service while commissioning is open (R60); `timing` and
`windowHour` are the settings as last taken at a metering second (R66), the model's own copies. -/
structure Sequencer where
  tanks : PerTank TankRecord := ⟨{}, {}⟩
  changeover : Option Changeover := none
  due : Option Tank := none
  calendar : Nat := 0
  chosen : Tank := .a
  timing : Timing := .window
  windowHour : Nat := 2
  deriving DecidableEq, Repr

/-! ### Process Line Arbiter -/

/-- The entry of a REGEN claim (section 5.1). -/
structure RegenEntry where
  granted : Bool
  tank : Tank
  continuation : Bool
  deriving DecidableEq, Repr

/-- The entry of a FLUSH claim; `high` says priority HIGH. -/
structure FlushEntry where
  granted : Bool
  high : Bool
  deriving DecidableEq, Repr

/-- The entry of a TEST claim. -/
structure TestEntry where
  granted : Bool
  deriving DecidableEq, Repr

/-- The claim table (section 5.1), volatile. The owner is read from it (`Line.owner`). -/
structure Line where
  regen : Option RegenEntry := none
  flush : Option FlushEntry := none
  test : Option TestEntry := none
  deriving DecidableEq, Repr

/-! ### Brine Monitor -/

/-- The salt states (section 6.1). -/
inductive SaltState where
  | ok
  | low
  | out
  deriving DecidableEq, Repr

/-- An open refill count (section 6.1). -/
structure RefillCount where
  tank : Tank
  volume : Nat
  deriving DecidableEq, Repr

/-- An open brine measurement (R94). `judged` is the model's own: the draw of this measurement has been judged (R95). -/
structure BrineMeasure where
  tank : Tank
  start : Nat
  lowest : Nat
  planned : Nat
  area : Nat
  saturation : Nat
  judged : Bool := false
  deriving DecidableEq, Repr

/-- The draw figures (R96). -/
structure DrawFigures where
  drawn : Nat
  completeness : Nat
  saturation : Nat
  deriving DecidableEq, Repr

/-- One entry of the salt log (section 6.1). -/
structure SaltEntry where
  grams : Nat
  stamp : Stamp
  deriving DecidableEq, Repr

/-- The bridge reference (R106). -/
structure BridgeRef where
  height : Nat
  inventory : Nat
  deriving DecidableEq, Repr

/-- The Brine Monitor: the brine record and the salt record, retained, then the volatile fault marks and due readings (R91,
R92). `postTried` says that the reading of the due time has been tried; `restartLevel`, `restartReading` and
`filledReading` are the readings still owed. -/
structure Brine where
  level : Nat := 0
  lastRefill : Nat := 8334
  refillEnd : Stamp := 0
  refill : Option RefillCount := none
  measure : Option BrineMeasure := none
  draw : Option DrawFigures := none
  inventory : Nat := 0
  height : Option Nat := none
  salt : SaltState := .ok
  log : List SaltEntry := []
  lastReminder : Nat := 0
  forecastArmed : Bool := true
  bridge : Option BridgeRef := none
  bridgePosted : Bool := false
  levelFault : Bool := false
  saltFault : Bool := false
  postDue : Option Stamp := none
  postTried : Bool := false
  restartLevel : Bool := true
  restartReading : Bool := true
  filledReading : Bool := false
  deriving DecidableEq, Repr

/-! ### Filter Monitor -/

/-- The filter states (R111). -/
inductive FilterState where
  | clean
  | loaded
  | blocked
  | flushing
  deriving DecidableEq, Repr

/-- The flush due set (section 7.4). -/
structure DueSet where
  loaded : Bool := false
  blocked : Bool := false
  volume : Bool := false
  days : Bool := false
  host : Bool := false
  deriving DecidableEq, Repr

/-- One pressure sensor: its reading in kPa and its held mark (R108). -/
structure Sensor where
  reading : Nat := 0
  held : Bool := false
  deriving DecidableEq, Repr

/-- The flush record (R115), volatile. -/
structure FlushRecord where
  elapsed : Nat := 0
  volume : Nat := 0
  time : Nat := 30
  startIndex : Nat := 0
  deriving DecidableEq, Repr

/-- The Filter Monitor. `baselineDue` is the model's own: the acquisition count has reached 60 and the baseline is not set
yet, within one metering second (log entry 3). -/
structure Filter where
  p1 : Sensor := {}
  p2 : Sensor := {}
  p3 : Sensor := {}
  flowHold : Nat := 0
  rs10 : Nat := 0
  baseline : Nat := 0
  acq : Nat := 0
  baselineDue : Bool := false
  state : FilterState := .clean
  volume : Nat := 0
  days : Nat := 0
  due : DueSet := {}
  quiet : Nat := 0
  tag : Option Byte := none
  flush : FlushRecord := {}
  solenoid : Bool := false
  cartVolume : Nat := 0
  cartDays : Nat := 0
  cartDue : Bool := false
  deriving DecidableEq, Repr

/-! ### Leak Monitor -/

/-- The causes of a trip (section 8.4). -/
inductive Cause where
  | continuous
  | volume
  | burst
  | zone (slot : Fin 8)
  | podLost (slot : Fin 8)
  | microleak
  deriving DecidableEq, Repr

/-- The flow-event detector (section 8.2), volatile; FLOWING while `active` holds the latched set, QUIET while it is
none. -/
structure Detector where
  active : Option Thresholds := none
  rising : Nat := 0
  risingVolume : Nat := 0
  gap : Nat := 0
  seconds : Nat := 0
  volume : Nat := 0
  burst : Nat := 0
  quiet : Nat := 0
  deriving DecidableEq, Repr

/-- A latched trip (section 8.4), retained. -/
structure Trip where
  first : Cause
  time : Stamp
  detail : Int
  further : List Cause
  litres : Nat
  deriving DecidableEq, Repr

/-- The phases of the pressure-hold test (section 8.5). -/
inductive TestPhase where
  | idle
  | claiming
  | closing
  | settle
  | hold
  deriving DecidableEq, Repr

/-- The results of a test (R138). -/
inductive TestResult where
  | pass
  | microleak
  | skipped
  | abandoned
  deriving DecidableEq, Repr

/-- The volatile test record (section 8.5). -/
structure TestRun where
  phase : TestPhase := .idle
  tag : Option Byte := none
  wait : Nat := 0
  settle : Nat := 0
  hold : Nat := 0
  p0 : Nat := 0
  duration : Nat := 0
  decay : Nat := 0
  draw : Nat := 0
  window : List Nat := []
  deriving DecidableEq, Repr

/-- The retained test record (section 8.5). -/
structure TestRecord where
  result : Option TestResult := none
  time : Stamp := 0
  p0 : Nat := 0
  decay : Int := 0
  microleaks : Nat := 0
  deriving DecidableEq, Repr

/-- The Leak Monitor. `testDue` is the model's own: the counter has reached the test minute and the test is not taken
yet, within one metering second (log entry 3). -/
structure Leak where
  detector : Detector := {}
  latch : Option Trip := none
  test : TestRun := {}
  record : TestRecord := {}
  testDue : Bool := false
  deriving DecidableEq, Repr

/-! ### Shutoff Controller -/

/-- The valve states (R141). -/
inductive ValveState where
  | opened
  | closing
  | closed
  | opening
  | stuck
  deriving DecidableEq, Repr

/-- The close-reason set (R142); HOST is retained. -/
structure Reasons where
  trip : Bool := false
  host : Bool := false
  test : Bool := false
  lowBattery : Bool := false
  deriving DecidableEq, Repr

/-- What the valve motor is doing (section 9.1). -/
inductive Drive where
  | stopped
  | toOpen
  | toClosed
  deriving DecidableEq, Repr

/-- A timed stop before the next drive (section 9.1). -/
inductive Pause where
  | none
  | reversal
  | retry
  deriving DecidableEq, Repr

/-- Why the valve is STUCK (section 9.1). -/
inductive StuckCause where
  | stuck (detail : Nat)
  | switch
  deriving DecidableEq, Repr

/-- The exercise phases (section 9.4). -/
inductive ExercisePhase where
  | none
  | armed
  | closeRun
  | openRun
  deriving DecidableEq, Repr

/-- The Shutoff Controller's record (section 9.1). `second` says that the attempt is SECOND; `retried` is the model's own and says
that the valve has been STUCK before a RETRY whose travel has not yet arrived, whatever became of its attempt (R143, R147; log
entry 23); `released` is what the controller notes in a CLOSE_RUN (R150). -/
structure Valve where
  state : ValveState := .opened
  reasons : Reasons := {}
  drive : Drive := .stopped
  pause : Pause := .none
  second : Bool := false
  retried : Bool := false
  travel : Nat := 0
  overcurrent : Nat := 0
  stuck : Option StuckCause := Option.none
  tag : Option Byte := Option.none
  exercise : ExercisePhase := .none
  exerciseTime : Nat := 0
  exerciseDays : Nat := 0
  released : Bool := false
  deriving DecidableEq, Repr

/-! ### Supply Monitor -/

/-- The supply states (R151). -/
inductive SupplyState where
  | mains
  | battery
  | batteryLow
  | shutdown
  deriving DecidableEq, Repr

/-- The Supply Monitor: the state, the voltage, and for each threshold the consecutive metering seconds for which the
voltage has stood beyond it (R151). -/
structure Supply where
  state : SupplyState := .mains
  battery : Nat := 12000
  below105 : Nat := 0
  below114 : Nat := 0
  above119 : Nat := 0
  deriving DecidableEq, Repr

/-! ### Pod Loop Controller -/

/-- The states of a slot (R158). -/
inductive SlotState where
  | empty
  | active
  | missing
  | lost
  deriving DecidableEq, Repr

/-- A slot record (section 10.2); the missed count and the wet candidate are volatile. -/
structure PodSlot where
  serial : Option (BitVec 32) := none
  state : SlotState := .empty
  wet : Bool := false
  wetSince : Option Stamp := none
  batteryLow : Bool := false
  tamper : Bool := false
  temperature : Int := 0
  shutoff : Bool := true
  freeze : Bool := false
  label : List Byte := []
  missed : Nat := 0
  candidate : Option Bool := none
  deriving DecidableEq, Repr

/-- The enrolment window while it is open (section 10.4), volatile. -/
structure Enrolment where
  tag : Byte
  remaining : Nat
  new : Nat := 0
  again : Nat := 0
  deriving DecidableEq, Repr

/-- A frame the controller drives on the loop (section 10.1), by its fields. -/
inductive LoopFrame where
  | poll (slot : Fin 8) (seq : Byte)
  | enrolCall
  | assign (serial : BitVec 32) (slot : Fin 8)
  deriving DecidableEq, Repr

/-- The Pod Loop Controller. `awaiting` is the slot and sequence of the POLL whose 40 ms run, `calling` says that the 40
ms after an ENROL_CALL run, and `out` is the last frame driven on the loop output. -/
structure Pods where
  slots : Vector PodSlot 8 := Vector.replicate 8 {}
  position : Option (Fin 8) := none
  seq : Byte := 0
  awaiting : Option (Fin 8 × Byte) := none
  calling : Bool := false
  window : Option Enrolment := none
  out : Option LoopFrame := none
  deriving DecidableEq, Repr

/-! ### Link Interface -/

/-- A complete frame (R168). -/
structure Frame where
  kind : Byte
  tag : Byte
  payload : List Byte
  crc : BitVec 16
  deriving DecidableEq, Repr

/-- What the last byte of a reply brings about beside the end of the request (R171). -/
inductive Completion where
  | plain
  | noticeTake
  | historyRead (records : Nat) (gap : Bool)
  | reset
  deriving DecidableEq, Repr

/-- The request being handled, with its reply in progress, a frame as the request is (R168, R171). -/
structure Handling where
  frame : Frame
  reply : Frame
  completion : Completion
  deriving DecidableEq, Repr

/-- The Link Interface (R169, R171), volatile; `inFrame` says that the receiver is in a frame and its 50 ms run. -/
structure Link where
  inFrame : Bool := false
  handling : Option Handling := none
  held : Option Frame := none
  overrun : Bool := false
  deriving DecidableEq, Repr

/-! ### Input pins -/

/-- The levels of the inputs that blocks read at any moment: the mains sense as last lost or returned (R151), the two end
switches (R146) and the service jumper (R175). -/
structure Pins where
  mains : Bool := true
  openEnd : Bool := true
  closedEnd : Bool := false
  svc : Bool := false
  deriving DecidableEq, Repr

/-! ### Retained memory (R190) -/

/-- The items that R190 retains, block by block, as `State.kept` reads them: a volatile field of a record stands at the value a
restart gives it. -/
structure Retained where
  settings : Settings
  totals : Totals
  week : List Nat
  openDay : Nat
  hour : OpenHour
  history : History
  recs : PerTank CapacityRecord
  tanks : PerTank TankRecord
  changeover : Option Changeover
  due : Option Tank
  brine : Brine
  filter : Filter
  latch : Option Trip
  record : TestRecord
  host : Bool
  exerciseDays : Nat
  slots : Vector PodSlot 8
  faults : FaultLog
  deriving DecidableEq, Repr

/-! ### The part -/

/-- The whole state of the part, and the queue of the commands that wait. `before` is the model's own: the retained items as they
stood before the last event that changed one of them, which retained memory holds again when that event's group is lost (R190, log
entry 32). -/
structure State where
  settings : Settings
  clock : Clock
  meter : Metering
  cap : Capacity
  disc : Disc
  seq : Sequencer
  line : Line
  brine : Brine
  filter : Filter
  leak : Leak
  valve : Valve
  supply : Supply
  pods : Pods
  link : Link
  notices : NoticeQueue
  faults : FaultLog
  pins : Pins
  before : Option Retained
  pending : List Instr
  deriving DecidableEq, Repr

/-- The capacity record that commissioning leaves (R27): 1,250,000 mg at the default dose and resin volume. -/
def CapacityRecord.commissioned : CapacityRecord := { credited := 1250000, remaining := 1250000 }

/-- The notices a first start posts (R154, R155): SUPPLY_STATE with the state and the voltage, and SHUTOFF_STATE with the valve
state, the close-reason set and the exercise phase. -/
def NoticeQueue.firstStart : List Notice :=
  [ { kind := .supplyState, subject := .none, stamp := 0, v1 := 0, v2 := 12000, v3 := Config.unusedValue 1 3 },
    { kind := .shutoffState, subject := .none, stamp := 0, v1 := 0, v2 := 0, v3 := 0 } ]

/-- The part right after reset: a first start (R60), with mains present, the battery at 12,000 mV, the valve at OPEN_END and
the service jumper off (log entry 1), before the restart observation of the disc has ended. -/
def State.reset : State where
  settings := {}
  clock := {}
  meter := {}
  cap := { recs := ⟨CapacityRecord.commissioned, CapacityRecord.commissioned⟩ }
  disc := {}
  seq := {}
  line := {}
  brine := {}
  filter := {}
  leak := {}
  valve := {}
  supply := {}
  pods := {}
  link := {}
  notices := { queue := NoticeQueue.firstStart }
  faults := {}
  pins := {}
  before := none
  pending := []

end Sys2Proof.Machine
end

