-- ==== Sys2Proof/Machine/Flags.lean ====
section
/-! DEFINITION. The codes under which names, sets and marks are carried on the line (R172, R173, R177, R180 to R186), and the
marks that are read from other state. -/

namespace Sys2Proof.Machine

/-! ### Marks and absent values (R173) -/

/-- A mark carried in a field: 1 when set (log entry 11). -/
def markCode (b : Bool) : Nat := if b then 1 else 0

/-- An enumeration's byte, with none as all bits set (R173). -/
def codeOr255 {α : Type} (f : α → Nat) : Option α → Nat
  | none => 255
  | some x => f x

/-- A set of up to eight members, bit 0 for the first member listed (R173). -/
def setCode : List Bool → Nat
  | [] => 0
  | b :: bs => markCode b + 2 * setCode bs

/-! ### Enumerations, counted in the order the owning chapter first lists the values (R173) -/

/-- Tanks: 0 and 1, as a request field carries them (R173, log entry 12). -/
def tankCode : Tank → Nat
  | .a => 0
  | .b => 1

/-- Disc modes, by setting 35. -/
def discModeCode : DiscMode → Nat
  | .auto => 0
  | .manual => 1

/-- Timing, by setting 25. -/
def timingCode : Timing → Nat
  | .immediate => 0
  | .window => 1

/-- Leak modes, by setting 50. -/
def leakModeCode : LeakMode → Nat
  | .home => 0
  | .away => 1
  | .vacation => 2

/-- Actions, by settings 51, 67 and 70. -/
def leakActionCode : LeakAction → Nat
  | .notify => 0
  | .close => 1

/-- The low-battery action, by setting 69. -/
def lowBatteryCode : LowBatteryAction → Nat
  | .hold => 0
  | .close => 1

/-- Fault codes (R185). -/
def faultCodeOf : FaultCode → Nat
  | .meterLoss => 1
  | .processFlowUnowned => 2
  | .valvePassing => 3
  | .shutoffStuck => 4
  | .shutoffSwitch => 5
  | .shutoffSeized => 6
  | .discStall => 7
  | .discCode => 8
  | .discMissed => 9
  | .discTimeout => 10
  | .brineDrawFail => 11
  | .refillShort => 12
  | .flushNoFlow => 13
  | .pressureSensor => 14
  | .levelSensor => 15
  | .saltSensor => 16
  | .bedProbe => 17
  | .podLost => 18
  | .batteryLow => 19

/-- Notice kinds (section 12.2). -/
def noticeCode : NoticeKind → Nat
  | .supplyState => 1
  | .shutoffState => 2
  | .saltState => 3
  | .filterState => 4
  | .podState => 5
  | .tankState => 6
  | .historyPending => 16
  | .hardWater => 17
  | .frontSeen => 18
  | .changeoverPending => 19
  | .changeoverDone => 20
  | .regenDeferred => 21
  | .regenDone => 22
  | .saltFillSeen => 23
  | .saltReminder => 24
  | .saltBridgeSuspect => 25
  | .flushDone => 26
  | .cartridgeDue => 27
  | .leakTrip => 28
  | .leakCleared => 29
  | .testResult => 30
  | .microleak => 31
  | .freezeWarn => 32
  | .podEnrolled => 33
  | .requestDone => 34
  | .fault => 35

/-- The class of a notice kind: the six state kinds have the codes 1 to 6 (section 12.2). -/
def isStateKind (k : NoticeKind) : Bool := noticeCode k ≤ 6

/-- Subjects (R173). -/
def subjectCode : Subject → Nat
  | .slot n => n.val
  | .tank .a => 0x10
  | .tank .b => 0x11
  | .sensor n => 0x21 + n.val
  | .none => 0xFF

/-- Service states (R59). -/
def serviceCode : Service → Nat
  | .inService => 0
  | .exhausted => 1
  | .regenerating => 2
  | .ready => 3
  | .disabled => 4
  | .faulted => 5

/-- Regeneration steps (section 4.1). -/
def stepCode : Step → Nat
  | .backwash => 0
  | .brine => 1
  | .rinse => 2
  | .refill => 3

/-- Phases (section 4.1). -/
def phaseCode : Phase → Nat
  | .toStep => 0
  | .inStep => 1
  | .stepEnded => 2
  | .halted => 3
  | .toReady => 4

/-- Changeover phases (section 4.1). -/
def changePhaseCode : ChangePhase → Nat
  | .toChange => 0
  | .dwell => 1
  | .toHold => 2

/-- Salt states (section 6.1). -/
def saltCode : SaltState → Nat
  | .ok => 0
  | .low => 1
  | .out => 2

/-- Filter states (R111). -/
def filterCode : FilterState → Nat
  | .clean => 0
  | .loaded => 1
  | .blocked => 2
  | .flushing => 3

/-- Causes (R130). -/
def causeCode : Cause → Nat
  | .continuous => 0
  | .volume => 1
  | .burst => 2
  | .zone _ => 3
  | .podLost _ => 4
  | .microleak => 5

/-- The slot of a cause, 0xFF for a cause without one (R130). -/
def causeSlot : Cause → Nat
  | .zone n => n.val
  | .podLost n => n.val
  | _ => 255

/-- Test phases (section 8.5). -/
def testPhaseCode : TestPhase → Nat
  | .idle => 0
  | .claiming => 1
  | .closing => 2
  | .settle => 3
  | .hold => 4

/-- Test results (R138). -/
def testResultCode : TestResult → Nat
  | .pass => 0
  | .microleak => 1
  | .skipped => 2
  | .abandoned => 3

/-- Valve states (R173). -/
def valveCode : ValveState → Nat
  | .opened => 0
  | .closing => 1
  | .closed => 2
  | .opening => 3
  | .stuck => 4

/-- Stuck causes, in the order section 9.1 lists them (R177). -/
def stuckCode : StuckCause → Nat
  | .stuck _ => 0
  | .switch => 1

/-- Exercise phases (section 9.1); NONE is the first value listed (log entry 12). -/
def exerciseCode : ExercisePhase → Nat
  | .none => 0
  | .armed => 1
  | .closeRun => 2
  | .openRun => 3

/-- Supply states (R151). -/
def supplyCode : SupplyState → Nat
  | .mains => 0
  | .battery => 1
  | .batteryLow => 2
  | .shutdown => 3

/-- Slot states (section 10.2). -/
def slotCode : SlotState → Nat
  | .empty => 0
  | .active => 1
  | .missing => 2
  | .lost => 3

/-- The positioner state byte (R44); during the restart observation the byte is a free value (log entry 10). -/
def discStateCode : DiscState → Byte
  | .atPosition => 0
  | .running => 1
  | .creeping => 2
  | .fault => 3
  | .observing => Config.observingStateCode

/-- A disc position, UNKNOWN as 14 (R177). -/
def positionCode : Option Pos → Nat
  | some p => p.val
  | none => 14

/-- A target: a position, NEXT as 15, none as 0xFF (R177). -/
def targetCode : Option DiscTarget → Nat
  | some (.pos p) => p.val
  | some .next => 15
  | none => 255

/-! ### Sets (R173) -/

/-- The close-reason set (section 9.1): TRIP, HOST, TEST, LOW_BATTERY. -/
def reasonsCode (r : Reasons) : Nat := setCode [r.trip, r.host, r.test, r.lowBattery]

/-- Whether the close-reason set holds a reason, that is, whether the target is CLOSED (R142). -/
def Reasons.any (r : Reasons) : Bool := r.trip || r.host || r.test || r.lowBattery

/-- The deferral set, in the order of section 4.1. -/
def deferralCode (d : Deferral) : Nat :=
  setCode [d.lineBusy, d.onBattery, d.shutoffClosed, d.manual, d.discFault, d.halted, d.window]

/-- The flush due set, in the order of section 7.4. -/
def dueCode (d : DueSet) : Nat := setCode [d.loaded, d.blocked, d.volume, d.days, d.host]

/-- Whether the due set holds one of the automatic reasons (section 7.4). -/
def DueSet.automatic (d : DueSet) : Bool := d.loaded || d.blocked || d.volume || d.days

/-- The flags of a history record, LEAK_TRIP bit 0 to CLOCK_SET bit 4 (section 11.3). -/
def hourFlagsCode (f : HourFlags) : Nat :=
  setCode [f.leakTrip, f.regen, f.shutoffClosed, f.onBattery, f.clockSet]

/-- The flag value of POD_STATE: bit 0 wet, bit 1 battery-low, bit 2 tamper (R158). -/
def podFlagsCode (p : PodSlot) : Nat := setCode [p.wet, p.batteryLow, p.tamper]

/-- The flags byte of a pod slot record (section 11.3): POD_STATE's three bits, the shutoff flag, the freeze mark, and in bits
5 and 6 the wet candidate, 0 none, 1 dry, 2 wet. -/
def slotFlagsCode (p : PodSlot) : Nat :=
  setCode [p.wet, p.batteryLow, p.tamper, p.shutoff, p.freeze, p.candidate == some false, p.candidate == some true]

/-- The third value of TANK_STATE (R59): the phase in the low byte, and bit 8 while the step is suspended. -/
def tankFlagsCode (t : TankRecord) : Nat := codeOr255 phaseCode t.phase + 256 * markCode t.suspended

/-! ### The owner of the process line (R89) -/

/-- The owner values. -/
inductive Owner where
  | none
  | regen
  | flush
  | test
  deriving DecidableEq, Repr

/-- Owner values in the order in which R89 first lists them. NONE, a value of that list, is carried as 0 and not as the all bits set of an
absent value of R173 (DESIGN CHOICE, log entry 12). -/
def ownerCode : Owner → Nat
  | .none => 0
  | .regen => 1
  | .flush => 2
  | .test => 3

/-- Whether the REGEN entry is granted. -/
def Line.regenGranted (l : Line) : Bool := match l.regen with | some e => e.granted | none => false
/-- Whether the FLUSH entry is granted. -/
def Line.flushGranted (l : Line) : Bool := match l.flush with | some e => e.granted | none => false
/-- Whether the TEST entry is granted. -/
def Line.testGranted (l : Line) : Bool := match l.test with | some e => e.granted | none => false

/-- The owner: NONE, or the kind of the one granted entry (section 5.1). -/
def Line.owner (l : Line) : Owner :=
  if l.regenGranted then .regen else if l.flushGranted then .flush else if l.testGranted then .test else .none

/-- The pending set of STATUS (R177): REGEN bit 0, FLUSH bit 1, TEST bit 2, FLUSH at HIGH bit 3. -/
def Line.pendingCode (l : Line) : Nat :=
  setCode [
    (match l.regen with | some e => !e.granted | none => false),
    (match l.flush with | some e => !e.granted | none => false),
    (match l.test with | some e => !e.granted | none => false),
    (match l.flush with | some e => !e.granted && e.high | none => false)]

/-! ### Outputs read from the state -/

/-- Whether the part is stopped in SHUTDOWN (R152). -/
def State.stopped (s : State) : Bool := s.supply.state == .shutdown

/-- ATTNn is asserted while the queue holds a notice (R183) and released in SHUTDOWN (R152). -/
def State.attention (s : State) : Bool := !s.notices.queue.isEmpty && !s.stopped

/-- What drives the disc motor (R42). -/
inductive DiscMotor where
  | off
  | full
  | creep
  deriving DecidableEq, Repr

/-- The disc motor output: FULL in RUNNING, CREEP in CREEPING, stopped otherwise (R44) and in SHUTDOWN (R152). -/
def State.discMotor (s : State) : DiscMotor :=
  if s.stopped then .off
  else match s.disc.state with
    | .running => .full
    | .creeping => .creep
    | _ => .off

end Sys2Proof.Machine
end

