-- ==== Sys2Proof/Machine/Ops.lean ====
section
/-! DEFINITION. The shared operations: notices (R181, R182), the Fault Log (R186), REQUEST_DONE (R184), the clock (R188),
the tank records and TANK_STATE (R59), and integer arithmetic as section 4 of 00_scope.md names it. -/

namespace Sys2Proof.Machine

/-! ### Arithmetic (00_scope.md, section 4) -/

/-- ceil of a quotient of non-negative values. -/
def ceilDiv (n d : Nat) : Nat := (n + d - 1) / d

/-- A count that grows and saturates at `limit`. -/
def satAdd (limit n k : Nat) : Nat := min limit (n + k)

/-- clamp to a range. -/
def clampInt (lo hi v : Int) : Int := max lo (min hi v)

/-! ### Time stamps (R188) -/

/-- The time stamp of a day number and a second of day. -/
def Clock.stamp (c : Clock) : Stamp := c.day * 86400 + c.second

/-- The current time stamp. -/
def State.now (s : State) : Stamp := s.clock.stamp

/-- The hour of day. -/
def Clock.hour (c : Clock) : Nat := c.second / 3600

/-- One second's advance (R188): from 86399 to 0 of the next day, the day number standing at 65535. -/
def Clock.advance (c : Clock) : Clock :=
  if c.second ≥ 86399 then { c with second := 0, day := min 65535 (c.day + 1), midnightDue := true, hourDue := true }
  else { c with second := c.second + 1, midnightDue := false, hourDue := (c.second + 1) % 3600 == 0 }

/-! ### Notices (R180 to R182) -/

/-- The notice that stands after `n` has merged into `m` (R181): the new values and time stamp, one merge more, saturating at
255, and no longer in flight. -/
def Notice.merge (m n : Notice) : Notice :=
  { m with stamp := n.stamp, v1 := n.v1, v2 := n.v2, v3 := n.v3, merges := satAdd 255 m.merges 1, inFlight := false }

/-- Whether `n` merges into the queued notice `m` (R181). -/
def Notice.mergesInto (n m : Notice) : Bool := isStateKind n.kind && m.kind == n.kind && m.subject == n.subject

/-- A notice taken by the queue (R181, R182). -/
def NoticeQueue.post (q : NoticeQueue) (n : Notice) : NoticeQueue :=
  if q.queue.any n.mergesInto then
    { q with queue := q.queue.map fun m => if n.mergesInto m then m.merge n else m }
  else if q.queue.length < 24 then { q with queue := q.queue ++ [n] }
  else if q.queue.any fun m => isStateKind m.kind then
    { q with queue := (q.queue.eraseP fun m => isStateKind m.kind) ++ [n] }
  else { q with lost := true }

/-- A block posts a notice with three values (R181). -/
def post (k : NoticeKind) (subj : Subject) (v1 v2 v3 : Int) (s : State) : State :=
  { s with notices := s.notices.post { kind := k, subject := subj, stamp := s.now, v1 := v1, v2 := v2, v3 := v3 } }

/-- A notice whose rule states two values; the third is free (log entry 9). -/
def post2 (k : NoticeKind) (subj : Subject) (v1 v2 : Int) (s : State) : State :=
  post k subj v1 v2 (Config.unusedValue (noticeCode k) 3) s

/-- A notice whose rule states one value; the others are free (log entry 9). -/
def post1 (k : NoticeKind) (subj : Subject) (v1 : Int) (s : State) : State :=
  post k subj v1 (Config.unusedValue (noticeCode k) 2) (Config.unusedValue (noticeCode k) 3) s

/-! ### REQUEST_DONE (R184) -/

/-- The outcomes of R184. -/
inductive DoneOutcome where
  | done
  | failed
  | cancelled
  deriving DecidableEq, Repr

/-- Outcome codes (R184). -/
def outcomeCode : DoneOutcome → Nat
  | .done => 0
  | .failed => 1
  | .cancelled => 2

/-- REQUEST_DONE for a request of code `kind` (R184). -/
def requestDone (subj : Subject) (tag : Byte) (kind : Nat) (o : DoneOutcome) (v3 : Int) (s : State) : State :=
  post .requestDone subj (tag.toNat * 256 + kind) (outcomeCode o) v3 s

/-- REQUEST_DONE for a tag that may be held. -/
def requestDoneIf (subj : Subject) (tag : Option Byte) (kind : Nat) (o : DoneOutcome) (v3 : Int) (s : State) : State :=
  match tag with
  | some t => requestDone subj t kind o v3 s
  | none => s

/-! ### The Fault Log (R186) -/

/-- Whether a record is that of a code and subject. -/
def FaultRecord.isFor (c : FaultCode) (subj : Subject) (r : FaultRecord) : Bool := r.code == c && r.subject == subj

/-- A report recorded (R186). -/
def FaultLog.report (l : FaultLog) (c : FaultCode) (subj : Subject) (detail : Int) (t : Stamp) : FaultLog :=
  if l.records.any (FaultRecord.isFor c subj) then
    { l with records := l.records.map fun r =>
        if r.isFor c subj then { r with last := t, count := satAdd 255 r.count 1, detail := detail, active := true } else r }
  else if l.records.length < 8 then
    { l with records := l.records ++
        [{ code := c, subject := subj, first := t, last := t, count := 1, active := true, detail := detail }] }
  else { l with overflow := true }

/-- The count of the record of a code and subject, 0 when there is none (R186). -/
def FaultLog.countOf (l : FaultLog) (c : FaultCode) (subj : Subject) : Nat :=
  match l.records.find? (FaultRecord.isFor c subj) with
  | some r => r.count
  | none => 0

/-- A condition reported gone (R186). -/
def FaultLog.gone (l : FaultLog) (c : FaultCode) (subj : Subject) : FaultLog :=
  { l with records := l.records.map fun r => if r.isFor c subj then { r with active := false } else r }

/-- An owner reports a fault: recorded, counted or dropped with OVERFLOW, and FAULT is posted (R186). -/
def faultReport (c : FaultCode) (subj : Subject) (detail : Int) (s : State) : State :=
  let log := s.faults.report c subj detail s.now
  post .fault subj (faultCodeOf c) detail (log.countOf c subj) { s with faults := log }

/-- An owner reports a condition gone: the record's active flag is cleared and nothing is posted (R186). -/
def faultGone (c : FaultCode) (subj : Subject) (s : State) : State :=
  { s with faults := s.faults.gone c subj }

/-! ### Tank records (R59) -/

/-- The tank record of a tank. -/
def State.tank (s : State) (t : Tank) : TankRecord := s.seq.tanks.get t

/-- A tank record replaced. -/
def State.withTank (s : State) (t : Tank) (r : TankRecord) : State :=
  { s with seq := { s.seq with tanks := s.seq.tanks.set t r } }

/-- A step as a value of a notice, four signed bytes of which all bits are set for none (R59, R173). -/
def stepValue : Option Step → Int
  | some k => stepCode k
  | none => -1

/-- TANK_STATE for a tank, with its values as they stand (R59). -/
def postTank (t : Tank) (s : State) : State :=
  post .tankState (.tank t) (serviceCode (s.tank t).service) (stepValue (s.tank t).step) (tankFlagsCode (s.tank t)) s

/-- A change of a tank record that posts TANK_STATE when the service state, step, phase or suspension changed (R59). -/
def changeTank (t : Tank) (r : TankRecord) (s : State) : State :=
  let old := s.tank t
  let s' := s.withTank t r
  if old.service = r.service ∧ old.step = r.step ∧ old.phase = r.phase ∧ old.suspended = r.suspended then s'
  else postTank t s'

/-- The capacity record of a tank. -/
def State.record (s : State) (t : Tank) : CapacityRecord := s.cap.recs.get t

/-- A capacity record replaced. -/
def State.withRecord (s : State) (t : Tank) (r : CapacityRecord) : State :=
  { s with cap := { s.cap with recs := s.cap.recs.set t r } }

/-- The resin volume setting of a tank. -/
def State.resin (s : State) : Tank → Nat
  | .a => s.settings.inst.vrA
  | .b => s.settings.inst.vrB

/-- The tank that is in a regeneration or whose regeneration a disc fault stopped, if there is one. -/
def State.regenTank (s : State) : Option Tank :=
  let busy (t : Tank) : Bool := (s.tank t).service == .regenerating || (s.tank t).service == .faulted
  if busy .a then some .a else if busy .b then some .b else none

/-- The single tank IN_SERVICE, outside a dwell (R59). -/
def State.serviceTank (s : State) : Option Tank :=
  match (s.tank .a).service == .inService, (s.tank .b).service == .inService with
  | true, false => some .a
  | false, true => some .b
  | _, _ => none

/-- The target of the shutoff valve is CLOSED (R142). -/
def State.targetClosed (s : State) : Bool := s.valve.reasons.any

/-- The state with the level of the service jumper as a command finds it (R172, R175, R178). -/
def State.withSvc (svc : Bool) (s : State) : State := { s with pins := { s.pins with svc := svc } }

/-! ### Retained memory (R190) -/

/-- The retained part of a tank record (R59). -/
def TankRecord.kept (r : TankRecord) : TankRecord :=
  { r with
    elapsed := 0, deferral := {}, urgent := .none, claim := .none, regenTag := none, changeTag := none, haltTag := none
    suspended := false }

/-- The retained part of the Brine Monitor (R107). -/
def Brine.kept (b : Brine) : Brine :=
  { b with
    levelFault := false, saltFault := false, postDue := none, postTried := false, restartLevel := true
    restartReading := true, filledReading := false }

/-- The retained part of the Filter Monitor (R120). -/
def Filter.kept (f : Filter) : Filter :=
  { f with
    p1 := {}, p2 := {}, p3 := {}, flowHold := 0, baselineDue := false, due := { f.due with host := false }, quiet := 0
    tag := none, flush := {}, solenoid := false }

/-- The retained part of the usage history (R15, R18). -/
def History.kept (h : History) : History :=
  { h with ring := h.ring.map (fun r => { r with inFlight := false }), armed := true }

/-- The retained part of a slot record (R158). -/
def PodSlot.kept (p : PodSlot) : PodSlot := { p with missed := 0, candidate := none }

/-- What retained memory holds (R190). -/
def State.kept (s : State) : Retained where
  settings := s.settings
  totals := s.meter.totals
  week := s.meter.week
  openDay := s.meter.openDay
  hour := s.meter.hour
  history := s.meter.history.kept
  recs := s.cap.recs
  tanks := ⟨(s.tank .a).kept, (s.tank .b).kept⟩
  changeover := s.seq.changeover.map fun c => { c with dwell := 0 }
  due := s.seq.due
  brine := s.brine.kept
  filter := s.filter.kept
  latch := s.leak.latch
  record := s.leak.record
  host := s.valve.reasons.host
  exerciseDays := s.valve.exerciseDays
  slots := s.pods.slots.map PodSlot.kept
  faults := s.faults

/-- A tank record with the retained items `m`; whether its step was last found suspended stays (R59, log entry 17). -/
def TankRecord.recall (m r : TankRecord) : TankRecord := { m with suspended := r.suspended }

/-- The state with the retained items `m`. A restart follows, which gives the volatile items their values. The counter and CLOCK_UNSET are
not retained: a warm reset that loses the group of a CLOCK_SET or of a metering second keeps them as that event left them (R188 against
R190; DESIGN CHOICE, log entry 32). -/
def State.recall (m : Retained) (s : State) : State :=
  { s with
    settings := m.settings
    meter := { s.meter with
      totals := m.totals, week := m.week, openDay := m.openDay, hour := m.hour, history := m.history }
    cap := { s.cap with recs := m.recs }
    seq := { s.seq with
      tanks := ⟨m.tanks.a.recall (s.tank .a), m.tanks.b.recall (s.tank .b)⟩, changeover := m.changeover, due := m.due }
    brine := m.brine
    filter := m.filter
    leak := { s.leak with latch := m.latch, record := m.record }
    valve := { s.valve with reasons := { s.valve.reasons with host := m.host }, exerciseDays := m.exerciseDays }
    pods := { s.pods with slots := m.slots }
    faults := m.faults }

/-- The state as a restart finds it: with the last group of retained writes lost, every retained item is at its value before that
group's event. Either way that group's write is over, and no group is left to be lost (R190). -/
def State.found (lost : Bool) (s : State) : State :=
  match lost, s.before with
  | true, some m => { s.recall m with before := none }
  | _, _ => { s with before := none }

/-- The state `t` after an event in `s`: when the event changed a retained item, its changes are the last group, which may yet be lost
(R190, log entry 32); otherwise the last group is the one that `t` names, none after a restart. -/
def State.since (s t : State) : State :=
  { t with before := if t.kept = s.kept then t.before else some s.kept }

end Sys2Proof.Machine
end

