-- ==== Sys2Proof/Machine/Settings.lean ====
section
/-! DEFINITION. The settings table (section 11.4): the range of each id, the clamp of R175 step 3, and reading and writing a
setting by its id. -/

namespace Sys2Proof.Machine

/-- One row of the settings table: its kind, whether its range is "0 or a–b", and a and b. -/
structure SettingRow where
  installer : Bool
  orZero : Bool
  lo : Int
  hi : Int
  deriving DecidableEq, Repr

/-- An installer setting with a plain range. -/
def SettingRow.inst (lo hi : Int) : SettingRow := ⟨true, false, lo, hi⟩
/-- A user setting with a plain range. -/
def SettingRow.user (lo hi : Int) : SettingRow := ⟨false, false, lo, hi⟩

/-- The row of an id, none for an id not in the table (section 11.4). -/
def settingRow : Nat → Option SettingRow
  | 1 => some ⟨true, true, 50, 1000⟩
  | 2 => some ⟨true, true, 50, 1000⟩
  | 3 => some (.inst 100 60000)
  | 4 => some (.inst 100 60000)
  | 5 => some ⟨true, true, 500, 900⟩
  | 6 => some (.inst 500 6000)
  | 7 => some (.inst 300 1500)
  | 8 => some (.inst 0 1)
  | 9 => some (.inst 500 1400)
  | 10 => some (.inst 10 200)
  | 11 => some (.inst 5 60)
  | 12 => some (.inst 10 120)
  | 13 => some (.inst 100 1000)
  | 20 => some (.user 0 1710)
  | 21 => some (.user 0 200)
  | 22 => some (.user 0 120)
  | 23 => some (.user 80 240)
  | 24 => some (.user 0 200)
  | 25 => some (.user 0 1)
  | 26 => some (.user 0 23)
  | 27 => some (.user 0 30)
  | 28 => some (.user 60 1200)
  | 29 => some (.user 600 5400)
  | 30 => some (.user 60 1200)
  | 31 => some (.user 300 3600)
  | 32 => some (.user 30 360)
  | 33 => some (.user 50 5000)
  | 34 => some (.user 1 14)
  | 35 => some (.user 0 1)
  | 40 => some (.user 10 500)
  | 41 => some (.user 20 999)
  | 42 => some ⟨false, true, 1000, 100000⟩
  | 43 => some (.user 0 60)
  | 44 => some (.user 10 120)
  | 45 => some (.user 20 500)
  | 46 => some ⟨false, true, 1000, 200000⟩
  | 47 => some (.user 0 24)
  | 48 => some (.user 5 500)
  | 50 => some (.user 0 2)
  | 51 => some (.user 0 1)
  | 52 => some (.user 1 100)
  | 53 => some (.user 60 14400)
  | 54 => some (.user 10 5000)
  | 55 => some (.user 50 2000)
  | 56 => some (.user 5 600)
  | 57 => some (.user 1 100)
  | 58 => some (.user 60 14400)
  | 59 => some (.user 10 5000)
  | 60 => some (.user 50 2000)
  | 61 => some (.user 5 600)
  | 62 => some (.user 5 300)
  | 63 => some (.user 0 1440)
  | 64 => some (.user 60 1800)
  | 65 => some (.user 5 200)
  | 66 => some (.user 20 300)
  | 67 => some (.user 0 1)
  | 68 => some (.user 0 90)
  | 69 => some (.user 0 1)
  | 70 => some (.user 0 1)
  | 71 => some (.user (-5) 10)
  | 80 => some (.user 20 600)
  | 81 => some (.user 1 100)
  | 82 => some (.user 0 30)
  | 83 => some (.user 0 60)
  | _ => none

/-- The value brought into range (R175 step 3). -/
def SettingRow.clamp (r : SettingRow) (v : Int) : Int :=
  if r.orZero && decide (v ≤ 0) then 0 else if v < r.lo then r.lo else if r.hi < v then r.hi else v

/-- The disc mode of a code. -/
def discModeOf (v : Int) : DiscMode := if v = 1 then .manual else .auto
/-- The timing of a code. -/
def timingOf (v : Int) : Timing := if v = 1 then .window else .immediate
/-- The leak mode of a code. -/
def leakModeOf (v : Int) : LeakMode := if v = 2 then .vacation else if v = 1 then .away else .home
/-- The action of a code. -/
def leakActionOf (v : Int) : LeakAction := if v = 1 then .close else .notify
/-- The low-battery action of a code. -/
def lowBatteryOf (v : Int) : LowBatteryAction := if v = 1 then .close else .hold

/-- The value in force of a setting (R175), as GET carries it; 0 for an id not in the table, which no rule reads. -/
def Settings.get (c : Settings) : Nat → Int
  | 1 => c.inst.vrA
  | 2 => c.inst.vrB
  | 3 => c.inst.kIn
  | 4 => c.inst.kProc
  | 5 => c.inst.probeDepth
  | 6 => c.inst.brineArea
  | 7 => c.inst.tankDepth
  | 8 => markCode c.inst.sensorFitted
  | 9 => c.inst.saltDensity
  | 10 => c.inst.saltCapacity
  | 11 => c.inst.travelLimit
  | 12 => c.inst.overlap
  | 13 => c.inst.qRef
  | 20 => c.user.soft.hardness
  | 21 => c.user.soft.iron
  | 22 => c.user.soft.ironWeight
  | 23 => c.user.soft.dose
  | 24 => c.user.soft.margin
  | 25 => timingCode c.user.soft.timing
  | 26 => c.user.soft.windowHour
  | 27 => c.user.soft.maxServiceDays
  | 28 => c.user.soft.backwash
  | 29 => c.user.soft.brine
  | 30 => c.user.soft.rinse
  | 31 => c.user.soft.refillLimit
  | 32 => c.user.soft.dissolveTime
  | 33 => c.user.soft.designUse
  | 34 => c.user.soft.calendarDays
  | 35 => discModeCode c.user.soft.discMode
  | 40 => c.user.filter.flushIndex
  | 41 => c.user.filter.blockIndex
  | 42 => c.user.filter.flushVolume
  | 43 => c.user.filter.flushDays
  | 44 => c.user.filter.flushTime
  | 45 => c.user.filter.qMin
  | 46 => c.user.filter.cartVolume
  | 47 => c.user.filter.cartMonths
  | 48 => c.user.filter.cartIndex
  | 50 => leakModeCode c.user.leak.mode
  | 51 => leakActionCode c.user.leak.action
  | 52 => c.user.leak.home.trickle
  | 53 => c.user.leak.home.continuous
  | 54 => c.user.leak.home.volume
  | 55 => c.user.leak.home.burstRate
  | 56 => c.user.leak.home.burstTime
  | 57 => c.user.leak.away.trickle
  | 58 => c.user.leak.away.continuous
  | 59 => c.user.leak.away.volume
  | 60 => c.user.leak.away.burstRate
  | 61 => c.user.leak.away.burstTime
  | 62 => c.user.leak.quietGap
  | 63 => c.user.leak.testMinute
  | 64 => c.user.leak.testDuration
  | 65 => c.user.leak.testDecay
  | 66 => c.user.leak.drawDrop
  | 67 => leakActionCode c.user.leak.microleakAction
  | 68 => c.user.leak.exerciseDays
  | 69 => lowBatteryCode c.user.leak.lowBatteryAction
  | 70 => leakActionCode c.user.leak.podLostAction
  | 71 => c.user.leak.freeze
  | 80 => c.user.salt.lowMark
  | 81 => c.user.salt.lowKg
  | 82 => c.user.salt.reminderDays
  | 83 => c.user.salt.forecastDays
  | _ => 0

/-- The table with the value of one setting replaced (R175 step 5). -/
def Settings.put (c : Settings) (id : Nat) (v : Int) : Settings :=
  match id with
  | 1 => { c with inst.vrA := v.toNat }
  | 2 => { c with inst.vrB := v.toNat }
  | 3 => { c with inst.kIn := v.toNat }
  | 4 => { c with inst.kProc := v.toNat }
  | 5 => { c with inst.probeDepth := v.toNat }
  | 6 => { c with inst.brineArea := v.toNat }
  | 7 => { c with inst.tankDepth := v.toNat }
  | 8 => { c with inst.sensorFitted := v == 1 }
  | 9 => { c with inst.saltDensity := v.toNat }
  | 10 => { c with inst.saltCapacity := v.toNat }
  | 11 => { c with inst.travelLimit := v.toNat }
  | 12 => { c with inst.overlap := v.toNat }
  | 13 => { c with inst.qRef := v.toNat }
  | 20 => { c with user.soft.hardness := v.toNat }
  | 21 => { c with user.soft.iron := v.toNat }
  | 22 => { c with user.soft.ironWeight := v.toNat }
  | 23 => { c with user.soft.dose := v.toNat }
  | 24 => { c with user.soft.margin := v.toNat }
  | 25 => { c with user.soft.timing := timingOf v }
  | 26 => { c with user.soft.windowHour := v.toNat }
  | 27 => { c with user.soft.maxServiceDays := v.toNat }
  | 28 => { c with user.soft.backwash := v.toNat }
  | 29 => { c with user.soft.brine := v.toNat }
  | 30 => { c with user.soft.rinse := v.toNat }
  | 31 => { c with user.soft.refillLimit := v.toNat }
  | 32 => { c with user.soft.dissolveTime := v.toNat }
  | 33 => { c with user.soft.designUse := v.toNat }
  | 34 => { c with user.soft.calendarDays := v.toNat }
  | 35 => { c with user.soft.discMode := discModeOf v }
  | 40 => { c with user.filter.flushIndex := v.toNat }
  | 41 => { c with user.filter.blockIndex := v.toNat }
  | 42 => { c with user.filter.flushVolume := v.toNat }
  | 43 => { c with user.filter.flushDays := v.toNat }
  | 44 => { c with user.filter.flushTime := v.toNat }
  | 45 => { c with user.filter.qMin := v.toNat }
  | 46 => { c with user.filter.cartVolume := v.toNat }
  | 47 => { c with user.filter.cartMonths := v.toNat }
  | 48 => { c with user.filter.cartIndex := v.toNat }
  | 50 => { c with user.leak.mode := leakModeOf v }
  | 51 => { c with user.leak.action := leakActionOf v }
  | 52 => { c with user.leak.home.trickle := v.toNat }
  | 53 => { c with user.leak.home.continuous := v.toNat }
  | 54 => { c with user.leak.home.volume := v.toNat }
  | 55 => { c with user.leak.home.burstRate := v.toNat }
  | 56 => { c with user.leak.home.burstTime := v.toNat }
  | 57 => { c with user.leak.away.trickle := v.toNat }
  | 58 => { c with user.leak.away.continuous := v.toNat }
  | 59 => { c with user.leak.away.volume := v.toNat }
  | 60 => { c with user.leak.away.burstRate := v.toNat }
  | 61 => { c with user.leak.away.burstTime := v.toNat }
  | 62 => { c with user.leak.quietGap := v.toNat }
  | 63 => { c with user.leak.testMinute := v.toNat }
  | 64 => { c with user.leak.testDuration := v.toNat }
  | 65 => { c with user.leak.testDecay := v.toNat }
  | 66 => { c with user.leak.drawDrop := v.toNat }
  | 67 => { c with user.leak.microleakAction := leakActionOf v }
  | 68 => { c with user.leak.exerciseDays := v.toNat }
  | 69 => { c with user.leak.lowBatteryAction := lowBatteryOf v }
  | 70 => { c with user.leak.podLostAction := leakActionOf v }
  | 71 => { c with user.leak.freeze := v }
  | 80 => { c with user.salt.lowMark := v.toNat }
  | 81 => { c with user.salt.lowKg := v.toNat }
  | 82 => { c with user.salt.reminderDays := v.toNat }
  | 83 => { c with user.salt.forecastDays := v.toNat }
  | _ => c

end Sys2Proof.Machine
end

