-- ==== Sys2Proof/Machine/Capacity.lean ====
section
/-! DEFINITION. The Capacity Unit (02_softening_capacity_accounting.md, R20 to R41): effective hardness, the dose curve,
credit, depletion, the switch point, bed-probe learning and the projection. -/

namespace Sys2Proof.Machine

/-! ### Effective hardness and the dose curve -/

/-- H_eff (R22). -/
def effectiveHardness (c : SofteningSettings) : Nat :=
  min 2000 (c.hardness + (c.ironWeight * c.iron + 5) / 10)

/-- H_eff recomputed from the settings as they stand (R22). -/
def recomputeHardness (s : State) : State :=
  { s with cap := { s.cap with hEff := effectiveHardness s.settings.user.soft } }

/-- cap(D), the capacity of a litre of resin at dose D, from the five points of the curve (R23). -/
def doseCapacity (d : Nat) : Nat :=
  if 240 ≤ d then 68000
  else if 200 ≤ d then 63000 + 5000 * (d - 200) / 40
  else if 160 ≤ d then 57000 + 6000 * (d - 160) / 40
  else if 120 ≤ d then 50000 + 7000 * (d - 120) / 40
  else 40000 + 10000 * (d - 80) / 40

/-- The rated capacity of a dose and a resin volume (R24). -/
def ratedCapacity (dose vr : Nat) : Nat := doseCapacity dose * vr / 10

/-- refill_mL of a dose and a resin volume (R40, R70). -/
def refillOf (dose vr : Nat) : Nat := ceilDiv (dose * vr * 100) 360

/-! ### Credit -/

/-- The record after a credit (R26 steps 2 to 5). -/
def CapacityRecord.credit (r : CapacityRecord) (rated b : Nat) : CapacityRecord :=
  let c := rated * r.learned / 1000 * b / 1000
  { r with credited := c, remaining := c, consumed := 0, carry := 0,
           frontSeen := false, hardPosted := false, exhaustionRaised := false }

/-- The credit of a tank at the end of its regeneration, from the latched recipe and the brine factor (R26). -/
def creditTank (t : Tank) (b : Nat) (s : State) : State :=
  let k := (s.tank t).recipe
  { s with cap := { s.cap with
      recs := s.cap.recs.set t ((s.record t).credit (ratedCapacity k.dose k.vr) b)
      runs := s.cap.runs.set t 0 } }

/-- A tank made DISABLED has no capacity (R28). -/
def disableCapacity (t : Tank) (s : State) : State :=
  { s with cap := { s.cap with
      recs := s.cap.recs.set t { s.record t with
        credited := 0, remaining := 0, consumed := 0, carry := 0,
        frontSeen := false, hardPosted := false, exhaustionRaised := false }
      runs := s.cap.runs.set t 0 } }

/-- The learned factor, the learning mode and the small-error count at their first-start values (R20, R28). -/
def resetLearning (t : Tank) (s : State) : State :=
  s.withRecord t { s.record t with learned := 1000, mode := .acquisition, smallErrors := 0 }

/-- The probe run count of a tank back at 0 (R33). -/
def clearRun (t : Tank) (s : State) : State :=
  { s with cap := { s.cap with runs := s.cap.runs.set t 0 } }

/-! ### Depletion -/

/-- The record after a share of `v` mL (R29). The consumed field saturates at the end of its range of section 2.1, of which R29 does not
speak (DESIGN CHOICE, log entry 46). -/
def CapacityRecord.deplete (r : CapacityRecord) (hEff v : Nat) : CapacityRecord :=
  let load := v * hEff + r.carry
  let mg := load / 1000
  { r with carry := load - mg * 1000
           consumed := satAdd 2147483647 r.consumed mg
           remaining := max (-10000000) (r.remaining - mg) }

/-- HARD_WATER posted once between credits when remaining capacity is below 0 (R30). -/
def hardWater (t : Tank) (s : State) : State :=
  let r := s.record t
  if r.remaining < 0 ∧ r.hardPosted = false then
    post .hardWater (.tank t) r.remaining r.credited s.cap.hEff (s.withRecord t { r with hardPosted := true })
  else s

/-- A tank's share depletes it; passing from 0 or above to below 0 posts HARD_WATER (R29, R30). -/
def depleteTank (t : Tank) (v : Nat) (s : State) : State :=
  let r := s.record t
  let s' := s.withRecord t (r.deplete s.cap.hEff v)
  if 0 ≤ r.remaining then hardWater t s' else s'

/-! ### Switch point and exhaustion -/

/-- The switch point (R31). -/
def switchPoint (r : CapacityRecord) (margin : Nat) : Nat := r.credited * margin / 1000

/-- Whether a record stands at or below its switch point with its exhaustion not yet raised (R31). -/
def exhaustionDue (r : CapacityRecord) (margin : Nat) : Bool :=
  decide (r.remaining ≤ (switchPoint r margin : Int)) && !r.exhaustionRaised

/-- The remaining per-mille of STATUS (R32). -/
def remainingPermille (r : CapacityRecord) : Nat :=
  if r.credited = 0 then 0 else r.remaining.toNat * 1000 / r.credited

/-! ### Bed-probe learning -/

/-- The learning mode and small-error count after an error `e` (R36). -/
def learnMode (m : LearnMode) (small : Nat) (e : Int) : LearnMode × Nat :=
  match m with
  | .acquisition =>
    if e.natAbs ≤ 30 then (if small = 0 then (.acquisition, 1) else (.tracking, 0)) else (.acquisition, 0)
  | .tracking => (if e.natAbs ≤ 80 then .tracking else .acquisition, 0)

/-- The true capacity seen at a front (R35). -/
def trueCapacity (r : CapacityRecord) (p : Nat) : Nat := r.consumed * 1000 / p

/-- The error of the learned factor seen at a front (R35). -/
def frontError (r : CapacityRecord) (p : Nat) : Int :=
  ((r.learned * trueCapacity r p / r.credited : Nat) : Int) - r.learned

/-- The learned factor after an error, half of it in ACQUISITION and an eighth in TRACKING, within 600 to 1100 (R35). -/
def learnFactor (l : Nat) (m : LearnMode) (e : Int) : Nat :=
  (clampInt 600 1100 (l + e.tdiv (match m with | .acquisition => 2 | .tracking => 8))).toNat

/-- The record after a detection: learned, its mode updated and its remaining capacity corrected (R35, R36, R38). -/
def CapacityRecord.front (r : CapacityRecord) (p : Nat) : CapacityRecord :=
  let e := frontError r p
  let m := learnMode r.mode r.smallErrors e
  { r with learned := learnFactor r.learned r.mode e, mode := m.1, smallErrors := m.2, frontSeen := true
           remaining := clampInt (-10000000) r.credited ((trueCapacity r p : Int) - r.consumed) }

/-- A front detected when the run count has reached 31 (R33, R35, R36, R38). -/
def frontDetected (t : Tank) (s : State) : State :=
  let r := s.record t
  let p := s.settings.inst.probeDepth
  if 31 ≤ s.cap.runs.get t ∧ p ≠ 0 ∧ r.credited ≠ 0 then
    let r' := r.front p
    hardWater t (post .frontSeen (.tank t) r'.learned (frontError r p) (trueCapacity r p)
      ((clearRun t s).withRecord t r'))
  else s

/-- Whether the run count of a tank is held at 0 (R33). METER_LOSS is read as it stands after the metering stage of the second, so the
sample of the second in which it ends is counted: the manual leaves that second open (DESIGN CHOICE, log entry 15). -/
def runHeld (t : Tank) (s : State) : Bool :=
  (s.record t).frontSeen || (s.record t).credited == 0 || s.meter.cond.lossActive

/-- A sample within 200–1800 taken into the run count (R33). -/
def probeCount (t : Tank) (x : Int) (s : State) : State :=
  let n := if runHeld t s then 0 else if x < 940 ∨ 1060 < x then s.cap.runs.get t + 1 else 0
  frontDetected t { s with cap := { s.cap with runs := s.cap.runs.set t n } }

/-- One sample of a tank's bed probe (R33, R34). -/
def probeSample (t : Tank) (x : Int) (s : State) : State :=
  if x < 200 ∨ 1800 < x then
    let s' := clearRun t s
    if s.cap.probeFault.get t then s'
    else faultReport .bedProbe (.tank t) x
      { s' with cap := { s'.cap with probeFault := s'.cap.probeFault.set t true } }
  else if s.cap.probeFault.get t then
    probeCount t x (faultGone .bedProbe (.tank t)
      { s with cap := { s.cap with probeFault := s.cap.probeFault.set t false } })
  else probeCount t x s

/-- The probe of a tank at a metering second: sampled at each tenth second while the tank is IN_SERVICE and the probe
depth is not 0 (R33). -/
def probeSecond (t : Tank) (x : Int) (s : State) : State :=
  if s.clock.second % 10 = 0 ∧ (s.tank t).service = .inService ∧ s.settings.inst.probeDepth ≠ 0 then
    probeSample t x s
  else s

/-- A set probe fault mark cleared and its condition reported gone (R37). -/
def probeFaultGone (t : Tank) (s : State) : State :=
  if s.cap.probeFault.get t then
    faultGone .bedProbe (.tank t) { s with cap := { s.cap with probeFault := s.cap.probeFault.set t false } }
  else s

/-- What a change of the probe depth does (R37). -/
def probeDepthChanged (s : State) : State :=
  let s' := { s with cap := { s.cap with runs := ⟨0, 0⟩ } }
  if s.settings.inst.probeDepth = 0 then probeFaultGone .b (probeFaultGone .a s') else s'

/-! ### Projection -/

/-- avg_L (R39). -/
def averageUse (s : State) : Nat :=
  if s.meter.week = [] then s.settings.user.soft.designUse else s.meter.week.sum / s.meter.week.length

/-- Seconds to the next window start, 24 hours at the window start itself (R40). -/
def secondsToWindow (c : Clock) (windowHour : Nat) : Nat :=
  let w := windowHour * 3600
  if c.second < w then w - c.second else w + 86400 - c.second

/-- The duration estimate of a regeneration (R40). -/
def durationEstimate (c : SofteningSettings) (vr : Nat) : Nat :=
  c.backwash + c.brine + c.rinse + ceilDiv (refillOf c.dose vr) 8 + 84

/-- The projection's horizon in hours (R40). -/
def projectionHours (t : Tank) (s : State) : Nat :=
  secondsToWindow s.clock s.settings.user.soft.windowHour / 3600
    + ceilDiv (durationEstimate s.settings.user.soft (s.resin t)) 3600

/-- The verdict of the projection for tank `t` with `carrying` in service: urgent or not (R41). -/
def projectionUrgent (t carrying : Tank) (s : State) : Bool :=
  let need := averageUse s * s.cap.hEff * projectionHours t s / 24
  let r := s.record carrying
  decide (r.remaining - switchPoint r s.settings.user.soft.margin ≤ (need : Int))

/-! ### Restarts -/

/-- What a restart does to the Capacity Unit (R20, R22). -/
def capacityRestart (s : State) : State :=
  faultGone .bedProbe (.tank .b) <| faultGone .bedProbe (.tank .a) <|
    recomputeHardness { s with cap := { s.cap with runs := ⟨0, 0⟩, probeFault := ⟨false, false⟩ } }

end Sys2Proof.Machine
end

