-- ==== Sys2Proof/Machine/Operands.lean ====
section
/-! DEFINITION. What crosses the serial line: bytes of fields (R173), the frame check (R168), frames, and the request kinds with
their payloads (section 11.3). -/

namespace Sys2Proof.Machine

/-! ### Fields (R173) -/

/-- The low `width` bytes of a number, least significant first. -/
def natBytes : Nat → Nat → List Byte
  | 0, _ => []
  | w + 1, v => BitVec.ofNat 8 v :: natBytes w (v / 256)

/-- The bytes of a field whose value does not fit it (log entry 8). -/
def unfitBytes (width : Nat) (v : Int) : List Byte := (List.range width).map fun i => Config.unfitByte width i v

/-- An unsigned field of `width` bytes. -/
def unsignedField (width v : Nat) : List Byte :=
  if v < 256 ^ width then natBytes width v else unfitBytes width v

/-- A signed field of `width` bytes, in two's complement. -/
def signedField (width : Nat) (v : Int) : List Byte :=
  if -(128 * 256 ^ (width - 1) : Int) ≤ v ∧ v < 128 * 256 ^ (width - 1) then natBytes width (v % 256 ^ width).toNat
  else unfitBytes width v

/-- An unsigned field that carries none as all bits set. -/
def optionField (width : Nat) : Option Nat → List Byte
  | none => natBytes width (256 ^ width - 1)
  | some v => unsignedField width v

/-- A mark in one byte (log entry 11). -/
def markField (b : Bool) : List Byte := unsignedField 1 (markCode b)

/-- A time stamp: the day number and then the second of day. -/
def stampField (t : Stamp) : List Byte := unsignedField 2 (t / 86400) ++ unsignedField 4 (t % 86400)

/-- A time stamp that may be none. -/
def stampOrNone : Option Stamp → List Byte
  | none => natBytes 6 (256 ^ 6 - 1)
  | some t => stampField t

/-- Two bytes of a request field, least significant first. -/
def word16 (b0 b1 : Byte) : BitVec 16 := b1 ++ b0
/-- Four bytes of a request field, least significant first. -/
def word32 (b0 b1 b2 b3 : Byte) : BitVec 32 := (b3 ++ b2) ++ (b1 ++ b0)
/-- The bytes of a 16-bit request field. -/
def bytes16 (v : BitVec 16) : List Byte := [v.extractLsb' 0 8, v.extractLsb' 8 8]
/-- The bytes of a 32-bit request field. -/
def bytes32 (v : BitVec 32) : List Byte :=
  [v.extractLsb' 0 8, v.extractLsb' 8 8, v.extractLsb' 16 8, v.extractLsb' 24 8]

/-! ### The frame check (R168) -/

/-- One bit of the CRC: polynomial 0x1021, no reflection. -/
def crcShift (c : BitVec 16) : BitVec 16 := if c.msb then (c <<< 1) ^^^ 0x1021#16 else c <<< 1

/-- One byte of the CRC. -/
def crcByte (c : BitVec 16) (b : Byte) : BitVec 16 :=
  crcShift <| crcShift <| crcShift <| crcShift <| crcShift <| crcShift <| crcShift <| crcShift <| c ^^^ (b ++ 0#8)

/-- The CRC-16 of some bytes, from the initial value 0xFFFF. -/
def crc16 (bs : List Byte) : BitVec 16 := bs.foldl crcByte 0xFFFF#16

/-- The length byte of a payload: 2 more than its bytes. -/
def lengthByte (payload : List Byte) : Byte := BitVec.ofNat 8 (payload.length + 2)

/-- The CRC of a frame's bytes 1 through the last payload byte. -/
def frameCrc (kind tag : Byte) (payload : List Byte) : BitVec 16 :=
  crc16 (lengthByte payload :: kind :: tag :: payload)

/-- Whether the frame passes its check (R170). -/
def Frame.checked (f : Frame) : Bool := f.crc == frameCrc f.kind f.tag f.payload

/-- A frame with the CRC that fits it. -/
def goodFrame (kind tag : Byte) (payload : List Byte) : Frame :=
  { kind := kind, tag := tag, payload := payload, crc := frameCrc kind tag payload }

/-- The bytes of a frame after its sync byte. -/
def Frame.bytes (f : Frame) : List Byte :=
  lengthByte f.payload :: f.kind :: f.tag :: f.payload ++ [f.crc.extractLsb' 8 8, f.crc.extractLsb' 0 8]

/-- The bytes of a frame on the line, in either direction: the sync byte first (R168). -/
def Frame.wire (f : Frame) : List Byte := 0x7E :: f.bytes

/-- The frame that the bytes after a sync byte make: a length of 2 to 250, then that many bytes and the two CRC bytes, high byte
first (R168, R169). -/
def frameOfBytes : List Byte → Option Frame
  | len :: kind :: tag :: rest =>
    if 2 ≤ len.toNat ∧ len.toNat ≤ 250 ∧ rest.length = len.toNat then
      match rest.drop (len.toNat - 2) with
      | [hi, lo] => some { kind := kind, tag := tag, payload := rest.take (len.toNat - 2), crc := hi ++ lo }
      | _ => none
    else none
  | _ => none

/-! ### Requests (section 11.3) -/

/-- The request kinds with the fields of their payloads, as they come. -/
inductive Request where
  | identify
  | status
  | get (id : Byte)
  | set (id : Byte) (value : BitVec 32)
  | clockSet (day : BitVec 16) (second : BitVec 32)
  | noticeTake
  | noticePeek
  | historyRead
  | historyClear
  | totalsRead
  | totalsClear
  | tankCmd (tank action : Byte)
  | discStep
  | discRetry
  | flushCmd
  | shutoffCmd (action : Byte)
  | leakReset (option : Byte)
  | pressureTest
  | saltFilled (grams : BitVec 32)
  | cartridgeFitted
  | podEnrol (duration : BitVec 16)
  | podRemove (slot : Byte)
  | podList
  | podLabel (slot flag : Byte) (label : List Byte)
  | faultsRead
  | faultsClear
  | defaultsRestore
  | reset
  deriving DecidableEq, Repr

/-- Kind codes of the requests that a REQUEST_DONE names. -/
def kindTankCmd : Nat := 0x10
def kindDiscStep : Nat := 0x11
def kindDiscRetry : Nat := 0x12
def kindFlushCmd : Nat := 0x13
def kindShutoffCmd : Nat := 0x14
def kindPressureTest : Nat := 0x16
def kindPodEnrol : Nat := 0x19

/-- The kind code of a request. -/
def Request.kind : Request → Byte
  | .identify => 0x01
  | .status => 0x02
  | .get _ => 0x03
  | .set _ _ => 0x04
  | .clockSet _ _ => 0x05
  | .noticeTake => 0x06
  | .noticePeek => 0x07
  | .historyRead => 0x08
  | .historyClear => 0x09
  | .totalsRead => 0x0A
  | .totalsClear => 0x0B
  | .tankCmd _ _ => 0x10
  | .discStep => 0x11
  | .discRetry => 0x12
  | .flushCmd => 0x13
  | .shutoffCmd _ => 0x14
  | .leakReset _ => 0x15
  | .pressureTest => 0x16
  | .saltFilled _ => 0x17
  | .cartridgeFitted => 0x18
  | .podEnrol _ => 0x19
  | .podRemove _ => 0x1A
  | .podList => 0x1B
  | .podLabel _ _ _ => 0x1C
  | .faultsRead => 0x1D
  | .faultsClear => 0x1E
  | .defaultsRestore => 0x1F
  | .reset => 0x20

/-- The payload of a request. -/
def Request.payload : Request → List Byte
  | .get id => [id]
  | .set id v => id :: bytes32 v
  | .clockSet d t => bytes16 d ++ bytes32 t
  | .tankCmd t a => [t, a]
  | .shutoffCmd a => [a]
  | .leakReset o => [o]
  | .saltFilled g => bytes32 g
  | .podEnrol d => bytes16 d
  | .podRemove n => [n]
  | .podLabel n f l => n :: f :: l
  | _ => []

/-- The good frame of a request. -/
def Request.frame (r : Request) (tag : Byte) : Frame := goodFrame r.kind tag r.payload

/-- What the first two dispatch tests of R172 find. -/
inductive Parsed where
  | unknownKind
  | badLength
  | request (r : Request)
  deriving DecidableEq, Repr

/-- A kind that takes no payload. -/
def parseNone (r : Request) : List Byte → Parsed
  | [] => .request r
  | _ => .badLength

/-- A kind that takes one byte. -/
def parseByte (f : Byte → Request) : List Byte → Parsed
  | [b] => .request (f b)
  | _ => .badLength

/-- A kind that takes two bytes. -/
def parseTwo (f : Byte → Byte → Request) : List Byte → Parsed
  | [a, b] => .request (f a b)
  | _ => .badLength

/-- A kind that takes one 32-bit field. -/
def parseWord (f : BitVec 32 → Request) : List Byte → Parsed
  | [a, b, c, d] => .request (f (word32 a b c d))
  | _ => .badLength

/-- The payload of SET. -/
def parseSet : List Byte → Parsed
  | [id, a, b, c, d] => .request (.set id (word32 a b c d))
  | _ => .badLength

/-- The payload of CLOCK_SET. -/
def parseClock : List Byte → Parsed
  | [a, b, c, d, e, f] => .request (.clockSet (word16 a b) (word32 c d e f))
  | _ => .badLength

/-- The payload of POD_LABEL: 2 to 18 bytes. -/
def parseLabel : List Byte → Parsed
  | n :: f :: l => if l.length ≤ 16 then .request (.podLabel n f l) else .badLength
  | _ => .badLength

/-- The first two dispatch tests (R172): the kind, then the payload length. -/
def parseRequest (kind : Byte) (p : List Byte) : Parsed :=
  match kind.toNat with
  | 0x01 => parseNone .identify p
  | 0x02 => parseNone .status p
  | 0x03 => parseByte .get p
  | 0x04 => parseSet p
  | 0x05 => parseClock p
  | 0x06 => parseNone .noticeTake p
  | 0x07 => parseNone .noticePeek p
  | 0x08 => parseNone .historyRead p
  | 0x09 => parseNone .historyClear p
  | 0x0A => parseNone .totalsRead p
  | 0x0B => parseNone .totalsClear p
  | 0x10 => parseTwo .tankCmd p
  | 0x11 => parseNone .discStep p
  | 0x12 => parseNone .discRetry p
  | 0x13 => parseNone .flushCmd p
  | 0x14 => parseByte .shutoffCmd p
  | 0x15 => parseByte .leakReset p
  | 0x16 => parseNone .pressureTest p
  | 0x17 => parseWord .saltFilled p
  | 0x18 => parseNone .cartridgeFitted p
  | 0x19 => parseTwo (fun a b => .podEnrol (word16 a b)) p
  | 0x1A => parseByte .podRemove p
  | 0x1B => parseNone .podList p
  | 0x1C => parseLabel p
  | 0x1D => parseNone .faultsRead p
  | 0x1E => parseNone .faultsClear p
  | 0x1F => parseNone .defaultsRestore p
  | 0x20 => parseNone .reset p
  | _ => .unknownKind

end Sys2Proof.Machine
end

