-- ==== Sys2Proof/Machine/Brine.lean ====
section
/-! DEFINITION. The Brine Monitor (06_brine_tank_and_salt.md, R91 to R107): sensing, the draw and the refill, the salt account,
states, reminders, the forecast and bridging. -/

namespace Sys2Proof.Machine

/-! ### Forecast and reminders (R103 to R105) -/

/-- The forecast in days, none when unknown (R104). -/
def forecast (s : State) : Option Nat :=
  match s.brine.log with
  | oldest :: second :: rest =>
    let grams := ((oldest :: second :: rest).map SaltEntry.grams).sum
    if s.now ≤ oldest.stamp then none
    else if grams = 0 then some 999
    else some (min 999 (s.brine.inventory * (s.now - oldest.stamp) / (grams * 86400)))
  | _ => none

/-- A SALT_REMINDER with its reason's code (R103). -/
def saltReminder (reason : Nat) (s : State) : State :=
  post .saltReminder .none reason (saltCode s.brine.salt)
    (match forecast s with | some d => (d : Int) | none => -1) s

/-- The forecast reminder evaluated (R105). -/
def forecastReminder (s : State) : State :=
  let days := s.settings.user.salt.forecastDays
  if days = 0 then s
  else match forecast s with
    | some d =>
      if d ≤ days then
        if s.brine.forecastArmed then
          let s' := saltReminder 2 s
          { s' with brine := { s'.brine with forecastArmed := false } }
        else s
      else { s with brine := { s.brine with forecastArmed := true } }
    | none => { s with brine := { s.brine with forecastArmed := true } }

/-- The salt state becomes `n` (R103): SALT_STATE, and then the reminder (the order DESIGN CHOICE, log entry 45). -/
def setSalt (n : SaltState) (s : State) : State :=
  let old := s.brine.salt
  if old = n then s
  else
    let s1 := { s with brine := { s.brine with salt := n } }
    let s2 := post .saltState .none (saltCode n) (s1.brine.height.getD 0) s1.brine.inventory s1
    if saltCode old < saltCode n then
      let s3 := saltReminder 0 s2
      { s3 with brine := { s3.brine with lastReminder := s3.clock.day } }
    else s2

/-- The salt state after a good reading, from the height `h`, the level `w` and the low mark (R101). -/
def saltByHeight (old : SaltState) (h w low : Nat) : SaltState :=
  match old with
  | .ok => if h ≤ w + 10 then .out else if h ≤ low then .low else .ok
  | .low => if h ≤ w + 10 then .out else if low + 40 ≤ h then .ok else .low
  | .out => if w + 50 ≤ h ∧ low + 40 ≤ h then .ok else if w + 50 ≤ h then .low else .out

/-- The salt state from the inventory `g` and low kg (R102). -/
def saltByMass (old : SaltState) (g lowKg : Nat) : SaltState :=
  match old with
  | .ok => if g ≤ 1000 then .out else if g ≤ lowKg * 1000 then .low else .ok
  | .low => if g ≤ 1000 then .out else if (lowKg + 3) * 1000 ≤ g then .ok else .low
  | .out => if 3000 ≤ g ∧ (lowKg + 3) * 1000 ≤ g then .ok else if 3000 ≤ g then .low else .out

/-- Without the sensor, the salt state is evaluated from the inventory (R102). -/
def evaluateSaltMass (s : State) : State :=
  if s.settings.inst.sensorFitted then s
  else setSalt (saltByMass s.brine.salt s.brine.inventory s.settings.user.salt.lowKg) s

/-- What follows a change of the inventory from `old`: the salt state by R102 and the forecast reminder by R105. -/
def inventoryChanged (old : Nat) (s : State) : State :=
  if s.brine.inventory = old then s else forecastReminder (evaluateSaltMass s)

/-- The salt capacity in grams. -/
def saltCapacity (s : State) : Nat := s.settings.inst.saltCapacity * 1000

/-- The measured mass of a height (R93). -/
def measuredMass (c : InstallerSettings) (h : Nat) : Nat := h * c.brineArea * c.saltDensity / 10000

/-! ### Draws (R94 to R96) -/

/-- The saturation at a BRINE start (R94). -/
def startSaturation (s : State) : Nat :=
  let m := (s.now - s.brine.refillEnd) / 60
  let sat := min 1000 (1000 * m / s.settings.user.soft.dissolveTime)
  if s.brine.salt = .out then min 300 sat else sat

/-- BRINE has started for a tank (R94). -/
def brineStart (t : Tank) (s : State) : State :=
  { s with brine := { s.brine with
      refill := none
      measure := some
        { tank := t, start := s.brine.level, lowest := s.brine.level, planned := s.brine.lastRefill,
          area := s.settings.inst.brineArea, saturation := startSaturation s } } }

/-- The drawn volume of a measurement (R95). -/
def BrineMeasure.drawn (m : BrineMeasure) : Nat := (m.start - m.lowest) * m.area / 10

/-- The draw judged at 1200 seconds (R95). -/
def judgeDraw (s : State) : State :=
  match s.brine.measure with
  | none => s
  | some m =>
    let s' := { s with brine := { s.brine with measure := some { m with judged := true } } }
    if m.planned = 0 then s'
    else if 4 * m.drawn < m.planned then faultReport .brineDrawFail (.tank m.tank) m.drawn s'
    else faultGone .brineDrawFail (.tank m.tank) s'

/-- The completeness of a measurement (R96). -/
def BrineMeasure.completeness (m : BrineMeasure) : Nat :=
  if m.planned = 0 then 0 else min 1000 (1000 * m.drawn / m.planned)

/-- BRINE has ended (R96). -/
def brineEnd (s : State) : State :=
  match s.brine.measure with
  | none => s
  | some m =>
    { s with brine := { s.brine with
        measure := none
        draw := some { drawn := m.drawn, completeness := m.completeness, saturation := m.saturation } } }

/-! ### Refills (R97) -/

/-- REFILL has started for a tank (R97). -/
def refillStart (t : Tank) (s : State) : State :=
  { s with brine := { s.brine with refill := some { tank := t, volume := 0 } } }

/-- REFILL has ended (R97). -/
def refillEnd (s : State) : State :=
  match s.brine.refill with
  | none => s
  | some c => { s with brine := { s.brine with lastRefill := c.volume, refillEnd := s.now, refill := none } }

/-- Whether a tank is in its REFILL step for the hand-on of V_proc (R71). -/
def TankRecord.refilling (r : TankRecord) : Bool := r.step == some .refill && r.phase != some .toStep

/-- Whether a tank's REFILL has ended and its READY position is not reached (R97). -/
def TankRecord.refillOver (r : TankRecord) : Bool :=
  r.step == some .refill && (r.phase == some .stepEnded || r.phase == some .halted || r.phase == some .toReady)

/-- V_proc of a second handed to the Brine Monitor (R5, R97). The volumes saturate at the range that section 6.1 gives the last refill volume,
of whose end no rule speaks (DESIGN CHOICE, log entry 46). -/
def refillSecond (v : Nat) (s : State) : State :=
  if (s.tank .a).refilling || (s.tank .b).refilling then
    match s.brine.refill with
    | some c => { s with brine := { s.brine with refill := some { c with volume := satAdd 4294967295 c.volume v } } }
    | none =>
      if (s.tank .a).refillOver || (s.tank .b).refillOver then
        { s with brine := { s.brine with lastRefill := satAdd 4294967295 s.brine.lastRefill v } }
      else s
  else s

/-- The refill volume the sequencer reads, 0 with no count open (R73, R97). -/
def refillVolume (s : State) : Nat :=
  match s.brine.refill with
  | some c => c.volume
  | none => 0

/-! ### The regeneration end (R25, R98) -/

/-- The brine factor B: the lesser of completeness and saturation, 0 with the draw figures clear (R25, R98). -/
def brineFactor (s : State) : Nat :=
  match s.brine.draw with
  | some d => min d.completeness d.saturation
  | none => 0

/-- The grams of salt used by a regeneration (R98). -/
def saltUsed (s : State) : Nat :=
  match s.brine.draw with
  | some d => d.drawn * 360 * d.saturation / 1000000
  | none => 0

/-- The Brine Monitor's work at a regeneration end after the credit: steps 4 to 8 of R98. The due time of R92 is a time stamp, which a
CLOCK_SET does not move (DESIGN CHOICE, log entry 39). -/
def brineRegenEnd (s : State) : State :=
  let grams := saltUsed s
  forecastReminder <| evaluateSaltMass { s with brine := { s.brine with
    inventory := s.brine.inventory - grams
    log := (if s.brine.log.length < 4 then s.brine.log else s.brine.log.drop (s.brine.log.length - 3))
      ++ [{ grams := grams, stamp := s.now }]
    draw := none
    postDue := some (s.now + 1800)
    postTried := false } }

/-! ### Level samples (R91) -/

/-- A level sample (R91, R95). -/
def levelSample (x : Int) (s : State) : State :=
  if 0 ≤ x ∧ x ≤ 800 then
    let s' := { s with brine := { s.brine with
      level := x.toNat, levelFault := false
      measure := s.brine.measure.map fun m => { m with lowest := min m.lowest x.toNat } } }
    if s.brine.levelFault then faultGone .levelSensor .none s' else s'
  else if s.brine.levelFault then s
  else faultReport .levelSensor .none x { s with brine := { s.brine with levelFault := true } }

/-- The level probe at a metering second (R91). -/
def levelSecond (x : Int) (s : State) : State :=
  if s.brine.measure.isSome || s.brine.refill.isSome || s.clock.second % 60 == 0 || s.brine.restartLevel then
    levelSample x { s with brine := { s.brine with restartLevel := false } }
  else s

/-! ### Salt readings (R92, R93, R100, R101, R106) -/

/-- Fill detection with the new height (R100). -/
def fillDetection (h : Nat) (s : State) : State :=
  let m := min (saltCapacity s) (measuredMass s.settings.inst h)
  match s.brine.height with
  | none =>
    inventoryChanged s.brine.inventory
      { s with brine := { s.brine with inventory := m, bridge := some { height := h, inventory := m } } }
  | some old =>
    if old + 50 ≤ h then
      inventoryChanged s.brine.inventory <| post .saltFillSeen .none m old h { s with brine := { s.brine with
        inventory := m, bridge := some { height := h, inventory := m }, bridgePosted := false,
        forecastArmed := true } }
    else s

/-- The bridge reference at a good reading (R106). -/
def bridgeReference (h : Nat) (s : State) : State :=
  match s.brine.bridge with
  | none => { s with brine := { s.brine with bridge := some { height := h, inventory := s.brine.inventory } } }
  | some r =>
    if h + 10 ≤ r.height then
      { s with brine := { s.brine with
          bridge := some { height := h, inventory := s.brine.inventory }, bridgePosted := false } }
    else s

/-- The bridging test (R106). -/
def bridgeTest (h : Nat) (s : State) : State :=
  match s.brine.bridge with
  | none => s
  | some r =>
    if s.brine.inventory + 3000 ≤ r.inventory ∧ s.brine.bridgePosted = false then
      post .saltBridgeSuspect .none (r.inventory - s.brine.inventory : Nat) r.height h
        { s with brine := { s.brine with bridgePosted := true } }
    else s

/-- Whether the post-regeneration due time has been reached (R92). -/
def postDueReached (s : State) : Bool :=
  match s.brine.postDue with
  | some d => decide (d ≤ s.now)
  | none => false

/-- A good reading taken through the steps of R93. -/
def goodReading (distance : Nat) (s : State) : State :=
  let h := s.settings.inst.tankDepth - distance
  let ended := if s.brine.saltFault then
      faultGone .saltSensor .none { s with brine := { s.brine with saltFault := false } } else s
  let placed := bridgeReference h (fillDetection h ended)
  let raised := { placed with brine := { placed.brine with height := some h } }
  let judged := setSalt (saltByHeight raised.brine.salt h raised.brine.level raised.settings.user.salt.lowMark) raised
  if postDueReached s then
    bridgeTest h { judged with brine := { judged.brine with postDue := none, postTried := false } }
  else judged

/-- A salt reading (R93). -/
def saltReading (x : Int) (s : State) : State :=
  if 50 ≤ x ∧ x ≤ 1200 then goodReading x.toNat s
  else if s.brine.saltFault then s
  else faultReport .saltSensor .none x { s with brine := { s.brine with saltFault := true } }

/-- The two conditions of R92 for a reading. -/
def readingAllowed (s : State) : Bool :=
  s.supply.state == .mains && s.brine.measure.isNone && s.brine.refill.isNone

/-- The salt readings of a metering second (R92). -/
def saltSecond (x : Int) (s : State) : State :=
  if readingAllowed s then
    let due := postDueReached s
    let wanted := s.clock.second % 600 == 0 || s.brine.restartReading || s.brine.filledReading
      || (due && !s.brine.postTried)
    let s' := { s with brine := { s.brine with
      restartReading := false, filledReading := false, postTried := s.brine.postTried || due } }
    if wanted && s.settings.inst.sensorFitted then saltReading x s' else s'
  else s

/-- The post-regeneration reading at its due time, when it can be made and has not been tried (R92). -/
def postReading (x : Int) (s : State) : State :=
  if readingAllowed s && postDueReached s && !s.brine.postTried && s.settings.inst.sensorFitted then
    saltReading x { s with brine := { s.brine with postTried := true } }
  else s

/-! ### Settings, the clock and restarts -/

/-- The salt capacity setting was changed (R99). A clamp that changes the inventory evaluates the forecast reminder (R105), at a defaults
restore too, although the table of R107 keeps the forecast reminder armed mark there (DESIGN CHOICE, log entry 50). -/
def capacityClamp (s : State) : State :=
  inventoryChanged s.brine.inventory
    { s with brine := { s.brine with inventory := min s.brine.inventory (saltCapacity s) } }

/-- The salt sensor fitted setting was changed (R93, R102). -/
def sensorFittedChanged (s : State) : State :=
  if s.settings.inst.sensorFitted then s
  else evaluateSaltMass <|
    if s.brine.saltFault then faultGone .saltSensor .none { s with brine := { s.brine with saltFault := false } } else s

/-- SALT_FILLED's effect: grams, or FULL (R99). -/
def saltFilledEffect (grams : BitVec 32) (s : State) : State :=
  let g := if grams = 0xFFFFFFFF#32 then saltCapacity s else min (saltCapacity s) (s.brine.inventory + grams.toNat)
  let filled := { s with brine := { s.brine with
    inventory := g
    bridge := match s.brine.height with
      | some h => some { height := h, inventory := g }
      | none => none
    bridgePosted := false
    forecastArmed := true
    filledReading := s.brine.filledReading || s.settings.inst.sensorFitted } }
  let judged := evaluateSaltMass filled
  if g = s.brine.inventory then judged else forecastReminder judged

/-- The REPEAT reminder at midnight (R103). -/
def repeatReminder (s : State) : State :=
  let days := s.settings.user.salt.reminderDays
  if s.brine.salt = .ok ∨ days = 0 then s
  else if s.clock.day < s.brine.lastReminder then
    { s with brine := { s.brine with lastReminder := s.clock.day } }
  else if s.brine.lastReminder + days ≤ s.clock.day then
    let s' := saltReminder 1 s
    { s' with brine := { s'.brine with lastReminder := s'.clock.day } }
  else s

/-- The Brine Monitor at midnight (R103, R105). The manual gives the two reminders no order: REPEAT comes first (DESIGN CHOICE, log entry
5). -/
def brineMidnight (s : State) : State := forecastReminder (repeatReminder s)

/-- CLOCK_SET moves the refill end time by the counter's own move (R107). -/
def shiftRefillEnd (old new : Stamp) (s : State) : State :=
  { s with brine := { s.brine with refillEnd := ((s.brine.refillEnd : Int) + new - old).toNat } }

/-- The Brine Monitor at a restart (R91, R92, R93, R107). -/
def brineRestart (cold : Bool) (s : State) : State :=
  faultGone .saltSensor .none <| faultGone .levelSensor .none { s with brine := { s.brine with
    refillEnd := if cold then 0 else s.brine.refillEnd
    levelFault := false, saltFault := false, postDue := none, postTried := false
    restartLevel := true, restartReading := true, filledReading := false } }

end Sys2Proof.Machine
end

