-- ==== Sys2Proof/Machine/Disc.lean ====
section
/-! DEFINITION. The Disc Positioner (03_the_twin_tank_control_valve.md, R42 to R58): the encoder code, move requests, the speed, the
position check and entering FAULT. What an arrival means to the sequencer is in Sequencer.lean. -/

namespace Sys2Proof.Machine

/-! ### Positions and codes (section 3.1, 3.2) -/

/-- The position that a four-track code names; 8 and 9 name none (section 3.2). -/
def codePosition (c : BitVec 4) : Option Pos :=
  match c.toNat with
  | 0 => some 0
  | 1 => some 1
  | 3 => some 2
  | 2 => some 3
  | 6 => some 4
  | 7 => some 5
  | 5 => some 6
  | 4 => some 7
  | 12 => some 8
  | 13 => some 9
  | 15 => some 10
  | 14 => some 11
  | 10 => some 12
  | 11 => some 13
  | _ => none

/-- The forward distance from one position to another, 0 when they are the same. -/
def distance (p q : Pos) : Nat := (q.val + 14 - p.val) % 14

/-- The changeover position when a tank is outgoing (R62). -/
def changePosition : Tank → Pos
  | .a => 1
  | .b => 8

/-- A tank's HOLD position (section 3.1). -/
def holdPosition : Tank → Pos
  | .a => 2
  | .b => 9

/-- A tank's READY position (section 3.1). -/
def readyPosition : Tank → Pos
  | .a => 7
  | .b => 0

/-- The position of a tank's regeneration step (section 4.4). -/
def stepPosition (t : Tank) (k : Step) : Pos :=
  match t, k with
  | .a, .backwash => 3
  | .a, .brine => 4
  | .a, .rinse => 5
  | .a, .refill => 6
  | .b, .backwash => 10
  | .b, .brine => 11
  | .b, .rinse => 12
  | .b, .refill => 13

/-- The step of a tank whose position it is. -/
def positionStep (t : Tank) (p : Pos) : Option Step :=
  [Step.backwash, .brine, .rinse, .refill].find? fun k => stepPosition t k == p

/-- The tank in service at P0, P2, P7 and P9 (R60, R82); none at the other positions. -/
def servicePosition (p : Pos) : Option Tank :=
  match p.val with
  | 0 => some .a
  | 9 => some .a
  | 2 => some .b
  | 7 => some .b
  | _ => none

/-- The first position at or forward of `p` that satisfies `f`, looking `n` positions on. -/
def firstForward (f : Pos → Bool) : Nat → Pos → Pos
  | 0, p => p
  | n + 1, p => if f p then p else firstForward f n (p + 1)

/-! ### The record -/

/-- The motor is driven (R42, R44). -/
def Disc.driven (d : Disc) : Bool := d.state == .running || d.state == .creeping

/-- Whether the speed of a move is CREEP (R47). -/
def Disc.creeps (d : Disc) : Bool :=
  match d.position, d.target with
  | some p, some (.pos t) => p + 1 == t
  | _, _ => true

/-- The state that goes with the speed of R47. -/
def Disc.moving (d : Disc) : DiscState := if d.creeps then .creeping else .running

/-- The motor starts, the leg and overcurrent times from 0 (R46, R53). -/
def Disc.start (d : Disc) : Disc := { d with state := d.moving, legTime := 0, overcurrent := 0 }

/-- The record at an arrival: stopped, with target, requester and retry tag none (R47). -/
def Disc.arrive (d : Disc) : Disc :=
  { d with state := .atPosition, target := none, requester := none, retryTag := none }

/-- The detail of DISC_STALL and DISC_TIMEOUT: the recorded position, or 14 (R48, R50). -/
def Disc.detail (d : Disc) : Nat := positionCode d.position

/-- The limit of the leg time at the present speed (R48). -/
def Disc.legLimit (d : Disc) : Nat := if d.state = .running then 20 else 15

/-! ### Moves asked for by the sequencer (R46) -/

/-- What became of a move request. -/
inductive MoveReply where
  | refused
  | started
  | arrived
  deriving DecidableEq, Repr

/-- Whether the positioner accepts a move request from the sequencer (R46). -/
def State.discFree (s : State) : Bool := s.disc.state == .atPosition && s.disc.mode == .auto

/-- The answer to a move request (R46). -/
def moveReply (t : Pos) (s : State) : MoveReply :=
  if s.discFree then (if s.disc.position = some t then .arrived else .started) else .refused

/-- The positioner's part of a move request (R46). -/
def discRequest (t : Pos) (s : State) : State :=
  match moveReply t s with
  | .refused => s
  | .arrived => { s with disc := { s.disc with target := none, requester := none } }
  | .started => { s with disc := ({ s.disc with target := some (.pos t), requester := some .sequencer } : Disc).start }

/-! ### FAULT (R52, R76) -/

/-- The sequencer takes a failed move: outside a changeover a REGENERATING tank becomes FAULTED (R65, R76). -/
def failedMove (s : State) : State :=
  if s.seq.changeover.isSome then s
  else
    let fail (t : Tank) (s : State) : State :=
      if (s.tank t).service = .regenerating then changeTank t { s.tank t with service := .faulted } s else s
    fail .b (fail .a s)

/-- The sequencer is told that its held move has resumed (R53, R76). -/
def moveResumed (s : State) : State :=
  let resume (t : Tank) (s : State) : State :=
    if (s.tank t).service = .faulted then changeTank t { s.tank t with service := .regenerating } s else s
  resume .b (resume .a s)

/-- The requester of a stopped move is told, and then a retry tag is answered (R52). -/
def discFaultReports (d : Disc) (c : FaultCode) (s : State) : State :=
  let told := match d.requester with
    | some .sequencer => failedMove s
    | some (.discStep tag) =>
      if d.retryTag.isNone then requestDone .none tag kindDiscStep .failed (faultCodeOf c) s else s
    | _ => s
  requestDoneIf .none d.retryTag kindDiscRetry .failed (faultCodeOf c) told

/-- A move stopped by a disc fault enters FAULT (R52). The manual gives its notices no order: FAULT is posted first, then the requester's,
then the retry tag's (DESIGN CHOICE, log entry 45). -/
def discFault (c : FaultCode) (detail : Int) (s : State) : State :=
  discFaultReports s.disc c <| faultReport c .none detail
    { s with disc := { s.disc with
        state := .fault, fault := some (c, detail), retryTag := none, retriedFault := none } }

/-! ### The position check (R49) -/

/-- What a code read during a move brings about. -/
inductive CheckResult where
  /-- The position is the arrival. -/
  | arrival (p : Pos)
  /-- The position is taken and the move goes on. -/
  | passed (p : Pos)
  /-- The move stops with a fault and its detail; the position becomes this. -/
  | stops (c : FaultCode) (detail : Nat) (position : Option Pos)
  deriving DecidableEq, Repr

/-- A valid position checked against the recorded position and a target position (R49). -/
def checkPosition (recorded target p : Pos) (code : BitVec 4) : CheckResult :=
  if p = target then
    (if p = recorded + 1 then .arrival p else .stops .discCode code.toNat (some p))
  else if p = target + 1 then .stops .discMissed target.val (some p)
  else if p = recorded + 1 then .passed p
  else .stops .discCode code.toNat (some p)

/-- A position that comes in place during a move, checked (R49). -/
def Disc.check (d : Disc) (code : BitVec 4) : CheckResult :=
  match codePosition code with
  | none => .stops .discCode code.toNat none
  | some p =>
    match d.target, d.position with
    | some (.pos t), some r => checkPosition r t p code
    | some (.pos t), none => if p = t then .arrival p else .passed p
    | _, _ => .arrival p

/-! ### Moved from outside, restarts -/

/-- The continuation of R58 from a disc between positions: UNKNOWN, NEXT, RESTART, at CREEP. -/
def Disc.continuation (d : Disc) : Disc :=
  ({ d with position := none, inPlace := false, target := some .next, requester := some .restart } : Disc).start

/-- The positioner record at a restart, the observation of R57 beginning. R57 does not list the position and in-place while the
observation lasts: the model holds UNKNOWN and clear (DESIGN CHOICE, log entry 10). -/
def discRestart (s : State) : State :=
  let gone := [FaultCode.discStall, .discCode, .discMissed, .discTimeout].foldl (fun s c => faultGone c .none s) s
  { gone with disc := { mode := s.settings.user.soft.discMode } }

end Sys2Proof.Machine
end

