-- ==== Sys2Proof/Machine/Schedule.lean ====
section
/-! DEFINITION. The scheduling part of the Regeneration Sequencer (section 4.2, 4.3, R61 to R69): the deferral set, the window, the
projection, exhaustion and the start of a changeover, and the arrivals that change no claim. -/

namespace Sys2Proof.Machine

/-! ### Deferral (R69) -/

/-- The deferral reasons (section 4.1). -/
inductive DeferReason where
  | lineBusy
  | onBattery
  | shutoffClosed
  | manual
  | discFault
  | halted
  | window
  deriving DecidableEq, Repr

/-- Whether a reason is in the set. -/
def Deferral.has (d : Deferral) : DeferReason → Bool
  | .lineBusy => d.lineBusy
  | .onBattery => d.onBattery
  | .shutoffClosed => d.shutoffClosed
  | .manual => d.manual
  | .discFault => d.discFault
  | .halted => d.halted
  | .window => d.window

/-- The set with a reason added. -/
def Deferral.add (d : Deferral) : DeferReason → Deferral
  | .lineBusy => { d with lineBusy := true }
  | .onBattery => { d with onBattery := true }
  | .shutoffClosed => { d with shutoffClosed := true }
  | .manual => { d with manual := true }
  | .discFault => { d with discFault := true }
  | .halted => { d with halted := true }
  | .window => { d with window := true }

/-- A reason joins a tank's deferral set; a new one posts REGEN_DEFERRED with the whole set (R69). -/
def defer (t : Tank) (reason : DeferReason) (s : State) : State :=
  let r := s.tank t
  if r.deferral.has reason then s
  else
    let d := r.deferral.add reason
    post1 .regenDeferred (.tank t) (deferralCode d) (s.withTank t { r with deferral := d })

/-- A tank's pending REGEN claim is withdrawn (R69, R85). -/
def withdrawRegen (t : Tank) (s : State) : State :=
  let s' := match s.line.regen with
    | some e => if e.tank = t ∧ e.granted = false then { s with line := { s.line with regen := none } } else s
    | none => s
  if (s'.tank t).claim = .pending then s'.withTank t { s'.tank t with claim := .none } else s'

/-- A tank record as it leaves EXHAUSTED: the deferral set and the urgent mark are emptied (R67, R69). -/
def TankRecord.undue (r : TankRecord) : TankRecord := { r with deferral := {}, urgent := .none }

/-! ### The window and the projection (R66, R67) -/

/-- The window is open (R66), by the window hour last taken. -/
def windowOpen (s : State) : Bool := s.clock.hour == s.seq.windowHour

/-- A due regeneration meets its window condition (R66). -/
def windowMet (t : Tank) (s : State) : Bool :=
  s.seq.timing == .immediate || windowOpen s || (s.tank t).urgent != .none

/-- The projection asked for an EXHAUSTED tank in WINDOW timing (R67). With no single tank IN_SERVICE there is no carrying tank: none is asked
and the mark stands (DESIGN CHOICE, log entry 48). -/
def askProjection (t : Tank) (s : State) : State :=
  match s.seq.timing, s.serviceTank with
  | .window, some carrying =>
    let r := s.tank t
    match r.urgent, projectionUrgent t carrying s with
    | .none, true => s.withTank t { r with urgent := .projected }
    | .projected, false => s.withTank t { r with urgent := .none }
    | _, _ => s
  | _, _ => s

/-- A tank's urgent mark becomes FORCED (R67, R77). -/
def forceUrgent (t : Tank) (s : State) : State := s.withTank t { s.tank t with urgent := .forced }

/-! ### Arrivals within a regeneration and a changeover (R63, R71) -/

/-- The Brine Monitor is told that a step has started (R71). -/
def stepStarted (t : Tank) (k : Step) (s : State) : State :=
  match k with
  | .brine => brineStart t s
  | .refill => refillStart t s
  | _ => s

/-- A regeneration goes on at step `k`, another than the recorded one, as IN_STEP from 0 (R82); an unfinished BRINE is reported
ended and a BRINE or REFILL entered is reported started. -/
def enterOtherStep (t : Tank) (k : Step) (s : State) : State :=
  let r := s.tank t
  let s1 := if r.step = some .brine ∧ r.phase = some .inStep then brineEnd s else s
  stepStarted t k <|
    changeTank t { s1.tank t with step := some k, phase := some .inStep, elapsed := 0, elapsedMin := 0 } s1

/-- A regeneration's move arrives at the position of step `k` (R71, R82 case 4). -/
def stepArrival (t : Tank) (k : Step) (s : State) : State :=
  let r := s.tank t
  if r.step = some k then
    let s1 := changeTank t { r with phase := some .inStep } s
    if r.phase = some .toStep then stepStarted t k s1 else s1
  else enterOtherStep t k s

/-- The move to the changeover position arrives: the incoming tank enters service and the dwell begins (R63). -/
def changeArrival (outgoing : Tank) (s : State) : State :=
  let incoming := outgoing.other
  let s1 := changeTank incoming { (s.tank incoming).undue with service := .inService, hours := 0 } s
  { s1 with seq := { s1.seq with changeover := some { outgoing := outgoing, phase := .dwell, dwell := 0 } } }

/-! ### Changeovers (R61, R62) -/

/-- A due changeover begins when the other tank is READY and the three conditions hold (R62). -/
def changeoverBegin (s : State) : State :=
  match s.seq.due with
  | none => s
  | some t =>
    if (s.tank t.other).service = .ready ∧ s.discFree = true ∧ s.supply.state = .mains ∧ s.seq.changeover = none then
      let s1 := { s with seq := { s.seq with
        changeover := some { outgoing := t, phase := .toChange, dwell := 0 }, due := none } }
      let p := changePosition t
      let s2 := discRequest p s1
      if moveReply p s1 = .arrived then changeArrival t s2 else s2
    else s

/-- CHANGEOVER_PENDING for the tank that waits, and the other tank's regeneration made urgent if it is EXHAUSTED (R61, R67). -/
def changeoverPending (t : Tank) (s : State) : State :=
  let s1 := post1 .changeoverPending (.tank t) (serviceCode (s.tank t.other).service) s
  if (s.tank t.other).service = .exhausted then forceUrgent t.other s1 else s1

/-- An exhaustion reaches the sequencer (R61). -/
def takeExhaustion (t : Tank) (s : State) : State :=
  if (s.tank t).service = .inService ∧ s.seq.changeover = none ∧ s.seq.due = none then
    let s1 := { s with seq := { s.seq with due := some t } }
    if (s.tank t.other).service = .ready then changeoverBegin s1 else changeoverPending t s1
  else s

/-! ### The claim's conditions (R69) -/

/-- The conditions of R69 other than the grant, each with the reason its failure adds, in the order of the table. -/
def startConditions (t : Tank) (s : State) : List (Bool × DeferReason) :=
  [ (s.supply.state == .mains, .onBattery),
    (s.valve.state == .opened, .shutoffClosed),
    (s.disc.mode == .auto, .manual),
    (s.disc.state != .fault, .discFault),
    (!(s.tank t).halt, .halted),
    (windowMet t s, .window) ]

/-- All those conditions hold. -/
def startAllowed (t : Tank) (s : State) : Bool := (startConditions t s).all Prod.fst

/-- The reasons of the failing conditions are added (R69). -/
def deferFailing (t : Tank) (s : State) : State :=
  (startConditions t s).foldl (fun s c => if c.1 then s else defer t c.2 s) s

/-- The effective mode has become MANUAL: any pending claim is withdrawn and MANUAL joins the deferral set of an EXHAUSTED tank
(R82). -/
def manualReported (s : State) : State :=
  let one (t : Tank) (s : State) : State :=
    let s' := withdrawRegen t s
    if (s'.tank t).service = .exhausted then defer t .manual s' else s'
  one .b (one .a s)

/-- A pending change to MANUAL applies at AT_POSITION outside a changeover (R54). -/
def applyManual (s : State) : State :=
  if s.settings.user.soft.discMode = .manual ∧ s.disc.mode = .auto ∧ s.disc.state = .atPosition
      ∧ s.seq.changeover = none then
    manualReported { s with disc := { s.disc with mode := .manual } }
  else s

end Sys2Proof.Machine
end

