-- ==== Sys2Proof/Machine/Filter.lean ====
section
/-! DEFINITION. The Filter Monitor (07_filtration.md, R108 to R120): pressure samples, the resistance index, the filter state, the
screen's counts and the cartridge, and the start and the cut of a flush. The claim and the end of a flush, which free the line,
are in Line.lean. -/

namespace Sys2Proof.Machine

/-! ### Pressure sensors (R108) -/

/-- A pressure sensor's record. -/
def Filter.sensor (f : Filter) (n : Fin 3) : Sensor :=
  match n with
  | 0 => f.p1
  | 1 => f.p2
  | 2 => f.p3

/-- A pressure sensor's record replaced. -/
def Filter.withSensor (f : Filter) (n : Fin 3) (x : Sensor) : Filter :=
  match n with
  | 0 => { f with p1 := x }
  | 1 => { f with p2 := x }
  | 2 => { f with p3 := x }

/-- One sample of a pressure sensor (R108). -/
def pressureSample (n : Fin 3) (x : Int) (s : State) : State :=
  let old := s.filter.sensor n
  if 0 ≤ x ∧ x ≤ 1000 then
    let s' := { s with filter := s.filter.withSensor n { reading := x.toNat, held := false } }
    if old.held then faultGone .pressureSensor (.sensor n) s' else s'
  else if old.held then s
  else faultReport .pressureSensor (.sensor n) x { s with filter := s.filter.withSensor n { old with held := true } }

/-! ### The filter state (R111) -/

/-- Rs (section 7.2). -/
def Filter.rs (f : Filter) : Nat := f.rs10 / 10

/-- The state that the evaluation of R111 gives. -/
def evaluatedState (f : Filter) (c : FilterSettings) : FilterState :=
  if f.acq < 60 then .clean
  else if c.blockIndex ≤ f.rs then .blocked
  else if c.flushIndex ≤ f.rs then .loaded
  else .clean

/-- The due set after an entry into a state (R111, section 7.4). -/
def DueSet.enter (d : DueSet) (n : FilterState) : DueSet :=
  { d with loaded := d.loaded || n == .loaded, blocked := d.blocked || n == .blocked }

/-- The filter state becomes `n`; an entry into LOADED or BLOCKED adds its reason, except from FLUSHING (R111). -/
def setFilter (n : FilterState) (s : State) : State :=
  let old := s.filter.state
  if old = n then s
  else
    let s' := { s with filter := { s.filter with
      state := n, due := if old = .flushing then s.filter.due else s.filter.due.enter n } }
    post .filterState .none (filterCode n) s'.filter.rs s'.filter.baseline s'

/-- The filter state evaluated, whatever it is (R111). -/
def filterEvaluateNow (s : State) : State := setFilter (evaluatedState s.filter s.settings.user.filter) s

/-- The filter state evaluated outside a flush (R111). -/
def filterEvaluate (s : State) : State := if s.filter.state = .flushing then s else filterEvaluateNow s

/-! ### The cartridge (R118) -/

/-- The cartridge months (R118). -/
def Filter.cartMonths (f : Filter) : Nat := f.cartDays / 30

/-- CARTRIDGE_DUE for a reason (VOLUME 0, AGE 1, INDEX 2) whose condition is met, once for each cartridge (R118). -/
def cartridgeDue (reason : Nat) (condition : Bool) (s : State) : State :=
  if condition && !s.filter.cartDue then
    post .cartridgeDue .none reason (s.filter.cartVolume / 1000 : Nat) s.filter.cartMonths
      { s with filter := { s.filter with cartDue := true } }
  else s

/-- The VOLUME condition of the cartridge (R118). -/
def cartVolumeReached (s : State) : Bool :=
  let v := s.settings.user.filter.cartVolume
  v != 0 && decide (v * 1000 ≤ s.filter.cartVolume)

/-- The AGE condition of the cartridge (R118). -/
def cartAgeReached (s : State) : Bool :=
  let m := s.settings.user.filter.cartMonths
  m != 0 && decide (m ≤ s.filter.cartMonths)

/-- The INDEX condition of the cartridge (R118). -/
def cartIndexReached (s : State) : Bool := decide (s.settings.user.filter.cartIndex ≤ s.filter.baseline)

/-- CARTRIDGE_FITTED's effect (R119). -/
def cartridgeFittedEffect (s : State) : State :=
  filterEvaluate { s with filter := { s.filter with
    cartVolume := 0, cartDays := 0, cartDue := false, acq := 0, baselineDue := false } }

/-! ### The resistance index (R109, R110) -/

/-- The flow-hold count after a second of inlet flow `q` (R109). -/
def flowHoldAfter (f : Filter) (q qMin : Nat) : Nat :=
  if qMin ≤ q ∧ f.state ≠ .flushing ∧ f.p1.held = false ∧ f.p2.held = false then min 30 (f.flowHold + 1) else 0

/-- The resistance R of a second (R110). -/
def resistance (f : Filter) (qRef q : Nat) : Nat :=
  min 999 ((f.p1.reading - f.p2.reading) * qRef * qRef / (q * q))

/-- Rs10 after a qualifying second with resistance `r` (R110). -/
def smoothed (f : Filter) (r : Nat) : Nat :=
  ((f.rs10 : Int) + ((10 * r : Nat) - (f.rs10 : Int)).tdiv (if f.acq < 60 then 4 else 16)).toNat

/-- A qualifying second's update of the index and the acquisition count (R110). -/
def indexUpdate (q : Nat) (s : State) : State :=
  let f := s.filter
  { s with filter := { f with
      rs10 := smoothed f (resistance f s.settings.inst.qRef q)
      acq := if f.acq < 60 then f.acq + 1 else f.acq
      baselineDue := f.acq == 59 } }

/-- The end of baseline acquisition: the baseline is set, the state evaluated and the INDEX test made (R110). -/
def baselineSet (s : State) : State :=
  if s.filter.baselineDue then
    let s' := filterEvaluate
      { s with filter := { s.filter with baseline := s.filter.rs, baselineDue := false } }
    cartridgeDue 2 (cartIndexReached s') s'
  else s

/-- The index at a metering second of inlet flow `q` (R109, R110, R111). -/
def indexSecond (q : Nat) (s : State) : State :=
  let s1 := { s with filter := { s.filter with
    flowHold := flowHoldAfter s.filter q s.settings.user.filter.qMin } }
  if s1.filter.flowHold = 30 then
    let s2 := indexUpdate q s1
    if s2.filter.baselineDue then baselineSet s2 else filterEvaluate s2
  else s1

/-! ### The screen's counts (R112, R113) -/

/-- The flush volume limit in mL, 0 for off (R112). -/
def flushVolumeLimit (s : State) : Nat := s.settings.user.filter.flushVolume * 1000

/-- VOLUME joins the due set when this second's treated volume took the count to the limit (R112). -/
def flushVolumeReached (s : State) : State :=
  let l := flushVolumeLimit s
  if l ≠ 0 ∧ s.filter.volume < l + s.meter.now.vTr ∧ l ≤ s.filter.volume then
    { s with filter := { s.filter with due := { s.filter.due with volume := true } } }
  else s

/-- The screen's and the cartridge's volumes and the quiet count at a metering second (R112, R113, R118). -/
def screenSecond (vTr qH : Nat) (s : State) : State :=
  let s' := flushVolumeReached { s with filter := { s.filter with
    volume := satAdd 4294967295 s.filter.volume vTr
    cartVolume := satAdd 4294967295 s.filter.cartVolume vTr
    quiet := if qH < s.settings.user.filter.qMin then min 60 (s.filter.quiet + 1) else 0 } }
  cartridgeDue 0 (cartVolumeReached s') s'

/-- The Filter Monitor at midnight (R112, R118). -/
def filterMidnight (s : State) : State :=
  let f : Filter := { s.filter with days := satAdd 65535 s.filter.days 1, cartDays := satAdd 65535 s.filter.cartDays 1 }
  let l := flushVolumeLimit s
  let d := s.settings.user.filter.flushDays
  let due := { f.due with
    loaded := f.due.loaded || f.state == .loaded
    blocked := f.due.blocked || f.state == .blocked
    volume := f.due.volume || (l != 0 && decide (l ≤ f.volume))
    days := f.due.days || (d != 0 && decide (d ≤ f.days)) }
  let s' := { s with filter := { f with due := due } }
  cartridgeDue 1 (cartAgeReached s') s'

/-! ### Flushes (R115, R117) -/

/-- A flush starts at its grant (R115). -/
def flushStart (s : State) : State :=
  let s' := { s with filter := { s.filter with
    flush := { elapsed := 0, volume := 0, time := s.settings.user.filter.flushTime, startIndex := s.filter.rs }
    solenoid := true } }
  let s'' := setFilter .flushing s'
  { s'' with filter := { s''.filter with flowHold := 0 } }

/-- The flush record at a metering second in FLUSHING (R115). -/
def flushSecond (vProc : Nat) (s : State) : State :=
  if s.filter.state = .flushing then
    { s with filter := { s.filter with flush := { s.filter.flush with
        volume := s.filter.flush.volume + vProc, elapsed := s.filter.flush.elapsed + 1 } } }
  else s

/-- A granted FLUSH entry leaves the table. -/
def dropFlush (s : State) : State :=
  if s.line.flushGranted then { s with line := { s.line with flush := none } } else s

/-- A flush is cut by a valve that leaves OPEN or a supply that leaves MAINS (R117). The decision at its release grants nothing,
since one of the two grant conditions has just failed. -/
def flushCut (s : State) : State :=
  if s.filter.state = .flushing then
    let f := s.filter.flush
    let s1 := dropFlush (filterEvaluateNow { s with filter := { s.filter with solenoid := false } })
    post .flushDone .none 2 f.volume f.startIndex s1
  else s

/-! ### Restarts (R120) -/

/-- The Filter Monitor at a restart (R108, R109, R111, R113, R114, R120). -/
def filterRestart (s : State) : State :=
  let gone := ([0, 1, 2] : List (Fin 3)).foldl (fun s n => faultGone .pressureSensor (.sensor n) s) s
  let f : Filter := { gone.filter with
    p1 := {}, p2 := {}, p3 := {}, flowHold := 0, quiet := 0, solenoid := false, flush := {}, tag := none,
    baselineDue := false, due := { gone.filter.due with host := false } }
  let s' := { gone with filter := f }
  if f.state = .flushing then filterEvaluateNow s' else s'

end Sys2Proof.Machine
end

