-- ==== Sys2Proof/Machine/Valve.lean ====
section
/-! DEFINITION. The Shutoff Controller (section 9.1 to 9.4, R141 to R150): the valve state, travel, the close reasons, failures and
the exercise, as far as they do not free the process line or end a test. Those follow in Line.lean and Leak.lean. -/

namespace Sys2Proof.Machine

/-! ### Reports -/

/-- The fault code of a stuck cause (R148). -/
def stuckFault : StuckCause → FaultCode
  | .stuck _ => .shutoffStuck
  | .switch => .shutoffSwitch

/-- The valve state becomes `v`: SHUTOFF_STATE is posted, and then leaving OPEN cuts a flush (R141, R117; the order DESIGN CHOICE, log entry
45). -/
def valveChange (v : ValveState) (s : State) : State :=
  let old := s.valve.state
  if old = v then s
  else
    let s' := { s with valve := { s.valve with state := v } }
    let s'' := post .shutoffState .none (valveCode v) (reasonsCode s'.valve.reasons) (exerciseCode s'.valve.exercise) s'
    if old = .opened then flushCut s'' else s''

/-- The command tag is answered DONE when the valve is at rest at the target's end, and FAILED when it is STUCK (R148). -/
def answerTag (s : State) : State :=
  match s.valve.tag with
  | none => s
  | some tag =>
    let s' := { s with valve := { s.valve with tag := none } }
    match s.valve.state, s.valve.stuck with
    | .opened, _ => if s.targetClosed then s else requestDone .none tag kindShutoffCmd .done 0 s'
    | .closed, _ => if s.targetClosed then requestDone .none tag kindShutoffCmd .done 0 s' else s
    | .stuck, some c => requestDone .none tag kindShutoffCmd .failed (faultCodeOf (stuckFault c)) s'
    | _, _ => s

/-! ### Travel (R143, R145) -/

/-- The end switch of an end. -/
def Pins.switch (p : Pins) : ValveEnd → Bool
  | .openEnd => p.openEnd
  | .closedEnd => p.closedEnd

/-- An end switch's level replaced. -/
def Pins.withSwitch (p : Pins) (e : ValveEnd) (made : Bool) : Pins :=
  match e with
  | .openEnd => { p with openEnd := made }
  | .closedEnd => { p with closedEnd := made }

/-- Both end switches are made (R146). -/
def Pins.bothMade (p : Pins) : Bool := p.openEnd && p.closedEnd

/-- The end the target names (R142). -/
def State.targetEnd (s : State) : ValveEnd := if s.targetClosed then .closedEnd else .openEnd

/-- The other end. -/
def otherEnd : ValveEnd → ValveEnd
  | .openEnd => .closedEnd
  | .closedEnd => .openEnd

/-- The valve state at rest at an end. -/
def restState : ValveEnd → ValveState
  | .openEnd => .opened
  | .closedEnd => .closed

/-- The travelling state toward an end. -/
def travelState : ValveEnd → ValveState
  | .openEnd => .opening
  | .closedEnd => .closing

/-- The drive toward an end. -/
def driveTo : ValveEnd → Drive
  | .openEnd => .toOpen
  | .closedEnd => .toClosed

/-- The end a drive runs toward, none when stopped. -/
def driveEnd : Drive → Option ValveEnd
  | .toOpen => some .openEnd
  | .toClosed => some .closedEnd
  | .stopped => none

/-- A travel arrives at an end (R143): the motor stops, the state is OPEN or CLOSED, an active SHUTOFF_STUCK record is reported gone
after a second attempt or when the valve had been STUCK before a RETRY, and a held tag is answered. An OPEN_RUN ends with its arrival
at OPEN (R150). -/
def valveArrive (e : ValveEnd) (s : State) : State :=
  let cured : Bool := s.valve.second || s.valve.retried
  let exercise : ExercisePhase :=
    if e = .openEnd ∧ s.valve.exercise = .openRun then .none else s.valve.exercise
  let s1 := valveChange (restState e) { s with valve := { s.valve with
    drive := .stopped, pause := .none, second := false, retried := false, exercise := exercise } }
  answerTag (if cured then faultGone .shutoffStuck .none s1 else s1)

/-- The motor is driven toward an end (R143). The end switches keep their levels until they are said to change (log entry 21). -/
def drive (e : ValveEnd) (s : State) : State :=
  { s with valve := { s.valve with drive := driveTo e, pause := .none, travel := 0, overcurrent := 0 } }

/-- A drive toward an end begins, or arrives at once when its switch is already made (R143). -/
def driveOrArrive (e : ValveEnd) (s : State) : State :=
  if s.pins.switch e then valveArrive e s else drive e (valveChange (travelState e) s)

/-- A new travel toward the target from rest (R143). -/
def beginTravel (s : State) : State :=
  driveOrArrive s.targetEnd { s with valve := { s.valve with second := false, retried := false } }

/-- A change of target while the valve travels reverses it (R145). -/
def reverseTravel (s : State) : State :=
  valveChange (travelState s.targetEnd) { s with valve := { s.valve with
    drive := .stopped, second := false
    pause := if s.valve.pause = .retry then .retry else .reversal } }

/-! ### The exercise (R149, R150) -/

/-- The exercise is due (R149). -/
def exerciseDue (s : State) : Bool :=
  let d := s.settings.user.leak.exerciseDays
  d != 0 && decide (d ≤ s.valve.exerciseDays)

/-- The end of a test is the exercise's cue (R149). -/
def exerciseCue (s : State) : State :=
  if exerciseDue s ∧ s.valve.exercise = .none then
    { s with valve := { s.valve with exercise := .armed, exerciseTime := 0 } }
  else s

/-- The exercise has passed (R150). -/
def exercisePassed (s : State) : State :=
  faultGone .shutoffSeized .none { s with valve := { s.valve with exerciseDays := 0 } }

/-- The start conditions of the exercise (R149). -/
def exerciseReady (s : State) : Bool :=
  exerciseDue s && s.valve.state == .opened && !s.targetClosed && s.meter.now.vIn == 0 && s.supply.state == .mains

/-- The exercise starts with CLOSE_RUN (R150). -/
def exerciseBegin (s : State) : State :=
  valveChange .closing { s with valve := { s.valve with
    exercise := .closeRun, exerciseTime := 0, released := false, drive := .toClosed, pause := .none,
    second := false, travel := 0, overcurrent := 0 } }

/-- The CLOSE_RUN ends after a drive of `ms` milliseconds, and the exercise is judged (R150). -/
def closeRunEnd (ms : Nat) (s : State) : State :=
  if s.valve.exercise = .closeRun then
    let s' := { s with valve := { s.valve with
      drive := .stopped, pause := .reversal, second := false, exercise := .openRun, exerciseTime := ms } }
    if s.valve.released then exercisePassed s' else faultReport .shutoffSeized .none ms s'
  else s

/-! ### Close reasons (R142) -/

/-- The names of the close reasons. -/
inductive Reason where
  | trip
  | host
  | test
  | lowBattery
  deriving DecidableEq, Repr

/-- A reason put in the set or taken from it. -/
def Reasons.put (r : Reasons) (n : Reason) (present : Bool) : Reasons :=
  match n with
  | .trip => { r with trip := present }
  | .host => { r with host := present }
  | .test => { r with test := present }
  | .lowBattery => { r with lowBattery := present }

/-- A CLOSE_RUN goes on as a travel toward CLOSED (R150): the exercise is judged by a release so far, and with CLOSED_END already made
the travel arrives at once (R143). -/
def closeRunTravels (s : State) : State :=
  let s1 := { s with valve := { s.valve with exercise := .none, second := false } }
  let s2 := if s.valve.released then exercisePassed s1 else s1
  if s.pins.closedEnd then valveArrive .closedEnd s2 else s2

/-- The target has just become CLOSED (R142, R143, R145, R150). -/
def targetBecameClosed (s : State) : State :=
  match s.valve.state, s.valve.exercise with
  | .opened, _ => beginTravel s
  | .closing, .closeRun => closeRunTravels s
  | .opening, .openRun => reverseTravel { s with valve := { s.valve with exercise := .none } }
  | .closing, .openRun => reverseTravel { s with valve := { s.valve with exercise := .none } }
  | .opening, _ => reverseTravel s
  | .closing, _ => reverseTravel s
  | .closed, _ => s
  | .stuck, _ => s

/-- A reason is added to the close-reason set (R142). -/
def addReason (n : Reason) (s : State) : State :=
  let s' := { s with valve := { s.valve with reasons := s.valve.reasons.put n true } }
  if s.targetClosed then s' else targetBecameClosed s'

/-- A reason leaves the close-reason set; the valve's part, which may bring it to OPEN at once (R142, R143, R145). -/
def dropReason (n : Reason) (s : State) : State :=
  let s' := { s with valve := { s.valve with reasons := s.valve.reasons.put n false } }
  if s.targetClosed && !s'.targetClosed then
    match s.valve.state with
    | .closed => beginTravel s'
    | .closing => reverseTravel s'
    | .opening => reverseTravel s'
    | _ => s'
  else s'

/-! ### Failures (R144, R146) -/

/-- The valve becomes STUCK for a cause, with its fault's detail (R144, R146). The motor stops, a pause ends and so does an
exercise. SHUTOFF_STATE comes before the fault, and the fault before the tag's answer (DESIGN CHOICE, log entry 45). -/
def valveStuckCore (c : StuckCause) (detail : Int) (s : State) : State :=
  let exercise : ExercisePhase := if s.valve.exercise = .armed then .armed else .none
  answerTag <| faultReport (stuckFault c) .none detail <| valveChange .stuck
    { s with valve := { s.valve with
        drive := .stopped, pause := .none, second := false, retried := false, stuck := some c, exercise := exercise } }

/-- Which failure an attempt toward an end is: 1 and 2 time and stall toward closed, 3 and 4 toward open (R144). -/
def failureDetail (e : ValveEnd) (stall : Bool) : Nat :=
  (match e with | .closedEnd => 1 | .openEnd => 3) + markCode stall

end Sys2Proof.Machine
end

