-- ==== Sys2Proof/Machine/Line.lean ====
section
/-! DEFINITION. The Process Line Arbiter (05_process_line_arbitration.md, R84 to R88): the grant decision with what each claimant does
at its grant (R70, R115, R134, R135), claims, withdrawals and releases; then what frees the line or brings the valve to OPEN. -/

namespace Sys2Proof.Machine

/-! ### Grants -/

/-- The recipe latched at the grant (R70). -/
def latchRecipe (t : Tank) (s : State) : Recipe :=
  let c := s.settings.user.soft
  { dose := c.dose, vr := s.resin t, backwash := c.backwash, brine := c.brine, rinse := c.rinse,
    refillLimit := c.refillLimit, refillML := refillOf c.dose (s.resin t) }

/-- The tank record at the start of a regeneration (R70). -/
def TankRecord.begin (r : TankRecord) (recipe : Recipe) : TankRecord :=
  { r.undue with service := .regenerating, step := some .backwash, phase := some .toStep, elapsed := 0,
                 elapsedMin := 0, recipe := recipe, claim := .granted }

/-- The first move of a regeneration, or one refused before, asked for again: the move to the recorded step (R70). -/
def askStepMove (t : Tank) (k : Step) (s : State) : State :=
  let p := stepPosition t k
  let s1 := discRequest p s
  if moveReply p s = .arrived then applyManual (stepArrival t k s1) else s1

/-- The sequencer is told of its grant: an EXHAUSTED tank's regeneration starts (R70); a continuation goes on where it stands
(R83). -/
def grantRegen (e : RegenEntry) (s : State) : State :=
  let t := e.tank
  let s1 := { s with line := { s.line with regen := some { e with granted := true } } }
  let r := s1.tank t
  if r.service = .exhausted then askStepMove t .backwash (changeTank t (r.begin (latchRecipe t s1)) s1)
  else s1.withTank t { r with claim := .granted }

/-- The Filter Monitor is told of its grant (R115). -/
def grantFlush (e : FlushEntry) (s : State) : State :=
  flushStart { s with line := { s.line with flush := some { e with granted := true } } }

/-- The grant is taken in CLAIMING (R135). -/
def testAccept (s : State) : State :=
  let c := s.settings.user.leak
  addReason .test { s with leak := { s.leak with test := { s.leak.test with
    phase := .closing, duration := c.testDuration, decay := c.testDecay, draw := c.drawDrop } } }

/-- The Leak Monitor is told of its grant; outside CLAIMING it releases it, and the decision that follows can choose only a
FLUSH claim, since no other claim ranks below TEST (R87, R88, R134). -/
def grantTest (s : State) : State :=
  if s.leak.test.phase = .claiming then
    testAccept { s with line := { s.line with test := some { granted := true } } }
  else
    let s1 := { s with line := { s.line with test := none } }
    match s1.line.flush with
    | some e => grantFlush e s1
    | none => s1

/-- The winner of a decision (R87). -/
inductive Winner where
  | none
  | regen (e : RegenEntry)
  | flush (e : FlushEntry)
  | test
  deriving DecidableEq, Repr

/-- The first pending claim in the order of R87. -/
def Line.winner (l : Line) : Winner :=
  match l.regen, l.flush, l.test with
  | some ⟨g, t, true⟩, _, _ => .regen ⟨g, t, true⟩
  | _, some ⟨g, true⟩, _ => .flush ⟨g, true⟩
  | some e, _, _ => .regen e
  | none, _, some _ => .test
  | none, some e, none => .flush e
  | none, none, none => .none

/-- The grant conditions of R86, other than a pending entry. -/
def grantAllowed (s : State) : Bool :=
  s.line.owner == .none && s.supply.state == .mains && s.valve.state == .opened

/-- A grant decision (R86, R87). -/
def grantDecision (s : State) : State :=
  if grantAllowed s then
    match s.line.winner with
    | .none => s
    | .regen e => grantRegen e s
    | .flush e => grantFlush e s
    | .test => grantTest s
  else s

/-! ### Claims and releases (R84, R88) -/

/-- The sequencer claims REGEN for a tank (R84). -/
def claimRegen (t : Tank) (continuation : Bool) (s : State) : State :=
  let pend (s : State) : State :=
    { s.withTank t { s.tank t with claim := .pending } with
        line := { s.line with regen := some { granted := false, tank := t, continuation := continuation } } }
  match s.line.regen with
  | none => grantDecision (pend s)
  | some e => if e.granted then s else pend s

/-- The Filter Monitor claims FLUSH; a pending claim raised to HIGH is followed by a decision (R84). -/
def claimFlush (high : Bool) (s : State) : State :=
  let pend (s : State) : State := { s with line := { s.line with flush := some { granted := false, high := high } } }
  match s.line.flush with
  | none => grantDecision (pend s)
  | some e => if e.granted then s else if high && !e.high then grantDecision (pend s) else pend s

/-- The Leak Monitor claims TEST (R84). -/
def claimTest (s : State) : State :=
  match s.line.test with
  | none => grantDecision { s with line := { s.line with test := some { granted := false } } }
  | some _ => s

/-- The sequencer releases its grant (R88). -/
def releaseRegen (s : State) : State :=
  if s.line.regenGranted then grantDecision { s with line := { s.line with regen := none } } else s

/-- The Filter Monitor releases its grant (R88). -/
def releaseFlush (s : State) : State :=
  if s.line.flushGranted then grantDecision { s with line := { s.line with flush := none } } else s

/-- The Leak Monitor gives up its claim or its grant at a test's end (R85, R88, R138). -/
def giveUpTest (s : State) : State :=
  if s.line.testGranted then grantDecision { s with line := { s.line with test := none } }
  else { s with line := { s.line with test := none } }

/-! ### The supply becomes MAINS, the valve becomes OPEN (R69, R86) -/

/-- The sequencer keeps a claim for an EXHAUSTED tank (R69). -/
def claimHeld (t : Tank) (s : State) : Bool :=
  (s.tank t).service == .exhausted && startAllowed t s && s.disc.state == .atPosition && s.seq.changeover.isNone

/-- The sequencer's claim for a tank, made when it keeps one and none stands (R69). -/
def keepClaim (t : Tank) (s : State) : State :=
  if claimHeld t s = true ∧ (s.tank t).claim = .none ∧ s.line.regen = none then claimRegen t false s else s

/-- The decision that a supply newly MAINS, or a valve newly OPEN, brings (R86). The sequencer tests its start conditions at the moment an
input to them changes (R69), so a claim that the change allows stands in the table at this decision: a NORMAL flush that waited is
granted behind it (section 5.5; DEDUCED, log entry 44). -/
def changeDecision (s : State) : State := grantDecision (keepClaim .b (keepClaim .a s))

/-- The decision that a valve newly OPEN brings (R86). -/
def openedDecision (old : State) (s : State) : State :=
  if s.valve.state = .opened ∧ old.valve.state ≠ .opened then changeDecision s else s

/-- A reason leaves the close-reason set (R142). -/
def removeReason (n : Reason) (s : State) : State := openedDecision s (dropReason n s)

/-! ### The end of a flush (R116) -/

/-- What the outcome of a flush changes: DONE, with the screen clean, or NO_FLOW (R116), whose fault comes before FILTER_STATE (DESIGN CHOICE,
log entry 45). -/
def flushOutcome (s : State) : State :=
  if 1000 ≤ s.filter.flush.volume then
    faultGone .flushNoFlow .none <| filterEvaluateNow { s with filter := { s.filter with
      volume := 0, days := 0, due := {}, acq := 0, baselineDue := false } }
  else
    filterEvaluateNow <| faultReport .flushNoFlow .none s.filter.flush.volume
      { s with filter := { s.filter with due := {} } }

/-- The held FLUSH_CMD tag is answered at the end of a flush (R114, R116). -/
def answerFlush (done : Bool) (s : State) : State :=
  requestDoneIf .none s.filter.tag kindFlushCmd (if done then .done else .failed)
    (if done then 0 else faultCodeOf .flushNoFlow) { s with filter := { s.filter with tag := none } }

/-- A flush that has reached its time ends (R116). -/
def flushEnd (s : State) : State :=
  if s.filter.state = .flushing ∧ s.filter.flush.time ≤ s.filter.flush.elapsed then
    let f := s.filter.flush
    let done : Bool := decide (1000 ≤ f.volume)
    let s1 := releaseFlush (flushOutcome { s with filter := { s.filter with solenoid := false } })
    answerFlush done (post .flushDone .none (if done then 0 else 1) f.volume f.startIndex s1)
  else s

/-- The Filter Monitor's claim at the first moment at which its conditions hold, and the raise to HIGH (R113). -/
def flushClaim (s : State) : State :=
  let d := s.filter.due
  match s.line.flush with
  | some e => if !e.granted && d.blocked && !e.high then claimFlush true s else s
  | none =>
    if s.filter.state ≠ .flushing ∧ (d.blocked = true ∨ d.host = true ∨ (d.automatic = true ∧ s.filter.quiet = 60)) then
      claimFlush d.blocked s
    else s

end Sys2Proof.Machine
end

