-- ==== Sys2Proof/Machine/Sequencer.lean ====
section
/-! DEFINITION. The Regeneration Sequencer (04_regeneration_sequencing.md): what an arrival means (R60, R63, R64, R71, R75), mode changes
and recovery passes (R54, R82), steps and their ends (R72 to R74), the moments at which moves and claims are made again (R62,
R69, R74), and what the positioner does at an arrival, a fault and a restart (R43, R49, R51, R53, R58). -/

namespace Sys2Proof.Machine

/-! ### Ends of regenerations and changeovers -/

/-- A regeneration ends at the tank's READY position (R75). -/
def regenEnd (t : Tank) (s : State) : State :=
  let r := s.tank t
  let s1 := changeTank t
    { r with service := .ready, step := none, phase := none, halt := false, elapsed := 0, elapsedMin := 0 } s
  let b := brineFactor s1
  let grams := saltUsed s1
  let s2 := brineRegenEnd (creditTank t b s1)
  let s3 := releaseRegen (withdrawRegen t (s2.withTank t { s2.tank t with claim := if r.claim = .granted then .none else r.claim }))
  let s4 := post .regenDone (.tank t) (s2.record t).credited b grams s3
  let s5 := requestDoneIf (.tank t) r.regenTag kindTankCmd .done 0 (s4.withTank t { s4.tank t with regenTag := none })
  changeoverBegin s5

/-- The move to the HOLD position arrives and the changeover ends (R64); the outgoing tank leaves IN_SERVICE, so that its probe run count
returns to 0 (R33). -/
def holdArrival (outgoing : Tank) (dwell : Nat) (s : State) : State :=
  let s1 := changeTank outgoing { s.tank outgoing with service := .exhausted } (clearRun outgoing s)
  let s2 := { s1 with seq := { s1.seq with changeover := none } }
  let s3 := post2 .changeoverDone (.tank outgoing.other) (s2.record outgoing).remaining dwell s2
  let tag := (s3.tank outgoing).changeTag
  let s4 := requestDoneIf (.tank outgoing) tag kindTankCmd .done 0
    (s3.withTank outgoing { s3.tank outgoing with changeTag := none })
  askProjection outgoing s4

/-- No tank is IN_SERVICE: commissioning is not complete (R60). -/
def commissioning (s : State) : Bool :=
  (s.tank .a).service != .inService && (s.tank .b).service != .inService

/-- The tank that a REGENERATING state names, if there is one. -/
def regenerating (s : State) : Option Tank :=
  if (s.tank .a).service = .regenerating then some .a
  else if (s.tank .b).service = .regenerating then some .b
  else none

/-- The disc stands at a service position of the chosen tank: it enters service and commissioning is complete (R60). R60 speaks of two READY
tanks only: a chosen tank that a SET of its resin volume has made EXHAUSTED or DISABLED enters service too (DESIGN CHOICE, log entry 47). -/
def commission (p : Pos) (s : State) : State :=
  let t := s.seq.chosen
  if commissioning s ∧ servicePosition p = some t then
    changeTank t { (s.tank t).undue with service := .inService, hours := 0 } s
  else s

/-- The sequencer takes an arrival at position `p` (R60, R63, R64, R71, R75). -/
def sequencerArrival (p : Pos) (s : State) : State :=
  match s.seq.changeover with
  | some c =>
    match c.phase with
    | .toChange => if p = changePosition c.outgoing then changeArrival c.outgoing s else s
    | .dwell => s
    | .toHold => if p = holdPosition c.outgoing then holdArrival c.outgoing c.dwell s else s
  | none =>
    match regenerating s with
    | some t =>
      if (s.tank t).phase = some .toReady then (if p = readyPosition t then regenEnd t s else s)
      else match positionStep t p with
        | some k => stepArrival t k s
        | none => s
    | none => commission p s

/-! ### Moves -/

/-- The sequencer asks for a move; one that arrives at once is taken, and then a pending MANUAL (R46, R54, R55). -/
def askMove (p : Pos) (s : State) : State :=
  let s1 := discRequest p s
  if moveReply p s = .arrived then applyManual (sequencerArrival p s1) else s1

/-! ### Recovery passes (R82) -/

/-- The first position at or forward of `x` that serves a tank (R82 case 5). -/
def serviceTarget (t : Tank) (x : Pos) : Pos := firstForward (fun p => servicePosition p == some t) 14 x

/-- The first of a tank's regeneration positions at or forward of `x` (R82 case 4). -/
def regenTarget (t : Tank) (x : Pos) : Pos := firstForward (fun p => (positionStep t p).isSome) 14 x

/-- A changeover under way continues (R82 case 1). -/
def recoverChangeover (c : Changeover) (x : Pos) (s : State) : State :=
  match c.phase with
  | .toChange => askMove (changePosition c.outgoing) s
  | .dwell =>
    if x = changePosition c.outgoing then s
    else askMove (holdPosition c.outgoing)
      { s with seq := { s.seq with changeover := some { c with phase := .toHold } } }
  | .toHold => askMove (holdPosition c.outgoing) s

/-- A regeneration that is not on its way to READY goes on at or from position `x` (R82 cases 3 and 4). -/
def recoverRegeneration (t : Tank) (x : Pos) (s : State) : State :=
  match positionStep t x with
  | none => askMove (regenTarget t x) s
  | some k =>
    let r := s.tank t
    if r.step = some k then
      (if r.phase = some .toStep then stepArrival t k s else s)
    else enterOtherStep t k s

/-- No tank is regenerating: the disc goes to a service position of the tank in service (R82 case 5). -/
def recoverService (x : Pos) (s : State) : State :=
  let t : Tank :=
    if (s.tank .a).service = .inService then .a
    else if (s.tank .b).service = .inService then .b
    else s.seq.chosen
  let target := serviceTarget t x
  if target = x then commission x s else askMove target s

/-- The recovery pass from the position in place (R82). -/
def recoveryPass (s : State) : State :=
  match s.disc.position with
  | none => s
  | some x =>
    match s.seq.changeover with
    | some c => recoverChangeover c x s
    | none =>
      match regenerating s with
      | some t =>
        if (s.tank t).phase = some .toReady then askMove (readyPosition t) s else recoverRegeneration t x s
      | none => recoverService x s

/-- A pending mode change applies when its conditions hold (R54). -/
def modeChange (s : State) : State :=
  if s.settings.user.soft.discMode = .auto ∧ s.disc.mode = .manual ∧ s.disc.state = .atPosition then
    recoveryPass { s with disc := { s.disc with mode := .auto } }
  else applyManual s

/-- The position found at restart is reported: the choice of commissioning (R60), and in AUTO the recovery pass (R82). -/
def restartPosition (p : Pos) (s : State) : State :=
  let found := firstForward (fun q => (servicePosition q).isSome) 14 p
  let s1 := if commissioning s then
      { s with seq := { s.seq with chosen := (servicePosition found).getD .a } } else s
  if s1.disc.mode = .auto then recoveryPass s1 else s1

/-! ### Arrivals at the positioner (R47, R51) -/

/-- A move arrives at position `p` and is reported (R47, R51); then a pending mode change may apply (R54; the order DESIGN CHOICE, log
entry 16). The retry tag's REQUEST_DONE is posted after what the report to the requester posts (DESIGN CHOICE, log entry 45). -/
def discArrival (p : Pos) (s : State) : State :=
  let d := s.disc
  let s1 := { s with disc := { d.arrive with position := some p, retriedFault := none } }
  let s2 := match d.requester with
    | some .sequencer => sequencerArrival p s1
    | some (.discStep tag) => if d.retryTag.isNone then requestDone .none tag kindDiscStep .done 0 s1 else s1
    | some .restart => restartPosition p s1
    | none => s1
  let s3 := requestDoneIf .none d.retryTag kindDiscRetry .done 0 s2
  let s4 := match d.retriedFault with
    | some c => faultGone c .none s3
    | none => s3
  modeChange s4

/-- In-place is set and the code read (R43, R49); a position that comes in place while the motor is driven starts a new leg
(R48). -/
def inPlaceSet (code : BitVec 4) (s : State) : State :=
  let d := s.disc
  if d.inPlace = true ∨ d.state = .observing then s
  else
    let s1 := { s with disc := { d with
      inPlace := true, code := code
      legTime := if d.driven && (codePosition code).isSome then 0 else d.legTime } }
    if d.driven then
      match d.check code with
      | .arrival p => discArrival p s1
      | .passed p =>
        let passed : Disc := { s1.disc with position := some p }
        { s1 with disc := { passed with state := passed.moving } }
      | .stops c detail p => discFault c detail { s1 with disc := { s1.disc with position := p } }
    else s1

/-- In-place is cleared; a disc moved from outside the drive is brought to the next position (R43). -/
def inPlaceClear (s : State) : State :=
  if s.disc.inPlace then
    (if s.disc.state = .atPosition then { s with disc := s.disc.continuation }
     else { s with disc := { s.disc with inPlace := false } })
  else s

/-- The end of the restart observation (R57, R58). A disc mode set during the observation is tried after the position found has been
reported, and in AUTO after the recovery pass (DESIGN CHOICE, log entry 16). -/
def discObserved (lit : Bool) (code : BitVec 4) (s : State) : State :=
  if s.disc.state = .observing then
    if lit then
      let s1 := { s with disc := { s.disc with inPlace := true, code := code } }
      match codePosition code with
      | some p =>
        modeChange (restartPosition p { s1 with disc := { s1.disc with state := .atPosition, position := some p } })
      | none =>
        discFault .discCode code.toNat
          { s1 with disc := { s1.disc with position := none, target := some .next, requester := some .restart } }
    else { s with disc := s.disc.continuation }
  else s

/-- The leg time reaches its limit (R48). -/
def discTimeout (s : State) : State :=
  if s.disc.driven then
    discFault .discTimeout s.disc.detail { s with disc := { s.disc with legTime := s.disc.legLimit } }
  else s

/-- The overcurrent time reaches 500 ms (R50). -/
def discStall (s : State) : State :=
  if s.disc.driven then
    discFault .discStall s.disc.detail { s with disc := { s.disc with overcurrent := 500 } }
  else s

/-- An accepted DISC_RETRY continues the held move (R53). The manual leaves two cases open (DESIGN CHOICE, log entry 37): a target of NEXT
with a valid code already in place starts the motor toward the position after it, and a held position that equals the target arrives
although in-place has cleared in FAULT. -/
def retryMove (tag : Byte) (s : State) : State :=
  let d := s.disc
  let position := match d.position, d.inPlace with
    | none, true => codePosition d.code
    | p, _ => p
  let s1 := { s with disc := { d with
    retryTag := some tag, retriedFault := d.fault.map Prod.fst, fault := none, position := position } }
  let s2 := if d.requester = some .sequencer then moveResumed s1 else s1
  match position, d.target with
  | some p, some (.pos t) => if p = t then discArrival p s2 else { s2 with disc := s2.disc.start }
  | _, _ => { s2 with disc := s2.disc.start }

/-! ### Steps (R72 to R74, R79, R80) -/

/-- The conditions of R72 other than the halt and the phase. -/
def lineConditions (t : Tank) (s : State) : Bool :=
  (s.tank t).claim == .granted && s.supply.state == .mains && s.valve.state == .opened && s.discFree

/-- A tank's step timer runs (R72). -/
def stepRuns (t : Tank) (s : State) : Bool :=
  (s.tank t).service == .regenerating && (s.tank t).phase == some .inStep && lineConditions t s

/-- The latched duration of a step, for REFILL its limit (R73). -/
def Recipe.duration (r : Recipe) : Step → Nat
  | .backwash => r.backwash
  | .brine => r.brine
  | .rinse => r.rinse
  | .refill => r.refillLimit

/-- The refill volume has reached refill_mL in a REFILL step (R73). -/
def refillReached (t : Tank) (s : State) : Bool :=
  (s.tank t).step == some .refill && decide ((s.tank t).recipe.refillML ≤ refillVolume s)

/-- The end of the current step is reached (R73). -/
def stepOver (t : Tank) (s : State) : Bool :=
  match (s.tank t).step with
  | some k => decide ((s.tank t).recipe.duration k ≤ (s.tank t).elapsed) || refillReached t s
  | none => false

/-- The Brine Monitor is told of a step's end (R73). -/
def stepReported (k : Option Step) (s : State) : State :=
  match k with
  | some .brine => brineEnd s
  | some .refill => refillEnd s
  | _ => s

/-- The phase after a step's end: STEP_ENDED, or HALTED with the HALT answered (R74, R79). -/
def phaseAfter (t : Tank) (s : State) : State :=
  let r := s.tank t
  if r.halt then
    requestDoneIf (.tank t) r.haltTag kindTankCmd .done 0
      (changeTank t { r with phase := some .halted, haltTag := none } s)
  else changeTank t { r with phase := some .stepEnded } s

/-- A step ended by SKIP (R80). -/
def skipStep (t : Tank) (s : State) : State := phaseAfter t (stepReported (s.tank t).step s)

/-- A step that has run to its end: a REFILL is judged normal or short, the Brine Monitor is told, and the phase follows
(R73, R74). REFILL_SHORT comes before TANK_STATE, and TANK_STATE before a HALT's answer (DESIGN CHOICE, log entry 45). -/
def endStep (t : Tank) (s : State) : State :=
  let s1 := if (s.tank t).step = some .refill then
      (if refillReached t s then faultGone .refillShort (.tank t) s
       else faultReport .refillShort (.tank t) (refillVolume s) s)
    else s
  skipStep t s1

/-- The step end at a second at which the timer advances (R73). -/
def stepEnd (t : Tank) (s : State) : State := if stepRuns t s && stepOver t s then endStep t s else s

/-- BRINE has reached 1200 seconds (R73). -/
def brine1200 (t : Tank) (s : State) : State :=
  let judged := match s.brine.measure with | some m => m.judged | none => true
  if stepRuns t s && (s.tank t).step == some .brine && (s.tank t).elapsed == 1200 && !judged then judgeDraw s else s

/-- A tank's step timer at a metering second (R72, R73). Where a BRINE latched at 1200 seconds ends in the second of its judgement, no rule
gives the two an order: the draw is judged, with the FAULT of a BRINE_DRAW_FAIL, before the step ends with its TANK_STATE (DESIGN CHOICE, log
entry 5). -/
def stepSecond (t : Tank) (s : State) : State :=
  if stepRuns t s then
    let r := s.tank t
    stepEnd t (brine1200 t (s.withTank t { r with elapsed := r.elapsed + 1, elapsedMin := (r.elapsed + 1) / 60 }))
  else s

/-- The step after a step; none after REFILL (R74). -/
def nextStep : Step → Option Step
  | .backwash => some .brine
  | .brine => some .rinse
  | .rinse => some .refill
  | .refill => none

/-- A tank in STEP_ENDED has its move asked for when the conditions hold (R74). -/
def stepMove (t : Tank) (s : State) : State :=
  let r := s.tank t
  if r.service = .regenerating ∧ r.phase = some .stepEnded ∧ lineConditions t s then
    match r.step with
    | none => s
    | some k =>
      match nextStep k with
      | some n => askMove (stepPosition t n)
          (changeTank t { r with step := some n, phase := some .toStep, elapsed := 0, elapsedMin := 0 } s)
      | none => askMove (readyPosition t) (changeTank t { r with phase := some .toReady } s)
  else s

/-! ### Moves asked for again at metering seconds (R62, R63, R70) -/

/-- The dwell has reached the overlap (R63). -/
def dwellEnd (s : State) : State :=
  match s.seq.changeover with
  | some c =>
    if c.phase = .dwell ∧ s.supply.state = .mains ∧ s.settings.inst.overlap ≤ c.dwell then
      askMove (holdPosition c.outgoing) { s with seq := { s.seq with changeover := some { c with phase := .toHold } } }
    else s
  | none => s

/-- The dwell at a metering second (R63). -/
def dwellSecond (s : State) : State :=
  match s.seq.changeover with
  | some c =>
    if c.phase = .dwell ∧ s.supply.state = .mains then
      dwellEnd { s with seq := { s.seq with changeover := some { c with dwell := c.dwell + 1 } } }
    else s
  | none => s

/-- A changeover move that was refused is asked for again (R62, R63). -/
def changeoverMove (s : State) : State :=
  match s.seq.changeover with
  | some c =>
    match c.phase with
    | .toChange => if s.discFree ∧ s.supply.state = .mains then askMove (changePosition c.outgoing) s else s
    | .dwell => s
    | .toHold => if s.discFree then askMove (holdPosition c.outgoing) s else s
  | none => s

/-- A first move that was refused is asked for again (R70). -/
def firstMove (t : Tank) (s : State) : State :=
  let r := s.tank t
  match r.step with
  | some k =>
    if r.service = .regenerating ∧ r.phase = some .toStep ∧ s.discFree then askStepMove t k s else s
  | none => s

/-- Every move that waits, asked for when its conditions hold (R62, R63, R70, R74). -/
def waitingMoves (s : State) : State :=
  stepMove .b (stepMove .a (firstMove .b (firstMove .a (changeoverMove s))))

/-! ### Claims and suspension (R69, R72) -/

/-- A tank's regeneration claim at the moment an input changes (R69). -/
def regenClaim (t : Tank) (s : State) : State :=
  if claimHeld t s then keepClaim t s
  else if (s.tank t).service = .exhausted then deferFailing t (withdrawRegen t s)
  else s

/-- A claim pending at a metering second adds LINE_BUSY (R69). -/
def lineBusy (t : Tank) (s : State) : State :=
  if (s.tank t).service = .exhausted ∧ (s.tank t).claim = .pending then defer t .lineBusy s else s

/-- The step of a tank is suspended, as it stands: in IN_STEP, with a condition failing (R72). A tank in STEP_ENDED or HALTED, of which
R74 does not speak, is not suspended, though R72 has 'not halted' among its conditions (DESIGN CHOICE, log entry 51). -/
def suspendedNow (t : Tank) (s : State) : Bool := (s.tank t).phase == some .inStep && !stepRuns t s

/-- The passage between running and suspended posts TANK_STATE (R59, R72). -/
def suspension (t : Tank) (s : State) : State :=
  changeTank t { s.tank t with suspended := suspendedNow t s } s

/-- The standing rules of the sequencer and the Filter Monitor, at an event that may change one of their inputs: moves that wait
(R74), claims (R69, R113) and the suspension of a step (R72). -/
def standing (s : State) : State :=
  let moved := stepMove .b (stepMove .a s)
  let claimed := flushClaim (regenClaim .b (regenClaim .a moved))
  suspension .b (suspension .a claimed)

/-- What follows every event: the standing rules, unless the part has stopped in SHUTDOWN (R152). -/
def follow (s : State) : State := if s.stopped then s else standing s

/-! ### Exhaustions of the sequencer's own (R68) and the hour close (R67) -/

/-- The calendar count has reached the calendar days under METER_LOSS (R68). -/
def calendarFallback (s : State) : State :=
  if s.meter.cond.lossActive ∧ s.settings.user.soft.calendarDays ≤ s.seq.calendar then
    let s1 := { s with seq := { s.seq with calendar := 0 } }
    match s.serviceTank with
    | some t => takeExhaustion t s1
    | none => s1
  else s

/-- The calendar count at a metering second (R68). A CLOCK_SET onto the window hour at 00:00 is not counted (DESIGN CHOICE, log entry 49). -/
def calendarSecond (s : State) : State :=
  if s.meter.cond.lossActive ∧ s.clock.second = s.seq.windowHour * 3600 then
    calendarFallback { s with seq := { s.seq with calendar := s.seq.calendar + 1 } }
  else s

/-- A tank's service hours at an hour close (R68). -/
def serviceHour (t : Tank) (s : State) : State :=
  let r := s.tank t
  if r.service = .inService then s.withTank t { r with hours := satAdd 65535 r.hours 1 } else s

/-- The max service days test (R68). -/
def maxServiceDays (s : State) : State :=
  let d := s.settings.user.soft.maxServiceDays
  match s.serviceTank with
  | some t => if d ≠ 0 ∧ d * 24 < (s.tank t).hours then takeExhaustion t s else s
  | none => s

/-- The projection asked at an hour close for an EXHAUSTED tank (R67). -/
def projectionHour (t : Tank) (s : State) : State :=
  if (s.tank t).service = .exhausted then askProjection t s else s

/-- The sequencer at an hour close (R67, R68), in an order of the model: service hours, their limit, the projections (DESIGN CHOICE, log entry
5). -/
def sequencerHour (s : State) : State :=
  projectionHour .b (projectionHour .a (maxServiceDays (serviceHour .b (serviceHour .a s))))

/-- The sequencer at a metering second (R62, R63, R66, R69, R70, R72 to R74). -/
def sequencerSecond (s : State) : State :=
  let c := s.settings.user.soft
  let s1 := { s with seq := { s.seq with timing := c.timing, windowHour := c.windowHour } }
  let s2 := lineBusy .b (lineBusy .a s1)
  let s3 := stepSecond .b (stepSecond .a s2)
  changeoverBegin (waitingMoves (dwellSecond s3))

/-! ### Resin volumes (R81) -/

/-- A due changeover that waits on a tank newly not READY: it becomes pending, and the tank made EXHAUSTED is FORCED (R67, R81). -/
def waitingChangeover (t : Tank) (wasReady : Bool) (s : State) : State :=
  if s.seq.due = some t.other then
    let s1 := if wasReady then post1 .changeoverPending (.tank t.other) (serviceCode (s.tank t).service) s else s
    if (s1.tank t).service = .exhausted then forceUrgent t s1 else s1
  else s

/-- A tank made EXHAUSTED by its resin volume is scheduled from that event (R81), TANK_STATE before CHANGEOVER_PENDING (DESIGN CHOICE, log
entry 45). -/
def madeExhausted (t : Tank) (s : State) : State :=
  let wasReady : Bool := (s.tank t).service == .ready
  let s1 := changeTank t { s.tank t with service := .exhausted } s
  waitingChangeover t wasReady (askProjection t s1)

/-- A tank made DISABLED by its resin volume (R28, R81): TANK_STATE, then the REGEN tag's answer, then CHANGEOVER_PENDING (the order DESIGN
CHOICE, log entry 45). -/
def madeDisabled (t : Tank) (s : State) : State :=
  let r := s.tank t
  let wasReady : Bool := r.service == .ready
  let s1 := withdrawRegen t s
  let s2 := changeTank t { (s1.tank t).undue with service := .disabled, halt := false, regenTag := none } s1
  let s3 := disableCapacity t s2
  waitingChangeover t wasReady (requestDoneIf (.tank t) r.regenTag kindTankCmd .cancelled 0 s3)

/-- The states in which a tank's resin volume may not be changed by a SET, each with its reason (R81). -/
inductive VrRefusal where
  | inService
  | regenerating
  | faulted
  | changeover
  deriving DecidableEq, Repr

/-- Why a change of a tank's resin volume is refused, none when it is taken (R81). Where two refusals apply, the tank's own state names the
reason before the changeover does (DESIGN CHOICE, log entry 38). -/
def vrRefusal (t : Tank) (s : State) : Option VrRefusal :=
  match (s.tank t).service with
  | .inService => some .inService
  | .regenerating => some .regenerating
  | .faulted => some .faulted
  | _ =>
    if s.seq.changeover.isSome then some .changeover
    else if commissioning s ∧ s.seq.chosen = t then some .inService
    else none

/-- A tank's resin volume has changed to `v` (R28, R81). -/
def vrChanged (t : Tank) (v : Nat) (s : State) : State :=
  let s1 := resetLearning t s
  match vrRefusal t s, (s.tank t).service with
  | some _, _ => s1
  | none, .ready => if v = 0 then madeDisabled t s1 else madeExhausted t s1
  | none, .exhausted => if v = 0 then madeDisabled t s1 else s1
  | none, .disabled => if v = 0 then s1 else madeExhausted t s1
  | none, _ => s1

end Sys2Proof.Machine
end

