-- ==== Sys2Proof/Machine/Metering.lean ====
section
/-! DEFINITION. The Metering Unit (01_water_metering_and_attribution.md, R1 to R19): conversion, attribution, totals, the three
conditions, the seven-day ring and the usage history. -/

namespace Sys2Proof.Machine

/-! ### Conversion (R1, R2) -/

/-- The volume of `n` pulses with a carried remainder, and the new remainder (R2). -/
def convert (k n rem : Nat) : Nat × Nat :=
  let t := n * 100000 + rem
  (t / k, t - t / k * k)

/-- The pulses of a second, saturated as the counter saturates (R2). -/
def pulseCount (held arrived : Nat) : Nat := satAdd 65535 held arrived

/-! ### Attribution (R3 to R5) -/

/-- V_fl (R3). -/
def flushShare (o : Owner) (vIn vProc : Nat) : Nat := if o = .flush then min vProc vIn else 0

/-- Whether both tanks are IN_SERVICE by a changeover in DWELL or TO_HOLD, with the outgoing tank (R4). -/
def splitting (s : State) : Option Tank :=
  match s.seq.changeover with
  | some c => if c.phase = .toChange then none else some c.outgoing
  | none => none

/-- The tank that receives the treated volume outside a split (R4). -/
def soleReceiver (s : State) : Tank :=
  if (s.tank .a).service = .inService then .a
  else if (s.tank .b).service = .inService then .b
  else s.seq.chosen

/-- Whether a tank receives a share in this second (R4). -/
def receives (t : Tank) (s : State) : Bool := (splitting s).isSome || soleReceiver s == t

/-- A tank's share of the treated volume (R4). -/
def tankShare (t : Tank) (vTr : Nat) (s : State) : Nat :=
  match splitting s with
  | some o => if t = o then vTr / 2 else ceilDiv vTr 2
  | none => if soleReceiver s = t then vTr else 0

/-- The per-second figures (R3, R4, R6). -/
def secondFigures (vIn vProc : Nat) (s : State) : Figures :=
  let vFl := flushShare s.line.owner vIn vProc
  let vTr := vIn - vFl
  { vIn := vIn, vProc := vProc, vFl := vFl, vTr := vTr, vH := vIn - vProc,
    shares := ⟨tankShare .a vTr s, tankShare .b vTr s⟩ }

/-- The part of a second's shares that is hard water: those of tanks whose remaining capacity was below 0 (R5). -/
def hardShares (f : Figures) (s : State) : Nat :=
  (if (s.record .a).remaining < 0 then f.shares.a else 0) + (if (s.record .b).remaining < 0 then f.shares.b else 0)

/-- The totals after a second (R7). -/
def Totals.add (t : Totals) (f : Figures) (hard : Nat) : Totals :=
  { inlet := t.inlet + f.vIn, process := t.process + f.vProc, house := t.house + f.vH, flush := t.flush + f.vFl,
    treatedA := t.treatedA + f.shares.a, treatedB := t.treatedB + f.shares.b, hardWater := t.hardWater + hard }

/-- The pulses taken, converted and attributed, and the totals grown (R1 to R7). -/
def takePulses (pulsesIn pulsesProc : Nat) (s : State) : State :=
  let m := s.meter.meters
  let inlet := convert s.settings.inst.kIn (pulseCount m.pulsesIn pulsesIn) (if m.kInChanged then 0 else m.remIn)
  let process := convert s.settings.inst.kProc (pulseCount m.pulsesProc pulsesProc) (if m.kProcChanged then 0 else m.remProc)
  let f := secondFigures inlet.1 process.1 s
  { s with meter := { s.meter with
      meters := { remIn := inlet.2, remProc := process.2 }
      now := f
      totals := s.meter.totals.add f (hardShares f s) } }

/-! ### Conditions (R9 to R12) -/

/-- P1 − P3 in kPa (R9). -/
def pressureDrop (s : State) : Int := (s.filter.p1.reading : Int) - s.filter.p3.reading

/-- METER_LOSS becomes active when the loss count has reached 60 (R9); both probe run counts are held at 0 from then on (R33). -/
def meterLossBegin (s : State) : State :=
  let c := s.meter.cond
  if c.lossActive = false ∧ 60 ≤ c.lossCount then
    faultReport .meterLoss .none (pressureDrop s)
      { s with
        meter := { s.meter with cond := { c with lossActive := true, clearCount := 0 } }
        cap := { s.cap with runs := ⟨0, 0⟩ } }
  else s

/-- METER_LOSS ends when the clear count has reached 10 (R9); the calendar count returns to 0 (R68). -/
def meterLossEnd (s : State) : State :=
  let c := s.meter.cond
  if c.lossActive = true ∧ 10 ≤ c.clearCount then
    faultGone .meterLoss .none { s with
      meter := { s.meter with cond := { c with lossActive := false, lossCount := 0, clearCount := 0 } }
      seq := { s.seq with calendar := 0 } }
  else s

/-- The loss count advances (R9). -/
def lossAdvances (s : State) : Bool :=
  s.valve.state == .opened && decide (40 ≤ pressureDrop s) && s.meter.now.vIn == 0
    && !s.filter.p1.held && !s.filter.p3.held

/-- The meter-loss condition at a metering second (R9). -/
def lossSecond (s : State) : State :=
  let c := s.meter.cond
  if c.lossActive then
    meterLossEnd { s with meter := { s.meter with cond := { c with
      clearCount := if s.meter.now.vIn = 0 then 0 else satAdd 10 c.clearCount 1 } } }
  else
    meterLossBegin { s with meter := { s.meter with cond := { c with
      lossCount := if lossAdvances s then satAdd 60 c.lossCount 1 else 0 } } }

/-- PROCESS_FLOW_UNOWNED becomes active when the unowned count has reached 60 (R10). -/
def unownedBegin (s : State) : State :=
  let c := s.meter.cond
  if c.unownedActive = false ∧ 60 ≤ c.unownedCount then
    faultReport .processFlowUnowned .none c.unownedVolume
      { s with meter := { s.meter with cond := { c with unownedActive := true, quietCount := 0 } } }
  else s

/-- PROCESS_FLOW_UNOWNED ends when the quiet count has reached 60 (R10). -/
def unownedEnd (s : State) : State :=
  let c := s.meter.cond
  if c.unownedActive = true ∧ 60 ≤ c.quietCount then
    faultGone .processFlowUnowned .none { s with meter := { s.meter with cond :=
      { c with unownedActive := false, unownedCount := 0, unownedVolume := 0, quietCount := 0 } } }
  else s

/-- The unowned-flow condition at a metering second (R10). -/
def unownedSecond (s : State) : State :=
  let c := s.meter.cond
  let v := s.meter.now.vProc
  let flows : Bool := s.line.owner == .none && v != 0
  let c' : Conditions := { c with
    unownedCount := if flows then satAdd 60 c.unownedCount 1 else 0
    unownedVolume := if flows then (if c.unownedCount < 60 then c.unownedVolume + v else c.unownedVolume) else 0
    quietCount := if c.unownedActive then (if v = 0 then satAdd 60 c.quietCount 1 else 0) else 0 }
  let s' := { s with meter := { s.meter with cond := c' } }
  if c.unownedActive then unownedEnd s' else unownedBegin s'

/-- The passing window after a second of inlet volume `v` (R11). -/
def passingAfter (w : List Nat) (v : Nat) : List Nat := (if w.length < 60 then w else w.drop (w.length - 59)) ++ [v]

/-- The valve-passing condition at a metering second (R11). -/
def passingSecond (s : State) : State :=
  let c := s.meter.cond
  if s.valve.state = .closed then
    let w := passingAfter c.passing s.meter.now.vIn
    if 500 < w.sum ∧ c.passingActive = false then
      faultReport .valvePassing .none w.sum
        { s with meter := { s.meter with cond := { c with passing := w, passingActive := true } } }
    else { s with meter := { s.meter with cond := { c with passing := w } } }
  else
    let s' := { s with meter := { s.meter with cond := { c with passing := [], passingActive := false } } }
    if c.passingActive then faultGone .valvePassing .none s' else s'

/-! ### The usage history (R14 to R19) -/

/-- The hour index of a day and an hour (section 1.7). -/
def hourIndex (day hour : Nat) : Nat := day * 24 + hour

/-- The index after the last hour a record covers. -/
def HistoryRecord.next (r : HistoryRecord) : Nat := hourIndex r.day r.hour + r.repeats

/-- The number of unread records (R15). -/
def History.unread (h : History) : Nat := h.ring.length - h.cursor

/-- The litres of an hour (R15). -/
def OpenHour.litres (o : OpenHour) : Nat := min 65535 (o.volume / 1000)

/-- An hour merges into the newest record (R15 step 3). -/
def mergeable (o : OpenHour) (r : HistoryRecord) (unread : Nat) : Bool :=
  hourIndex o.day o.hour == r.next && o.litres == r.litres && decide (o.flags = r.flags) && decide (r.repeats < 255)
    && unread != 0 && !r.inFlight

/-- The record of an hour appended (R15 step 4). -/
def OpenHour.record (o : OpenHour) : HistoryRecord :=
  { day := o.day, hour := o.hour, litres := o.litres, flags := o.flags, repeats := 1 }

/-- Whether appending removes an unread record that is not in flight, which sets GAP (R15 step 4). -/
def History.losesUnread (h : History) : Bool :=
  decide (512 ≤ h.ring.length) && h.cursor == 0 && (match h.ring with | r :: _ => !r.inFlight | [] => false)

/-- The history with a record appended (R15 step 4). -/
def History.append (h : History) (r : HistoryRecord) : History :=
  if 512 ≤ h.ring.length then
    { h with ring := h.ring.drop 1 ++ [r], cursor := h.cursor - 1, gap := h.gap || h.losesUnread }
  else { h with ring := h.ring ++ [r] }

/-- The history re-armed for HISTORY_PENDING when fewer than 64 records are unread (R18). -/
def History.rearm (h : History) : History := { h with armed := h.armed || decide (h.unread < 64) }

/-- HISTORY_PENDING when the unread count has risen from 63 to 64 (R18). -/
def historyPending (before : Nat) (s : State) : State :=
  let h := s.meter.history
  if before = 63 ∧ h.unread = 64 ∧ h.armed = true then
    post1 .historyPending .none h.unread { s with meter := { s.meter with history := { h with armed := false } } }
  else s

/-- A GAP set while a HISTORY_READ reply is in flight is not cleared by its completion (R17). -/
def keepGap (h : Handling) : Handling :=
  match h.completion with
  | .historyRead n _ => { h with completion := .historyRead n false }
  | _ => h

/-- An hour's record appended, with GAP and HISTORY_PENDING (R15, R17, R18). -/
def appendHour (o : OpenHour) (s : State) : State :=
  let h := s.meter.history
  let s1 := { s with
    meter := { s.meter with history := (h.append o.record).rearm }
    link := if h.losesUnread then { s.link with handling := s.link.handling.map keepGap } else s.link }
  historyPending h.unread s1

/-- An hour placed in the ring (R15). -/
def placeHour (o : OpenHour) (s : State) : State :=
  let h := s.meter.history
  if o.recordable = false then s
  else match h.ring.getLast? with
    | none => appendHour o s
    | some r =>
      if hourIndex o.day o.hour < r.next then s
      else if mergeable o r h.unread then
        { s with meter := { s.meter with history := { h with
            ring := h.ring.dropLast ++ [{ r with repeats := r.repeats + 1 }] } } }
      else appendHour o s

/-- A new hour opened at the counter's day and hour (R14). -/
def openHour (s : State) : State :=
  { s with meter := { s.meter with hour :=
      { day := s.clock.day, hour := s.clock.hour, recordable := !s.clock.unset } } }

/-- The open hour closed and a new one opened (R14, R15). -/
def closeHour (s : State) : State := openHour (placeHour s.meter.hour s)

/-- Whether the counter stands outside the open hour (R16). -/
def hourMoved (s : State) : Bool := s.clock.day != s.meter.hour.day || s.clock.hour != s.meter.hour.hour

/-- The flags that hold at a second (R14). -/
def flagsNow (s : State) : HourFlags :=
  { leakTrip := s.leak.latch.isSome
    regen := (s.tank .a).service == .regenerating || (s.tank .b).service == .regenerating
    shutoffClosed := s.valve.state != .opened
    onBattery := s.supply.state != .mains }

/-- Two flag sets joined. -/
def HourFlags.join (a b : HourFlags) : HourFlags :=
  { leakTrip := a.leakTrip || b.leakTrip, regen := a.regen || b.regen, shutoffClosed := a.shutoffClosed || b.shutoffClosed,
    onBattery := a.onBattery || b.onBattery, clockSet := a.clockSet || b.clockSet }

/-- The open day and the open hour at a metering second (R13, R14). -/
def accumulate (s : State) : State :=
  let o := s.meter.hour
  { s with meter := { s.meter with
      openDay := s.meter.openDay + s.meter.now.vTr
      hour := { o with volume := o.volume + s.meter.now.vH, flags := o.flags.join (flagsNow s) } } }

/-- The open day closed into the seven-day ring (R13). -/
def closeDay (s : State) : State :=
  let w := s.meter.week
  { s with meter := { s.meter with
      week := (if w.length < 7 then w else w.drop (w.length - 6)) ++ [s.meter.openDay / 1000]
      openDay := 0 } }

/-- The Metering Unit at a metering second, after the pressure samples (R2 to R14). The manual gives its conditions no order: METER_LOSS is
taken first, then PROCESS_FLOW_UNOWNED, then VALVE_PASSING (DESIGN CHOICE, log entry 5). -/
def meteringWork (pulsesIn pulsesProc : Nat) (s : State) : State :=
  accumulate (passingSecond (unownedSecond (lossSecond (takePulses pulsesIn pulsesProc s))))

/-- The conditions of the Metering Unit at a restart (R2, R6, R12). -/
def meteringRestart (s : State) : State :=
  faultGone .valvePassing .none <| faultGone .processFlowUnowned .none <| faultGone .meterLoss .none
    { s with meter := { s.meter with meters := {}, now := {}, cond := {} } }

/-- HISTORY_PENDING at a restart (R18). -/
def historyRestart (s : State) : State :=
  let h := s.meter.history
  if 64 ≤ h.unread then
    post1 .historyPending .none h.unread { s with meter := { s.meter with history := { h with armed := false } } }
  else { s with meter := { s.meter with history := { h with armed := true } } }

/-! ### Midnight and the hour close (R13, R14) -/

/-- The exercise day count at midnight (R149). -/
def exerciseMidnight (s : State) : State :=
  { s with valve := { s.valve with exerciseDays := satAdd 65535 s.valve.exerciseDays 1 } }

/-- Midnight's work, once for each midnight the counter brings (R13, R103, R105, R112, R118, R149). The manual gives the blocks no order: the
open day, the filter, the exercise, the salt (DESIGN CHOICE, log entry 5). -/
def midnight (s : State) : State :=
  if s.clock.midnightDue then
    brineMidnight <| exerciseMidnight <| filterMidnight <| closeDay
      { s with clock := { s.clock with midnightDue := false } }
  else s

/-- The hour close's work, once for each whole hour the counter reaches (R14, R67, R68). The manual gives no order: the history comes before
the sequencer, so HISTORY_PENDING (R18) before CHANGEOVER_PENDING (DESIGN CHOICE, log entry 5). -/
def hourClose (s : State) : State :=
  if s.clock.hourDue then sequencerHour (closeHour { s with clock := { s.clock with hourDue := false } }) else s

end Sys2Proof.Machine
end

