-- ==== Sys2Proof/Machine/Leak.lean ====
section
/-! DEFINITION. The Leak Monitor (08_leak_detection.md, R121 to R140): the detector, the trip latch and the pressure-hold test; and the
parts of the Shutoff Controller that end a test (R144, R146, R147). -/

namespace Sys2Proof.Machine

/-! ### The trip latch (R128, R129) -/

/-- The event litres of the detector: floor(event volume / 1000), 0 while QUIET. -/
def Detector.litres (d : Detector) : Nat := if d.active.isSome then d.volume / 1000 else 0

/-- Whether a cause is in the latch. -/
def Trip.holds (t : Trip) (c : Cause) : Bool := t.first == c || t.further.contains c

/-- Whether a cause is already latched. -/
def latched (c : Cause) (s : State) : Bool :=
  match s.leak.latch with
  | some t => t.holds c
  | none => false

/-- The subject of a LEAK_TRIP: the slot of a pod's cause (R128). -/
def causeSubject : Cause → Subject
  | .zone n => .slot n
  | .podLost n => .slot n
  | _ => .none

/-- A cause is latched, LEAK_TRIP is posted, and a first cause adds TRIP under the leak action CLOSE (R128, R129). LEAK_TRIP comes before the
SHUTOFF_STATE that TRIP brings (DESIGN CHOICE, log entry 45). -/
def latchCore (c : Cause) (detail : Int) (s : State) : State :=
  match s.leak.latch with
  | none =>
    let t : Trip := { first := c, time := s.now, detail := detail, further := [], litres := s.leak.detector.litres }
    let s' := post .leakTrip (causeSubject c) (causeCode c) detail t.litres { s with leak := { s.leak with latch := some t } }
    if s.settings.user.leak.action = .close then addReason .trip s' else s'
  | some t =>
    if t.holds c then s
    else post .leakTrip (causeSubject c) (causeCode c) detail t.litres
      { s with leak := { s.leak with latch := some { t with further := t.further ++ [c] } } }

/-! ### The end of a test (R137 to R139) -/

/-- The reasons of SKIPPED and ABANDONED with their codes (R138). -/
inductive EndReason where
  | notQuiet
  | trip
  | onBattery
  | shutoffClosed
  | lineBusy
  | supply
  | valve
  | sensor
  | draw
  deriving DecidableEq, Repr

/-- The code of an end reason (R138). -/
def endReasonCode : EndReason → Nat
  | .notQuiet => 0
  | .trip => 1
  | .onBattery => 2
  | .shutoffClosed => 3
  | .lineBusy => 4
  | .supply => 5
  | .valve => 6
  | .sensor => 7
  | .draw => 8

/-- The microleak count after a result, with what a MICROLEAK result posts and latches (R139). -/
def microleakResult (result : TestResult) (decay : Int) (s : State) : State :=
  match result with
  | .pass => { s with leak := { s.leak with record := { s.leak.record with microleaks := 0 } } }
  | .microleak =>
    let n := satAdd 255 s.leak.record.microleaks 1
    let s1 := { s with leak := { s.leak with record := { s.leak.record with microleaks := n } } }
    if 3 ≤ n then
      let s2 := post .microleak .none n decay s1.leak.test.p0 s1
      if s2.settings.user.leak.microleakAction = .close then latchCore .microleak decay s2 else s2
    else s1
  | _ => s

/-- The valve is under the test: its phase is CLOSING, SETTLE or HOLD. -/
def TestPhase.closes : TestPhase → Bool
  | .closing => true
  | .settle => true
  | .hold => true
  | _ => false

/-- A result recorded and posted: steps 4 to 8 of R138. -/
def recordResult (result : TestResult) (value : Int) (p0 : Nat) (decay : Int) (s : State) : State :=
  let s4 := { s with leak := { s.leak with record := { s.leak.record with
    result := some result, time := s.now, p0 := p0, decay := decay } } }
  let s5 := post .testResult .none (testResultCode result) value p0 s4
  let outcome : DoneOutcome := if result = .pass ∨ result = .microleak then .done else .cancelled
  let s6 := requestDoneIf .none s.leak.test.tag kindPressureTest outcome 0 s5
  exerciseCue { s6 with leak := { s6.leak with test := {} } }

/-- A test ends with a result (R138). -/
def endTest (result : TestResult) (value : Int) (decay : Int) (s : State) : State :=
  let s1 := microleakResult result decay s
  let s2 := if s.leak.test.phase.closes then removeReason .test s1 else s1
  recordResult result value s.leak.test.p0 decay (giveUpTest s2)

/-- A test ends ABANDONED for a reason (R137). A test abandoned in HOLD has reached its P0 and no decay: its P0 is recorded, with a decay of
0, though R138 makes both 0 only for a result that reached neither (DESIGN CHOICE, log entry 43). -/
def abandonTest (r : EndReason) (s : State) : State :=
  if s.leak.test.phase = .idle then s else endTest .abandoned (endReasonCode r) 0 s

/-- A test that has the valve ends ABANDONED for a reason (R137). -/
def abandonClosing (r : EndReason) (s : State) : State :=
  if s.leak.test.phase.closes then abandonTest r s else s

/-- A cause is to be latched; a cause recorded ends a running test (R128, R137). -/
def latchCause (c : Cause) (detail : Int) (s : State) : State :=
  if latched c s then s else abandonTest .trip (latchCore c detail s)

/-! ### The detector (R121 to R126) -/

/-- The threshold set of a leak mode (R121). -/
def thresholdSet (c : LeakSettings) : Thresholds :=
  match c.mode with
  | .home => c.home
  | .away => c.away
  | .vacation => { c.away with continuous := 60 }

/-- The trip tests, in the order of the table (R124). -/
def tripTests (s : State) : State :=
  match s.leak.detector.active with
  | none => s
  | some set =>
    let d := s.leak.detector
    let s1 := if set.continuous ≤ d.seconds then latchCause .continuous d.seconds s else s
    let s2 := if set.volume ≤ d.litres then latchCause .volume d.litres s1 else s1
    if set.burstTime ≤ d.burst then latchCause .burst d.burst s2 else s2

/-- The trip tests unless METER_LOSS holds them back (R124). -/
def flowTrip (held : Bool) (s : State) : State := if held then s else tripTests s

/-- The rising count has reached 3: the event begins (R122). -/
def eventBegin (held : Bool) (s : State) : State :=
  let d := s.leak.detector
  if d.active = none ∧ 3 ≤ d.rising then
    flowTrip held { s with leak := { s.leak with detector :=
      { active := some (thresholdSet s.settings.user.leak), seconds := 3, volume := d.risingVolume } } }
  else s

/-- The gap count has reached the quiet gap: the event ends (R123). -/
def eventEnd (s : State) : State :=
  let d := s.leak.detector
  if d.active.isSome ∧ s.settings.user.leak.quietGap ≤ d.gap then
    { s with leak := { s.leak with detector := {} } }
  else s

/-- A QUIET second (R122). -/
def Detector.quietSecond (d : Detector) (trickle v : Nat) : Detector :=
  if trickle ≤ v then
    { d with quiet := satAdd 65535 d.quiet 1, rising := d.rising + 1, risingVolume := d.risingVolume + v }
  else { d with quiet := satAdd 65535 d.quiet 1, rising := 0, risingVolume := 0 }

/-- A FLOWING second's counts (R123). -/
def Detector.flowSecond (d : Detector) (set : Thresholds) (v : Nat) : Detector :=
  let burst := if set.burstRate ≤ v then satAdd 65535 d.burst 1 else 0
  let volume := satAdd 4294967295 d.volume v
  if set.trickle ≤ v then
    { d with volume := volume, burst := burst, seconds := satAdd 65535 d.seconds 1, gap := 0 }
  else { d with volume := volume, burst := burst, gap := satAdd 300 d.gap 1 }

/-- The detector held QUIET while the valve is not OPEN (R125). -/
def Detector.held (d : Detector) : Detector := { quiet := satAdd 65535 d.quiet 1 }

/-- The detector at a metering second of house volume `v`; `held` says that METER_LOSS keeps the trip tests back (R122 to R125). -/
def detectorSecond (v : Nat) (held : Bool) (s : State) : State :=
  let d := s.leak.detector
  if s.valve.state ≠ .opened then { s with leak := { s.leak with detector := d.held } }
  else match d.active with
    | none => eventBegin held { s with leak := { s.leak with
        detector := d.quietSecond (thresholdSet s.settings.user.leak).trickle v } }
    | some set => eventEnd (flowTrip held { s with leak := { s.leak with detector := d.flowSecond set v } })

/-- A change of the leak mode re-forms the active set of an event (R126). -/
def leakModeChanged (s : State) : State :=
  if s.leak.detector.active.isSome then
    { s with leak := { s.leak with detector := { s.leak.detector with
        active := some (thresholdSet s.settings.user.leak) } } }
  else s

/-- The leak action has been taken as CLOSE or NOTIFY (R129). -/
def leakActionTaken (s : State) : State :=
  if s.settings.user.leak.action = .close then
    (if s.leak.latch.isSome then addReason .trip s else s)
  else removeReason .trip s

/-! ### The pressure-hold test (R132 to R136) -/

/-- The test enters CLAIMING, with the tag of a request or none (R134). -/
def testClaim (tag : Option Byte) (s : State) : State :=
  claimTest { s with leak := { s.leak with test := { phase := .claiming, tag := tag } } }

/-- The first failed precondition of a nightly test (R132). -/
def skipReason (s : State) : Option EndReason :=
  if s.leak.detector.active.isSome ∨ s.leak.detector.quiet < 1800 then some .notQuiet
  else if s.leak.latch.isSome then some .trip
  else if s.supply.state ≠ .mains then some .onBattery
  else if s.valve.state ≠ .opened then some .shutoffClosed
  else none

/-- The nightly test is due (R132). -/
def testDue (s : State) : State :=
  if s.leak.testDue then
    let s' := { s with leak := { s.leak with testDue := false } }
    if s'.leak.test.phase = .idle then
      match skipReason s' with
      | some r => recordResult .skipped (endReasonCode r) 0 0 s'
      | none => testClaim none s'
    else s'
  else s

/-- The claim wait has run out (R134). -/
def claimWaitExpiry (s : State) : State :=
  if s.leak.test.phase = .claiming ∧ 1800 ≤ s.leak.test.wait then
    endTest .skipped (endReasonCode .lineBusy) 0 s
  else s

/-- The valve is found CLOSED: the test settles (R135). -/
def testSettle (s : State) : State :=
  if s.leak.test.phase = .closing ∧ s.valve.state = .closed then
    { s with leak := { s.leak with test := { s.leak.test with phase := .settle, settle := 0 } } }
  else s

/-- The settle time has reached 10 (R135, R137). -/
def holdBegin (s : State) : State :=
  if s.leak.test.phase = .settle ∧ 10 ≤ s.leak.test.settle then
    if s.filter.p3.held then abandonTest .sensor s
    else { s with leak := { s.leak with test := { s.leak.test with
      phase := .hold, hold := 0, p0 := s.filter.p3.reading, window := [s.filter.p3.reading] } } }
  else s

/-- The hold time has reached the duration: PASS or MICROLEAK by the decay (R136). -/
def holdEnd (s : State) : State :=
  let t := s.leak.test
  if t.phase = .hold ∧ t.duration ≤ t.hold then
    let decay : Int := (t.p0 : Int) - (t.window.getLast?.getD t.p0 : Nat)
    endTest (if (t.decay : Int) ≤ decay then .microleak else .pass) decay decay s
  else s

/-- The window of P3 readings with a second's reading appended (R136). -/
def windowAfter (w : List Nat) (x : Nat) : List Nat := (if w.length < 21 then w else w.drop (w.length - 20)) ++ [x]

/-- A HOLD second (R136). -/
def holdSecond (s : State) : State :=
  let t := s.leak.test
  let x := s.filter.p3.reading
  let w := windowAfter t.window x
  let s' := { s with leak := { s.leak with test := { t with window := w, hold := t.hold + 1 } } }
  if s.filter.p3.held then abandonTest .sensor s'
  else if t.draw + x < w.foldl max 0 then abandonTest .draw s'
  else holdEnd s'

/-- The test at a metering second, by its phase (R134 to R136). -/
def testSecond (s : State) : State :=
  let t := s.leak.test
  match t.phase with
  | .idle => s
  | .claiming => claimWaitExpiry { s with leak := { s.leak with test := { t with wait := t.wait + 1 } } }
  | .closing => testSettle s
  | .settle => holdBegin { s with leak := { s.leak with test := { t with settle := t.settle + 1 } } }
  | .hold => holdSecond s

/-- The Leak Monitor at a restart (R131, R140). -/
def leakRestart (s : State) : State :=
  { s with leak := { s.leak with detector := {}, test := {}, testDue := false } }

/-! ### Valve failures that end a test (R137, R144, R146, R147) -/

/-- The valve becomes STUCK, and a test that has the valve ends (R137, R144, R146), after SHUTOFF_STATE, the fault and the command tag's
answer (DESIGN CHOICE, log entry 45). -/
def valveStuck (c : StuckCause) (detail : Int) (s : State) : State :=
  abandonClosing .valve (valveStuckCore c detail s)

/-- Both end switches are made (R146). -/
def switchFault (s : State) : State := valveStuck .switch (valveCode s.valve.state) s

/-- An attempt fails, by time or by stall (R144). -/
def attemptFails (stall : Bool) (s : State) : State :=
  match driveEnd s.valve.drive with
  | none => s
  | some e =>
    if s.valve.exercise = .closeRun then s
    else if s.valve.second then
      valveStuck (.stuck (failureDetail e stall)) (failureDetail e stall) s
    else { s with valve := { s.valve with second := true, drive := .stopped, pause := .retry } }

/-- A pause ends: the motor is driven toward the target, or the travel arrives at once (R144, R145, R150). -/
def pauseEnd (s : State) : State :=
  if s.valve.pause = .none then s
  else openedDecision s (driveOrArrive s.targetEnd { s with valve := { s.valve with pause := .none } })

/-- SHUTOFF_CMD RETRY's one attempt of a STUCK valve (R147); that the valve was STUCK is kept until its travel arrives (R143). -/
def retryValve (s : State) : State :=
  let e := s.targetEnd
  let s1 := { s with valve := { s.valve with second := true, retried := true, stuck := none } }
  if s.pins.bothMade then switchFault (valveChange (travelState e) s1)
  else if s.pins.switch e then openedDecision s (faultGone .shutoffSwitch .none (valveArrive e s1))
  else drive e (valveChange (travelState e) s1)

end Sys2Proof.Machine
end

