-- ==== Sys2Proof/Machine/Pods.lean ====
section
/-! DEFINITION. The Pod Loop Controller (10_moisture_pods.md, R156 to R167): polling, answers, supervision, the wet report, freezing and
enrolment. -/

namespace Sys2Proof.Machine

/-! ### The roster -/

/-- A slot record. -/
def State.slot (s : State) (n : Fin 8) : PodSlot := s.pods.slots.get n

/-- A slot record replaced. -/
def State.withSlot (s : State) (n : Fin 8) (p : PodSlot) : State :=
  { s with pods := { s.pods with slots := s.pods.slots.set n p } }

/-- A serial as a number, 0 for none. -/
def PodSlot.serialNat (p : PodSlot) : Nat := match p.serial with | some v => v.toNat | none => 0

/-- POD_STATE for a slot (R158). -/
def postPod (n : Fin 8) (s : State) : State :=
  post .podState (.slot n) (slotCode (s.slot n).state) (podFlagsCode (s.slot n)) (s.slot n).temperature s

/-- A slot record replaced, with POD_STATE when its state, wet, battery-low or tamper changed (R158, R159). -/
def changeSlot (n : Fin 8) (p : PodSlot) (s : State) : State :=
  let old := s.slot n
  let s' := s.withSlot n p
  if old.state = p.state ∧ old.wet = p.wet ∧ old.batteryLow = p.batteryLow ∧ old.tamper = p.tamper then s'
  else postPod n s'

/-- Every slot, slot 0 first. -/
def allSlots : List (Fin 8) := [0, 1, 2, 3, 4, 5, 6, 7]

/-- The number of slots in a state (R158). -/
def slotCount (st : SlotState) (s : State) : Nat := s.pods.slots.toList.countP fun p => p.state == st

/-- A guarded pod is wet: ACTIVE or MISSING, with wet and the shutoff flag set (R161). -/
def PodSlot.wetGuarded (p : PodSlot) : Bool :=
  (p.state == .active || p.state == .missing) && p.wet && p.shutoff

/-- The answer to the Leak Monitor's question at LEAK_RESET (R161). -/
def anyWetGuarded (s : State) : Bool := s.pods.slots.toList.any PodSlot.wetGuarded

/-- A guarded pod has become wet: ZONE is latched with its temperature (R127). -/
def podWet (n : Fin 8) (s : State) : State := latchCause (.zone n) (s.slot n).temperature s

/-! ### Polling (R156, R157) -/

/-- The first enrolled slot after the poll position (R157). -/
def nextPoll (s : State) : Option (Fin 8) :=
  let order := match s.pods.position with
    | none => allSlots
    | some p => (List.range 8).map fun i => p + 1 + Fin.ofNat 8 i
  order.find? fun n => (s.slot n).state != .empty

/-- A POLL is sent (R156, R157). -/
def pollSend (s : State) : State :=
  match nextPoll s with
  | none => s
  | some n => { s with pods := { s.pods with
      position := some n, seq := s.pods.seq + 1, awaiting := some (n, s.pods.seq), calling := false,
      out := some (.poll n s.pods.seq) } }

/-! ### Missed answers (R160) -/

/-- The missed count has reached 3 in ACTIVE (R160). -/
def podMissing (n : Fin 8) (s : State) : State :=
  let p := s.slot n
  if p.state = .active ∧ 3 ≤ p.missed then changeSlot n { p with state := .missing } s else s

/-- The missed count has reached 10 in ACTIVE or MISSING (R160, R127). -/
def podLost (n : Fin 8) (s : State) : State :=
  let p := s.slot n
  if (p.state = .active ∨ p.state = .missing) ∧ 10 ≤ p.missed then
    let s1 := changeSlot n { p with state := .lost, wet := false, wetSince := none, candidate := none } s
    let s2 := faultReport .podLost (.slot n) p.serialNat s1
    if s2.settings.user.leak.podLostAction = .close then latchCause (.podLost n) p.temperature s2 else s2
  else s

/-- A missed answer is taken for a slot; an EMPTY slot's is discarded (R157, R160). -/
def missedAnswer (n : Fin 8) (s : State) : State :=
  let p := s.slot n
  if p.state = .empty then s
  else podLost n (podMissing n (s.withSlot n { p with missed := satAdd 255 p.missed 1 }))

/-! ### Good answers (R159, R161, R162) -/

/-- The fields of a poll answer. -/
structure Answer where
  wet : Bool
  batteryLow : Bool
  tamper : Bool
  temperature : Int
  deriving DecidableEq, Repr

/-- The slot record after a good answer at time `now` (R159, R161). -/
def PodSlot.answered (p : PodSlot) (a : Answer) (now : Stamp) : PodSlot :=
  let agreed := p.candidate == some a.wet && p.wet != a.wet
  { p with
    missed := 0
    state := .active
    batteryLow := a.batteryLow
    tamper := a.tamper
    temperature := a.temperature
    wet := if agreed then a.wet else p.wet
    wetSince := if agreed then (if a.wet then some now else none) else p.wetSince
    candidate := some a.wet }

/-- The freeze test of a good answer (R162). -/
def freezeTest (n : Fin 8) (s : State) : State :=
  let p := s.slot n
  let f := s.settings.user.leak.freeze
  if p.temperature ≤ f ∧ p.freeze = false then
    post .freezeWarn (.slot n) p.temperature f p.serialNat (s.withSlot n { p with freeze := true })
  else if f + 2 ≤ p.temperature ∧ p.freeze = true then s.withSlot n { p with freeze := false }
  else s

/-- A good answer applied to its slot (R159). R159 gives the answer's one POD_STATE no step: it is posted after a PODLOST that goes, before
the wet report (as section 10.4.2 shows it) and before the FREEZE_WARN of the same answer (DESIGN CHOICE, log entry 5). -/
def goodAnswer (n : Fin 8) (a : Answer) (s : State) : State :=
  let old := s.slot n
  let p := old.answered a s.now
  let s1 := if old.state = .lost then faultGone .podLost (.slot n) s else s
  let s2 := changeSlot n p s1
  let s3 := if p.wet && !old.wet && p.shutoff then podWet n s2 else s2
  freezeTest n s3

/-- An answer within the 40 ms of its POLL: good, or garbled and so missed; an EMPTY slot's is discarded (R156, R157). The first answer ends
the exchange: a second one within the same 40 ms, a good one after a garbled one or a repeat, is not taken (DESIGN CHOICE, log entry 30). -/
def takeAnswer (slot seq : Byte) (a : Answer) (sumGood : Bool) (s : State) : State :=
  match s.pods.awaiting with
  | none => s
  | some (n, q) =>
    let s1 := { s with pods := { s.pods with awaiting := none } }
    if (s.slot n).state = .empty then s1
    else if sumGood = true ∧ slot.toNat = n.val ∧ seq = q ∧ -40 ≤ a.temperature ∧ a.temperature ≤ 85 then
      goodAnswer n a s1
    else missedAnswer n s1

/-- The 40 ms of a POLL run out without an answer (R156, R160). -/
def answerMissed (s : State) : State :=
  match s.pods.awaiting with
  | none => s
  | some (n, _) => missedAnswer n { s with pods := { s.pods with awaiting := none } }

/-! ### Enrolment (R163, R164) -/

/-- The window closes with its REQUEST_DONE (R163, R184). -/
def windowClose (w : Enrolment) (s : State) : State :=
  requestDone .none w.tag kindPodEnrol .done (w.new * 256 + w.again : Nat)
    { s with pods := { s.pods with window := none, calling := false } }

/-- The remaining time has reached 0 (R163). -/
def enrolWindowClose (s : State) : State :=
  match s.pods.window with
  | some w => if w.remaining = 0 then windowClose w s else s
  | none => s

/-- The window at a metering second (R163). -/
def enrolSecond (s : State) : State :=
  match s.pods.window with
  | some w => enrolWindowClose { s with pods := { s.pods with window := some { w with remaining := w.remaining - 1 } } }
  | none => s

/-- An ENROL_CALL is sent while the window is open (R164). -/
def enrolCall (s : State) : State :=
  if s.pods.window.isSome then { s with pods := { s.pods with calling := true, out := some .enrolCall } }
  else s

/-- The slot that holds a serial. -/
def slotOf (serial : BitVec 32) (s : State) : Option (Fin 8) := allSlots.find? fun n => (s.slot n).serial == some serial

/-- The lowest EMPTY slot. -/
def lowestEmpty (s : State) : Option (Fin 8) := allSlots.find? fun n => (s.slot n).state == .empty

/-- A pod of the roster is sent its slot again (R164). -/
def reassign (serial : BitVec 32) (n : Fin 8) (w : Enrolment) (s : State) : State :=
  post .podEnrolled (.slot n) 0 serial.toNat n.val { s with pods := { s.pods with
    out := some (.assign serial n), window := some { w with again := w.again + 1 } } }

/-- A new pod takes the lowest EMPTY slot; the window closes when no slot stays EMPTY (R163, R164). -/
def assign (serial : BitVec 32) (n : Fin 8) (w : Enrolment) (s : State) : State :=
  let w' : Enrolment := { w with new := w.new + 1 }
  let s1 := { s with pods := { s.pods with out := some (.assign serial n), window := some w' } }
  let s2 := changeSlot n { serial := some serial, state := .missing } s1
  let s3 := post .podEnrolled (.slot n) 1 serial.toNat n.val s2
  if (lowestEmpty s3).isNone then windowClose w' s3 else s3

/-- A good enrol answer: a serial that a slot holds is sent that slot again, another takes the lowest EMPTY slot, and with none the
answer is ignored (R164). -/
def enrolSerial (serial : BitVec 32) (w : Enrolment) (s : State) : State :=
  match slotOf serial s, lowestEmpty s with
  | some n, _ => reassign serial n w s
  | none, some n => assign serial n w s
  | none, none => s

/-- An enrol answer complete `delayMs` milliseconds after the call. Within the 40 ms of the call it is taken when it is good, and a
garbled one is ignored, so that a good one may yet follow; one that comes later finds the exchange over and is discarded (R156, R164). -/
def enrolAnswer (serial : BitVec 32) (sumGood : Bool) (delayMs : Nat) (s : State) : State :=
  match s.pods.calling, s.pods.window with
  | true, some w =>
    if 40 < delayMs then { s with pods := { s.pods with calling := false } }
    else if sumGood = true ∧ serial ≠ 0 then enrolSerial serial w s
    else s
  | _, _ => s

/-! ### Removal and restarts (R165, R167) -/

/-- A slot becomes EMPTY with its first-start values, and POD_STATE is posted (R165, R167). -/
def emptySlot (n : Fin 8) (s : State) : State := postPod n (s.withSlot n {})

/-- The roster at a defaults restore with SVCn: every slot that holds a pod becomes EMPTY (R167). -/
def emptyRoster (s : State) : State :=
  allSlots.foldl (fun s n => if (s.slot n).state = .empty then s.withSlot n {} else emptySlot n s) s

/-- The Pod Loop Controller at a restart (R167). -/
def podsRestart (s : State) : State :=
  { s with pods := { slots := s.pods.slots.map fun p => { p with missed := 0, candidate := none } } }

end Sys2Proof.Machine
end

