-- ==== Sys2Proof/Machine/Supply.lean ====
section
/-! DEFINITION. The Supply Monitor (section 9.5, R151 to R153): the voltage, the supply state and what its changes bring about. -/

namespace Sys2Proof.Machine

/-- The voltage measured at a metering second, with the steady counts of R151. -/
def voltageSecond (mv : Nat) (s : State) : State :=
  let p := s.supply
  let count (beyond : Bool) (n : Nat) : Nat := if beyond then satAdd 10 n 1 else 0
  { s with supply := { p with
      battery := mv
      below105 := count (decide (mv < 10500)) p.below105
      below114 := count (decide (mv < 11400)) p.below114
      above119 := count (decide (11900 ≤ mv)) p.above119 } }

/-- The new state when mains is lost in MAINS (R151). -/
def stateOnLoss (p : Supply) : SupplyState :=
  if 10 ≤ p.below105 then .shutdown else if 10 ≤ p.below114 then .batteryLow else .battery

/-- The new state that the steady voltage gives, none when no row holds (R151). -/
def stateOnVoltage (p : Supply) : Option SupplyState :=
  match p.state with
  | .battery => if 10 ≤ p.below105 then some .shutdown else if 10 ≤ p.below114 then some .batteryLow else none
  | .batteryLow => if 10 ≤ p.below105 then some .shutdown else if 10 ≤ p.above119 then some .battery else none
  | _ => none

/-- The part stops: every output is released and the queue of notices goes with the volatile state (R152). -/
def shutdown (s : State) : State :=
  { s with
    valve := { s.valve with drive := .stopped, pause := .none }
    filter := { s.filter with solenoid := false }
    pods := { s.pods with out := none, awaiting := none, calling := false }
    notices := {} }

/-- The change reported to the Filter Monitor and the Leak Monitor when the supply leaves MAINS (R117, R137). -/
def mainsLeft (s : State) : State := abandonClosing .supply (flushCut s)

/-- The change to MAINS reported: LOW_BATTERY leaves the set (R153) and the arbiter makes a decision (R86). -/
def mainsEntered (s : State) : State := changeDecision (removeReason .lowBattery s)

/-- The entry into BATTERY_LOW: the fault (R151) and, by the low-battery action, the close reason (R153). -/
def lowEntered (s : State) : State :=
  let s' := faultReport .batteryLow .none s.supply.battery s
  if s'.settings.user.leak.lowBatteryAction = .close then addReason .lowBattery s' else s'

/-- The supply state becomes `n` (R151 to R153). The manual gives no order: SUPPLY_STATE first, then what leaving MAINS ends, then what the new
state brings (DESIGN CHOICE, log entry 45). -/
def supplyChange (n : SupplyState) (s : State) : State :=
  let old := s.supply.state
  if old = n then s
  else
    let s1 := post2 .supplyState .none (supplyCode n) s.supply.battery { s with supply := { s.supply with state := n } }
    let s2 := if old = .batteryLow then faultGone .batteryLow .none s1 else s1
    let s3 := if old = .mains then mainsLeft s2 else s2
    match n with
    | .mains => mainsEntered s3
    | .battery => s3
    | .batteryLow => lowEntered s3
    | .shutdown => shutdown s3

/-- The rows of R151 that the voltage decides. -/
def voltageSteady (s : State) : State :=
  match stateOnVoltage s.supply with
  | some n => supplyChange n s
  | none => s

/-- The low-battery action has been taken as CLOSE or HOLD (R153). -/
def lowBatteryTaken (s : State) : State :=
  if s.settings.user.leak.lowBatteryAction = .close then
    (if s.supply.state = .batteryLow then addReason .lowBattery s else s)
  else removeReason .lowBattery s

end Sys2Proof.Machine
end

