-- ==== Sys2Proof/Machine/Second.lean ====
section
/-! DEFINITION. The metering second: the per-second work of every block in the model's order (log entry 5), and the restarts of the
part. -/

namespace Sys2Proof.Machine

/-! ### Pieces of the metering second -/

/-- The counter advances by one second (R188). -/
def advanceClock (s : State) : State := { s with clock := s.clock.advance }

/-- The three pressure sensors are sampled (R108), which gives them no order: P1, then P2, then P3 (DESIGN CHOICE, log entry 5). -/
def samplePressures (x : SecondInputs) (s : State) : State :=
  pressureSample 2 x.p3 (pressureSample 1 x.p2 (pressureSample 0 x.p1 s))

/-- A tank that receives a share is depleted by it unless depletion is frozen (R29). -/
def depleteShare (t : Tank) (frozen : Bool) (s : State) : State :=
  if receives t s && !frozen then depleteTank t (s.meter.now.shares.get t) s else s

/-- The sole tank IN_SERVICE at or below its switch point raises EXHAUSTED once (R31, R61). -/
def raiseExhaustion (s : State) : State :=
  match s.serviceTank with
  | none => s
  | some t =>
    let r := s.record t
    if exhaustionDue r s.settings.user.soft.margin then
      takeExhaustion t (s.withRecord t { r with exhaustionRaised := true })
    else s

/-- The Capacity Unit at a metering second (R29 to R38). -/
def capacitySecond (x : SecondInputs) (frozen : Bool) (s : State) : State :=
  probeSecond .b x.probeB <| probeSecond .a x.probeA <|
    raiseExhaustion (depleteShare .b frozen (depleteShare .a frozen s))

/-- The Brine Monitor at a metering second (R91, R92, R97). -/
def brineSecond (x : SecondInputs) (s : State) : State :=
  saltSecond x.saltDistance (refillSecond s.meter.now.vProc (levelSecond x.level s))

/-- The Filter Monitor at a metering second, after its samples (R109 to R118). -/
def filterSecond (s : State) : State :=
  let f := s.meter.now
  flushEnd (flushSecond f.vProc (screenSecond f.vTr f.vH (indexSecond f.vIn s)))

/-- The exercise's 30 minutes have passed (R149). -/
def armedExpiry (s : State) : State :=
  if s.valve.exercise = .armed ∧ 1800 ≤ s.valve.exerciseTime then
    { s with valve := { s.valve with exercise := .none } }
  else s

/-- The exercise starts at the first second at which its conditions hold (R149, R150). -/
def exerciseStart (s : State) : State := if s.valve.exercise = .armed ∧ exerciseReady s then exerciseBegin s else s

/-- The exercise at a metering second (R149). -/
def exerciseSecond (s : State) : State :=
  match s.valve.exercise with
  | .armed =>
    armedExpiry (exerciseStart { s with valve := { s.valve with exerciseTime := s.valve.exerciseTime + 1 } })
  | .closeRun => { s with valve := { s.valve with exerciseTime := min 2000 (s.valve.exerciseTime + 1000) } }
  | _ => s

/-- The test minute is reached by the counter's advance (R132). -/
def testMinuteReached (s : State) : State :=
  let m := s.settings.user.leak.testMinute
  testDue { s with leak := { s.leak with testDue := m != 1440 && s.clock.second == m * 60 } }

/-- The exercise's own cue while the nightly test is off (R149). -/
def offCue (s : State) : State :=
  if s.settings.user.leak.testMinute = 1440 ∧ s.clock.second = 12600 then exerciseCue s else s

/-- The Leak Monitor at a metering second (R122 to R136). -/
def leakSecond (frozen : Bool) (s : State) : State :=
  offCue (testMinuteReached (testSecond (detectorSecond s.meter.now.vH frozen s)))

/-- The leg time and the travel time of the second that has passed, while their motors are driven (R48, R143; log entry 6). -/
def driveTimes (s : State) : State :=
  { s with
    disc := if s.disc.driven then { s.disc with legTime := min s.disc.legLimit (s.disc.legTime + 1) } else s.disc
    valve := if s.valve.drive = .stopped then s.valve
      else { s.valve with travel := min s.settings.inst.travelLimit (s.valve.travel + 1) } }

/-- The complete metering second. -/
def runSecond (x : SecondInputs) (s : State) : State :=
  let before := s.meter.cond.lossActive
  let sampled := samplePressures x <| voltageSecond x.battery.toNat <| advanceClock <| driveTimes
    { s with pins := { s.pins with svc := x.svc } }
  let metered := meteringWork x.pulsesIn x.pulsesProc sampled
  let frozen := before || metered.meter.cond.lossActive
  let worked := sequencerSecond (filterSecond (brineSecond x (capacitySecond x frozen metered)))
  let clocked := calendarSecond (hourClose (midnight worked))
  let watched := leakSecond frozen (exerciseSecond clocked)
  follow (voltageSteady (enrolSecond watched))

/-! ### Restarts (00_scope.md, section 5) -/

/-- The supply classified at a restart (R155). -/
def classify (x : RestartInputs) : SupplyState :=
  if x.mains then .mains
  else if x.battery.toNat < 10500 then .shutdown
  else if x.battery.toNat < 11400 then .batteryLow
  else .battery

/-- The Supply Monitor at a restart (R155); SHUTDOWN is entered at the end of the restart (R152). -/
def supplyRestart (x : RestartInputs) (s : State) : State :=
  let n := classify x
  let s1 := faultGone .batteryLow .none { s with
    supply := { state := n, battery := x.battery.toNat }
    pins := { mains := x.mains, openEnd := x.openEnd, closedEnd := x.closedEnd, svc := x.svc } }
  let s2 := post2 .supplyState .none (supplyCode n) x.battery.toNat s1
  if n = .batteryLow then faultReport .batteryLow .none x.battery.toNat s2 else s2

/-- The close-reason set rebuilt at a restart (R154). -/
def rebuiltReasons (s : State) : Reasons :=
  { host := s.valve.reasons.host
    trip := s.leak.latch.isSome && s.settings.user.leak.action == .close
    test := false
    lowBattery := s.supply.state == .batteryLow && s.settings.user.leak.lowBatteryAction == .close }

/-- SHUTOFF_STATE with the values as they stand (R141, R154). -/
def postValve (s : State) : State :=
  post .shutoffState .none (valveCode s.valve.state) (reasonsCode s.valve.reasons) (exerciseCode s.valve.exercise) s

/-- The valve as its end switches and its target find it at a restart (R154). With both switches made the detail of
SHUTOFF_SWITCH is a free value: no state of this run of the controller stands before the fault (log entry 24). -/
def placeValve (s : State) : State :=
  let e := s.targetEnd
  if s.pins.bothMade then
    faultReport .shutoffSwitch .none Config.restartSwitchDetail
      { s with valve := { s.valve with state := .stuck, stuck := some .switch } }
  else if s.pins.switch e then { s with valve := { s.valve with state := restState e } }
  else drive e { s with valve := { s.valve with state := travelState e } }

/-- The Shutoff Controller at a restart (R154). -/
def valveRestart (s : State) : State :=
  let s1 := faultGone .shutoffSwitch .none (faultGone .shutoffStuck .none s)
  postValve (placeValve { s1 with valve := { reasons := rebuiltReasons s, exerciseDays := s.valve.exerciseDays } })

/-- A tank record at a restart (R83). A FAULTED tank becomes REGENERATING; a step found IN_STEP stays suspended until the
grant. -/
def TankRecord.restart (r : TankRecord) : TankRecord :=
  { r with
    service := if r.service = .faulted then .regenerating else r.service
    elapsed := r.elapsedMin * 60
    deferral := {}, urgent := .none, claim := .none, regenTag := none, changeTag := none, haltTag := none
    suspended := r.phase == some .inStep }

/-- A tank at a restart; a change from FAULTED to REGENERATING, or from running to suspended, posts TANK_STATE (R59, R83). -/
def tankRestart (t : Tank) (s : State) : State := changeTank t (s.tank t).restart s

/-- The Regeneration Sequencer at a restart (R60, R83). -/
def sequencerRestart (s : State) : State :=
  let c := s.settings.user.soft
  let s' := tankRestart .b (tankRestart .a s)
  { s' with seq := { s'.seq with
      changeover := s'.seq.changeover.map fun c => { c with dwell := 0 }
      calendar := 0, chosen := .a, timing := c.timing, windowHour := c.windowHour } }

/-- An EXHAUSTED tank is scheduled afresh at a restart: FORCED while a pending changeover waits on it, otherwise by the projection
(R67, R83; log entry 27). -/
def scheduleAfresh (t : Tank) (s : State) : State :=
  if (s.tank t).service = .exhausted then
    (if s.seq.due = some t.other then forceUrgent t s else askProjection t s)
  else s

/-- A regenerating tank claims the line again at once, as a continuation (R83, R90). -/
def continueClaim (t : Tank) (s : State) : State :=
  if (s.tank t).service = .regenerating then claimRegen t true s else s

/-- The retained open hour at a warm reset (R16). -/
def warmHour (s : State) : State := if hourMoved s then closeHour s else s

/-- The retained open hour at a cold start: closed as it stood, the counter restarted, and an unrecordable hour opened (R16,
R188). -/
def coldHour (s : State) : State :=
  openHour { placeHour s.meter.hour s with clock := {} }

/-- What every restart does after the counter is settled: every block's volatile state starts again. The manual gives the blocks' notices
no order: SUPPLY_STATE, BATTERY_LOW, FILTER_STATE, SHUTOFF_SWITCH, SHUTOFF_STATE, TANK_STATE of A and B, HISTORY_PENDING (DESIGN CHOICE,
log entry 45). -/
def restartBlocks (cold : Bool) (x : RestartInputs) (s : State) : State :=
  let emptied := { s with notices := {}, line := {}, link := {} }
  let supplied := supplyRestart x emptied
  let held := podsRestart <| leakRestart <| filterRestart <| brineRestart cold <| capacityRestart <|
    meteringRestart <| discRestart supplied
  let driven := valveRestart held
  let sequenced := sequencerRestart driven
  if sequenced.supply.state = .shutdown then shutdown sequenced
  else follow (continueClaim .b (continueClaim .a
    (scheduleAfresh .b (scheduleAfresh .a (historyRestart sequenced)))))

/-- The link's places are lost, and with them the in-flight marks of notices and history records (R17, R171, R180). -/
def loseFlights (s : State) : State :=
  { s with notices := {}, link := {}, meter := { s.meter with history := { s.meter.history with
      ring := s.meter.history.ring.map fun r => { r with inFlight := false } } } }

/-- A cold start on retained memory as it is found (R152, R190, 00_scope.md section 5). -/
def coldStart (x : RestartInputs) (s : State) : State :=
  let f := s.found x.lost
  f.since (restartBlocks true x (coldHour (loseFlights f)))

/-- A warm reset, on retained memory as it is found (R190, 00_scope.md section 5). -/
def warmReset (x : RestartInputs) (s : State) : State :=
  let f := s.found x.lost
  f.since (restartBlocks false x (warmHour (loseFlights f)))

/-- The input levels as the part last saw them; the part's own restarts come when the last group is written (log entries 32 and
35). -/
def State.restartInputs (s : State) : RestartInputs :=
  { mains := s.pins.mains, battery := BitVec.ofNat 16 s.supply.battery, openEnd := s.pins.openEnd,
    closedEnd := s.pins.closedEnd, svc := s.pins.svc }

/-- The part with blank retained memory: every retained item at its first-start value (R60, R190). -/
def State.blank (pending : List Instr) : State := { State.reset with pending := pending }

/-- A first start (R60): a cold start on blank retained memory. -/
def firstStart (x : RestartInputs) (s : State) : State := coldStart x (State.blank s.pending)

end Sys2Proof.Machine
end

