-- ==== Sys2Proof/Machine/Bodies.lean ====
section
/-! DEFINITION. The records and the reply bodies of the serial line (section 11.3, R172, R176, R177). -/

namespace Sys2Proof.Machine

/-! ### Records (section 11.3) -/

/-- A notice record, 21 bytes. -/
def noticeRecord (n : Notice) : List Byte :=
  unsignedField 1 (noticeCode n.kind) ++ unsignedField 1 (subjectCode n.subject) ++ stampField n.stamp
    ++ signedField 4 n.v1 ++ signedField 4 n.v2 ++ signedField 4 n.v3 ++ unsignedField 1 n.merges

/-- A history record, 7 bytes. -/
def historyRecord (r : HistoryRecord) : List Byte :=
  unsignedField 2 r.day ++ unsignedField 1 r.hour ++ unsignedField 2 r.litres
    ++ unsignedField 1 (hourFlagsCode r.flags) ++ unsignedField 1 r.repeats

/-- A fault record, 20 bytes. -/
def faultRecord (r : FaultRecord) : List Byte :=
  unsignedField 1 (faultCodeOf r.code) ++ unsignedField 1 (subjectCode r.subject) ++ stampField r.first
    ++ stampField r.last ++ unsignedField 1 r.count ++ markField r.active ++ signedField 4 r.detail

/-- A label in its 16 bytes. -/
def labelField (l : List Byte) : List Byte := l.take 16 ++ List.replicate (16 - l.length) 0

/-- A pod slot record, 30 bytes. -/
def podRecord (p : PodSlot) : List Byte :=
  optionField 4 (p.serial.map BitVec.toNat) ++ unsignedField 1 (slotCode p.state) ++ unsignedField 1 (slotFlagsCode p)
    ++ stampOrNone p.wetSince ++ signedField 1 p.temperature ++ unsignedField 1 p.missed ++ labelField p.label

/-! ### Bodies -/

/-- The identity (R176). -/
def identifyBody : List Byte :=
  unsignedField 2 0x4A53 ++ unsignedField 2 220 ++ unsignedField 1 1 ++ unsignedField 1 2 ++ unsignedField 1 8
    ++ unsignedField 2 512 ++ unsignedField 1 24 ++ unsignedField 1 8

/-- The notices a NOTICE_TAKE or NOTICE_PEEK carries: the oldest, up to 4 (R183). -/
def carriedNotices (s : State) : List Notice := s.notices.queue.take 4

/-- The body of NOTICE_TAKE and NOTICE_PEEK (R183). -/
def noticesBody (s : State) : List Byte :=
  unsignedField 1 (carriedNotices s).length ++ (carriedNotices s).flatMap noticeRecord

/-- The history records a HISTORY_READ carries: from the cursor onward, up to 20 (R17). -/
def carriedHistory (h : History) : List HistoryRecord := (h.ring.drop h.cursor).take 20

/-- The body of HISTORY_READ (R17). -/
def historyBody (s : State) : List Byte :=
  let h := s.meter.history
  let records := carriedHistory h
  markField h.gap ++ unsignedField 2 (h.unread - records.length) ++ unsignedField 1 records.length
    ++ records.flatMap historyRecord

/-- The body of TOTALS_READ (R8). -/
def totalsBody (s : State) : List Byte :=
  let t := s.meter.totals
  [t.inlet, t.process, t.house, t.flush, t.treatedA, t.treatedB, t.hardWater].flatMap (unsignedField 8)
    ++ unsignedField 1 s.meter.week.length
    ++ (s.meter.week ++ List.replicate (7 - s.meter.week.length) 0).flatMap (unsignedField 4)

/-- The body of POD_LIST (R166). The remaining time and the two counts of a closed window, which the manual does not state, are free
bytes (log entry 41). -/
def podListBody (s : State) : List Byte :=
  s.pods.slots.toList.flatMap podRecord ++ (match s.pods.window with
    | some w => markField true ++ unsignedField 2 w.remaining ++ unsignedField 1 w.new ++ unsignedField 1 w.again
    | none => markField false ++ [Config.closedWindowByte 0, Config.closedWindowByte 1, Config.closedWindowByte 2,
        Config.closedWindowByte 3])

/-- The body of FAULTS_READ (R187). -/
def faultsBody (s : State) : List Byte :=
  unsignedField 1 s.faults.records.length ++ s.faults.records.flatMap faultRecord

/-! ### STATUS (R177), group by group -/

/-- Clock and supply. -/
def statusSupply (s : State) : List Byte :=
  stampField s.now ++ unsignedField 1 (supplyCode s.supply.state) ++ unsignedField 2 s.supply.battery

/-- Shutoff. -/
def statusShutoff (s : State) : List Byte :=
  unsignedField 1 (valveCode s.valve.state) ++ unsignedField 1 (reasonsCode s.valve.reasons)
    ++ markField s.targetClosed ++ optionField 1 (s.valve.stuck.map stuckCode)
    ++ unsignedField 2 s.valve.exerciseDays ++ unsignedField 1 (exerciseCode s.valve.exercise)

/-- Leak. -/
def statusLeak (s : State) : List Byte :=
  let d := s.leak.detector
  let t := s.leak.latch
  unsignedField 1 (leakModeCode s.settings.user.leak.mode) ++ markField d.active.isSome
    ++ unsignedField 2 d.seconds ++ unsignedField 4 d.litres ++ unsignedField 2 d.burst ++ unsignedField 2 d.quiet
    ++ optionField 1 (t.map fun t => causeCode t.first)
    ++ unsignedField 1 (match t with | some t => causeSlot t.first | none => 255)
    ++ stampOrNone (t.map Trip.time) ++ signedField 4 (match t with | some t => t.detail | none => 0)
    ++ unsignedField 1 (match t with | some t => t.further.length | none => 0)
    ++ unsignedField 4 (match t with | some t => t.litres | none => 0)

/-- Test. -/
def statusTest (s : State) : List Byte :=
  let r := s.leak.record
  unsignedField 1 (testPhaseCode s.leak.test.phase) ++ optionField 1 (r.result.map testResultCode)
    ++ stampField r.time ++ unsignedField 2 r.p0 ++ signedField 2 r.decay ++ unsignedField 1 r.microleaks

/-- One tank. -/
def statusTank (t : Tank) (s : State) : List Byte :=
  let r := s.tank t
  unsignedField 1 (serviceCode r.service) ++ optionField 1 (r.step.map stepCode) ++ optionField 1 (r.phase.map phaseCode)
    ++ markField r.suspended ++ unsignedField 1 (deferralCode r.deferral)
    ++ unsignedField 2 (remainingPermille (s.record t))

/-- Changeover. -/
def statusChangeover (s : State) : List Byte :=
  let c := s.seq.changeover
  optionField 1 (c.map fun c => changePhaseCode c.phase) ++ optionField 1 (c.map fun c => tankCode c.outgoing)
    ++ optionField 1 (s.seq.due.map tankCode)

/-- Disc (R45). -/
def statusDisc (s : State) : List Byte :=
  let d := s.disc
  unsignedField 1 (positionCode d.position) ++ markField d.inPlace ++ [discStateCode d.state]
    ++ unsignedField 1 (discModeCode d.mode) ++ markField (s.settings.user.soft.discMode != d.mode)
    ++ optionField 1 (if d.state = .fault then d.fault.map fun f => faultCodeOf f.1 else none)
    ++ unsignedField 1 (targetCode d.target)

/-- Process line and flow. -/
def statusLine (s : State) : List Byte :=
  unsignedField 1 (ownerCode s.line.owner)
    ++ optionField 1 (s.line.regen.bind fun e => if e.granted then some (tankCode e.tank) else none)
    ++ unsignedField 1 s.line.pendingCode ++ unsignedField 2 s.meter.now.vIn ++ unsignedField 2 s.meter.now.vH

/-- Filter and pressure. -/
def statusFilter (s : State) : List Byte :=
  let f := s.filter
  unsignedField 1 (filterCode f.state) ++ unsignedField 2 f.rs ++ unsignedField 2 f.baseline
    ++ unsignedField 1 (dueCode f.due) ++ unsignedField 4 (f.volume / 1000) ++ unsignedField 2 f.days
    ++ unsignedField 4 (f.cartVolume / 1000) ++ unsignedField 1 f.cartMonths ++ markField f.cartDue
    ++ unsignedField 2 f.p1.reading ++ unsignedField 2 f.p2.reading ++ unsignedField 2 f.p3.reading
    ++ unsignedField 1 (setCode [f.p1.held, f.p2.held, f.p3.held])

/-- Salt and pods. -/
def statusSalt (s : State) : List Byte :=
  unsignedField 1 (saltCode s.brine.salt) ++ optionField 2 (forecast s) ++ unsignedField 4 s.brine.inventory
    ++ optionField 2 s.brine.height ++ unsignedField 2 s.brine.level
    ++ unsignedField 1 (slotCount .active s) ++ unsignedField 1 (slotCount .missing s)
    ++ unsignedField 1 (slotCount .lost s) ++ unsignedField 1 (slotCount .empty s)
    ++ unsignedField 1 (s.pods.slots.toList.countP fun p => p.wet && p.shutoff)

/-- The status snapshot (R177). -/
def statusBody (s : State) : List Byte :=
  statusSupply s ++ statusShutoff s ++ statusLeak s ++ statusTest s ++ statusTank .a s ++ statusTank .b s
    ++ statusChangeover s ++ statusDisc s ++ statusLine s ++ statusFilter s ++ statusSalt s

end Sys2Proof.Machine
end

