-- ==== Sys2Proof/Machine/Requests.lean ====
section
/-! DEFINITION. The requests' own checks and effects, each by its owner's rule (R8, R17, R19, R53, R56, R77 to R81, R99, R114, R119,
R130, R133, R148, R163, R165, R166, R174 to R179, R183, R187, R189). A request's effect is followed by what it brings about in
the same event. -/

namespace Sys2Proof.Machine

/-! ### Answers (R172) -/

/-- The reply statuses (R172). -/
inductive Status where
  | ok
  | clamped
  | accepted
  | busy
  | notNow
  | unknownKind
  | badLength
  | badId
  | locked
  | frameCheck
  deriving DecidableEq, Repr

/-- Status codes (R172). -/
def statusCode : Status → Byte
  | .ok => 0x00
  | .clamped => 0x01
  | .accepted => 0x02
  | .busy => 0x10
  | .notNow => 0x11
  | .unknownKind => 0x20
  | .badLength => 0x21
  | .badId => 0x22
  | .locked => 0x23
  | .frameCheck => 0x24

/-- The reasons of NOT_NOW (R172). -/
inductive NotNow where
  | badValue
  | inService
  | ready
  | faulted
  | disabled
  | notInService
  | notReady
  | ending
  | notHalted
  | halted
  | regenerating
  | changeover
  | auto
  | discFault
  | onBattery
  | notRegenerating
  | noFault
  | trip
  | shutoffClosed
  | stillWet
  | noTrip
  | notStuck
  | badSlot
  | empty
  deriving DecidableEq, Repr

/-- Reason codes (R172). -/
def reasonCode : NotNow → Byte
  | .badValue => 0x01
  | .inService => 0x02
  | .ready => 0x03
  | .faulted => 0x04
  | .disabled => 0x05
  | .notInService => 0x06
  | .notReady => 0x07
  | .ending => 0x08
  | .notHalted => 0x09
  | .halted => 0x0A
  | .regenerating => 0x0B
  | .changeover => 0x0C
  | .auto => 0x0D
  | .discFault => 0x0E
  | .onBattery => 0x0F
  | .notRegenerating => 0x10
  | .noFault => 0x11
  | .trip => 0x12
  | .shutoffClosed => 0x13
  | .stillWet => 0x14
  | .noTrip => 0x15
  | .notStuck => 0x16
  | .badSlot => 0x17
  | .empty => 0x18

/-- An owner's answer: the status with its reason, the body as the reply will carry it, and what its last byte completes. -/
structure Answered where
  status : Status
  reason : Option NotNow := none
  body : List Byte := []
  completion : Completion := .plain
  deriving DecidableEq, Repr

/-- The state after a request and its answer. -/
abbrev Taken := State × Answered

/-- A request refused with a status, nothing changed. -/
def refuse (st : Status) (s : State) : Taken := (s, { status := st })

/-- A request refused NOT_NOW, nothing changed. -/
def notNow (r : NotNow) (s : State) : Taken := (s, { status := .notNow, reason := some r })

/-- A request taken: its effect, with what follows it in the event. -/
def take (st : Status) (s : State) : Taken := (follow s, { status := st })

/-- A request taken, with a body that reads the state after it. -/
def takeWith (st : Status) (body : State → List Byte) (s : State) : Taken :=
  (follow s, { status := st, body := body (follow s) })

/-- A request that only reads. -/
def readOnly (body : State → List Byte) (s : State) : Taken := (s, { status := .ok, body := body s })

/-! ### Settings (R175, R178) -/

/-- The owner of a setting takes its new value; `changed` says that it differs from the old (R175 step 5). -/
def settingTaken (id : Nat) (changed : Bool) (s : State) : State :=
  let on (f : State → State) : State := if changed then f s else s
  match id with
  | 1 => on (vrChanged .a s.settings.inst.vrA)
  | 2 => on (vrChanged .b s.settings.inst.vrB)
  | 3 => on fun s => { s with meter := { s.meter with meters := { s.meter.meters with kInChanged := true } } }
  | 4 => on fun s => { s with meter := { s.meter with meters := { s.meter.meters with kProcChanged := true } } }
  | 5 => on probeDepthChanged
  | 8 => on sensorFittedChanged
  | 10 => on capacityClamp
  | 20 => recomputeHardness s
  | 21 => recomputeHardness s
  | 22 => recomputeHardness s
  | 35 => modeChange s
  | 40 => on filterEvaluate
  | 41 => on filterEvaluate
  | 50 => on leakModeChanged
  | 51 => leakActionTaken s
  | 69 => lowBatteryTaken s
  | 81 => on evaluateSaltMass
  | _ => s

/-- The tank a resin volume belongs to. -/
def vrTank : Nat → Option Tank
  | 1 => some .a
  | 2 => some .b
  | _ => none

/-- The reason code of a refused resin volume (R81). -/
def vrReason : VrRefusal → NotNow
  | .inService => .inService
  | .regenerating => .regenerating
  | .faulted => .faulted
  | .changeover => .changeover

/-- The owner's test of a SET (R175 step 4): a resin volume that would change may be refused (R81). -/
def setRefusal (id : Nat) (v : Int) (s : State) : Option NotNow :=
  match vrTank id with
  | some t => if s.settings.get id = v then none else (vrRefusal t s).map vrReason
  | none => none

/-- The body of GET and SET: the id and the value in force. -/
def settingBody (id : Byte) (s : State) : List Byte := [id] ++ signedField 4 (s.settings.get id.toNat)

/-- GET (R175). -/
def takeGet (id : Byte) (s : State) : Taken :=
  match settingRow id.toNat with
  | none => refuse .badId s
  | some _ => readOnly (settingBody id) s

/-- SET (R175). -/
def takeSet (id : Byte) (value : BitVec 32) (s : State) : Taken :=
  match settingRow id.toNat with
  | none => refuse .badId s
  | some row =>
    if row.installer && !s.pins.svc then refuse .locked s
    else
      let v := row.clamp value.toInt
      match setRefusal id.toNat v s with
      | some r => notNow r s
      | none =>
        let changed : Bool := s.settings.get id.toNat != v
        takeWith (if v = value.toInt then .ok else .clamped) (settingBody id) <|
          settingTaken id.toNat changed { s with settings := s.settings.put id.toNat v }

/-- The ids of the settings whose owners act on a defaults restore, installer ids only with SVCn. H_eff (20) is formed first, so that no owner
reads it from the old settings beside new ones (R178). The filter indices and low kg are not among them: a restore changes neither the filter
state (R120) nor the salt state (R102; DEDUCED, log entry 40). The manual gives the others no order (DESIGN CHOICE, log entry 5). -/
def restoredIds (svc : Bool) : List Nat :=
  [20] ++ (if svc then [1, 2, 3, 4, 5, 8, 10] else []) ++ [35, 50, 51, 69]

/-- The owners take the restored settings, the table already holding every default (R178). -/
def settingsRestored (svc : Bool) (old : Settings) (s : State) : State :=
  (restoredIds svc).foldl (fun s id => settingTaken id (old.get id != s.settings.get id) s) s

/-- The further items of a defaults restore with SVCn (R20, R167, R178). -/
def furtherItems (s : State) : State :=
  { emptyRoster (resetLearning .b (resetLearning .a s)) with faults := {} }

/-- DEFAULTS_RESTORE (R178): the table, then the owners, then the further items (log entry 5). -/
def takeDefaults (s : State) : Taken :=
  let svc := s.pins.svc
  let table : Settings := if svc then {} else { s.settings with user := {} }
  let restored := settingsRestored svc s.settings { s with settings := table }
  takeWith .ok (fun _ => markField svc) (if svc then furtherItems restored else restored)

/-! ### The clock (R16, R107, R189) -/

/-- The counter set, with the blocks that follow it (R16, R107, R189). -/
def setClock (day second : Nat) (s : State) : State :=
  let old := s.now
  let s1 := { s with clock := { day := day, second := second, unset := false } }
  let s2 := shiftRefillEnd old s1.now s1
  if hourMoved s2 then
    let h := s2.meter.hour
    closeHour { s2 with meter := { s2.meter with hour := { h with flags := { h.flags with clockSet := true } } } }
  else s2

/-- CLOCK_SET (R173, R189). -/
def takeClock (day : BitVec 16) (second : BitVec 32) (s : State) : Taken :=
  if 86399 < second.toNat then notNow .badValue s
  else takeWith .ok (fun s => stampField s.now) (setClock day.toNat second.toNat s)

/-! ### Notices, history, totals, faults (R8, R17, R19, R183, R187) -/

/-- NOTICE_TAKE marks the notices it carries in flight (R183). -/
def takeNotices (s : State) : Taken :=
  let q := s.notices.queue
  let marked := (q.take 4).map fun n => { n with inFlight := true }
  ({ s with notices := { s.notices with queue := marked ++ q.drop 4 } },
    { status := .ok, body := noticesBody s, completion := .noticeTake })

/-- HISTORY_READ marks the records it carries in flight (R17). -/
def takeHistory (s : State) : Taken :=
  let h := s.meter.history
  let n := (carriedHistory h).length
  let marked := (carriedHistory h).map fun r => { r with inFlight := true }
  ({ s with meter := { s.meter with history := { h with
      ring := h.ring.take h.cursor ++ marked ++ h.ring.drop (h.cursor + n) } } },
    { status := .ok, body := historyBody s, completion := .historyRead n h.gap })

/-- HISTORY_CLEAR (R19). -/
def takeHistoryClear (s : State) : Taken :=
  take .ok { s with meter := { s.meter with history := {} } }

/-- TOTALS_CLEAR (R8). -/
def takeTotalsClear (s : State) : Taken := take .ok { s with meter := { s.meter with totals := {} } }

/-- FAULTS_CLEAR (R187). -/
def takeFaultsClear (s : State) : Taken := take .ok { s with faults := {} }

/-! ### Tank commands (R77 to R80) -/

/-- TANK_CMD REGEN (R77). -/
def takeRegen (tag : Byte) (t : Tank) (s : State) : Taken :=
  match (s.tank t).service with
  | .exhausted =>
    if (s.tank t).regenTag.isSome then refuse .busy s
    else take .accepted (s.withTank t { s.tank t with regenTag := some tag, urgent := .forced })
  | .inService => notNow .inService s
  | .ready => notNow .ready s
  | .regenerating => refuse .busy s
  | .faulted => notNow .faulted s
  | .disabled => notNow .disabled s

/-- TANK_CMD CHANGEOVER (R78). -/
def takeChangeover (tag : Byte) (t : Tank) (s : State) : Taken :=
  if s.seq.changeover.isSome ∨ s.seq.due.isSome then refuse .busy s
  else if (s.tank t).service ≠ .inService then notNow .notInService s
  else if (s.tank t.other).service ≠ .ready then notNow .notReady s
  else
    let s1 := s.withTank t { s.tank t with changeTag := some tag }
    take .accepted (changeoverBegin { s1 with seq := { s1.seq with due := some t } })

/-- A HALT whose outcome is known at once (R79). -/
def haltDone (tag : Byte) (t : Tank) (r : TankRecord) (s : State) : Taken :=
  take .accepted (requestDone (.tank t) tag kindTankCmd .done 0 (changeTank t r s))

/-- TANK_CMD HALT, by the rows of the table. R79 gives them no order where two apply, and the first one is taken: a FAULTED tank with its halt
request set is answered BUSY (DESIGN CHOICE, log entry 42). -/
def takeHalt (tag : Byte) (t : Tank) (s : State) : Taken :=
  let r := s.tank t
  if r.service = .exhausted ∧ r.halt = false then haltDone tag t { r with halt := true } s
  else if r.service = .regenerating ∧ (r.phase = some .toStep ∨ r.phase = some .inStep) ∧ r.halt = false then
    take .accepted (s.withTank t { r with halt := true, haltTag := some tag })
  else if r.service = .regenerating ∧ r.phase = some .stepEnded then
    haltDone tag t { r with halt := true, phase := some .halted } s
  else if r.service = .regenerating ∧ r.phase = some .toReady then notNow .ending s
  else if r.halt = true ∨ r.phase = some .halted then refuse .busy s
  else if r.service = .faulted then notNow .faulted s
  else notNow .notRegenerating s

/-- TANK_CMD RESUME (R79). -/
def takeResume (t : Tank) (s : State) : Taken :=
  let r := s.tank t
  if r.phase = some .halted then take .ok (changeTank t { r with halt := false, phase := some .stepEnded } s)
  else if r.halt then
    take .ok (requestDoneIf (.tank t) r.haltTag kindTankCmd .cancelled 0
      (s.withTank t { r with halt := false, haltTag := none }))
  else notNow .notHalted s

/-- TANK_CMD SKIP (R80). -/
def takeSkip (t : Tank) (s : State) : Taken :=
  let r := s.tank t
  match r.service with
  | .regenerating =>
    match r.phase with
    | some .inStep => take .accepted (skipStep t s)
    | some .halted => notNow .halted s
    | _ => refuse .busy s
  | .faulted => notNow .faulted s
  | _ => notNow .notRegenerating s

/-- TANK_CMD with its raw fields: tank 0 or 1, action REGEN 0 to SKIP 4 (R173, R77 to R80). -/
def takeTankCmd (tag tank action : Byte) (s : State) : Taken :=
  let on (t : Tank) : Taken :=
    match action.toNat with
    | 0 => takeRegen tag t s
    | 1 => takeChangeover tag t s
    | 2 => takeHalt tag t s
    | 3 => takeResume t s
    | 4 => takeSkip t s
    | _ => notNow .badValue s
  match tank.toNat with
  | 0 => on .a
  | 1 => on .b
  | _ => notNow .badValue s

/-! ### The disc (R53, R56, R57) -/

/-- DISC_STEP (R56). -/
def takeDiscStep (tag : Byte) (s : State) : Taken :=
  let d := s.disc
  if d.state = .observing then refuse .busy s
  else if d.mode = .auto then notNow .auto s
  else if d.driven then refuse .busy s
  else if d.state = .fault then notNow .discFault s
  else if s.supply.state ≠ .mains then notNow .onBattery s
  else match d.position with
    | some p => take .accepted { s with disc :=
        ({ d with target := some (.pos (p + 1)), requester := some (.discStep tag) } : Disc).start }
    | none => take .accepted { s with disc :=
        ({ d with target := some .next, requester := some (.discStep tag) } : Disc).start }

/-- DISC_RETRY (R53). -/
def takeDiscRetry (tag : Byte) (s : State) : Taken :=
  if s.disc.state = .observing then refuse .busy s
  else if s.disc.state ≠ .fault then notNow .noFault s
  else if s.supply.state ≠ .mains then notNow .onBattery s
  else take .accepted (retryMove tag s)

/-! ### The filter and the cartridge (R114, R119) -/

/-- FLUSH_CMD (R114). -/
def takeFlushCmd (tag : Byte) (s : State) : Taken :=
  if s.filter.state = .flushing then refuse .busy s
  else if s.filter.tag.isSome then refuse .busy s
  else take .accepted { s with filter := { s.filter with tag := some tag, due := { s.filter.due with host := true } } }

/-- CARTRIDGE_FITTED (R119). -/
def takeCartridge (s : State) : Taken := take .ok (cartridgeFittedEffect s)

/-! ### The shutoff valve (R148) -/

/-- An accepted SHUTOFF_CMD records its tag; one held before is answered CANCELLED (R148). -/
def recordTag (tag : Byte) (s : State) : State :=
  let s' := requestDoneIf .none s.valve.tag kindShutoffCmd .cancelled 0 s
  { s' with valve := { s'.valve with tag := some tag } }

/-- The close-reason set as a reply's body (R148). -/
def reasonsBody (s : State) : List Byte := unsignedField 1 (reasonsCode s.valve.reasons)

/-- SHUTOFF_CMD CLOSE (R148). -/
def takeClose (tag : Byte) (s : State) : Taken :=
  takeWith .ok reasonsBody (answerTag (addReason .host (recordTag tag s)))

/-- SHUTOFF_CMD OPEN (R148). -/
def takeOpen (tag : Byte) (s : State) : Taken :=
  takeWith .ok reasonsBody (answerTag (removeReason .host (recordTag tag s)))

/-- SHUTOFF_CMD RETRY (R147, R148). -/
def takeRetry (tag : Byte) (s : State) : Taken :=
  if s.valve.state = .stuck then take .accepted (retryValve (recordTag tag s)) else notNow .notStuck s

/-- SHUTOFF_CMD with its raw action: CLOSE 0, OPEN 1, RETRY 2 (R148, R173). -/
def takeShutoff (tag action : Byte) (s : State) : Taken :=
  match action.toNat with
  | 0 => takeClose tag s
  | 1 => takeOpen tag s
  | 2 => takeRetry tag s
  | _ => notNow .badValue s

/-! ### The leak monitor (R130, R133) -/

/-- Seconds from a trip to now, 0 when the trip time lies ahead (R130). -/
def sinceTrip (t : Trip) (s : State) : Nat := s.now - t.time

/-- What an accepted LEAK_RESET does, in the order of R130. -/
def resetLatch (keepClosed : Bool) (t : Trip) (s : State) : State :=
  let s1 := if keepClosed then addReason .host s else s
  let s2 := post .leakCleared .none (causeCode t.first * 256 + causeSlot t.first : Nat) (1 + t.further.length : Nat)
    (sinceTrip t s) s1
  let s3 := removeReason .trip { s2 with leak := { s2.leak with latch := none } }
  { s3 with leak := { s3.leak with detector := {} } }

/-- LEAK_RESET with its raw option: NONE 0, KEEP_CLOSED 1 (R130, R173). -/
def takeLeakReset (option : Byte) (s : State) : Taken :=
  if 1 < option.toNat then notNow .badValue s
  else if anyWetGuarded s then notNow .stillWet s
  else match s.leak.latch with
    | none => notNow .noTrip s
    | some t => take .ok (resetLatch (option.toNat == 1) t s)

/-- PRESSURE_TEST (R133). -/
def takePressureTest (tag : Byte) (s : State) : Taken :=
  if s.leak.test.phase ≠ .idle then refuse .busy s
  else if s.leak.latch.isSome then notNow .trip s
  else if s.supply.state ≠ .mains then notNow .onBattery s
  else if s.valve.state ≠ .opened then notNow .shutoffClosed s
  else take .accepted (testClaim (some tag) s)

/-! ### Salt (R99) -/

/-- SALT_FILLED (R99). -/
def takeSaltFilled (grams : BitVec 32) (s : State) : Taken :=
  takeWith .ok (fun s => unsignedField 4 s.brine.inventory) (saltFilledEffect grams s)

/-! ### Pods (R163, R165, R166) -/

/-- The duration of POD_ENROL brought into 30 to 300 (R163). -/
def enrolDuration (d : Nat) : Nat := max 30 (min 300 d)

/-- POD_ENROL (R163). -/
def takePodEnrol (tag : Byte) (duration : BitVec 16) (s : State) : Taken :=
  if s.pods.window.isSome then refuse .busy s
  else takeWith .accepted (fun _ => unsignedField 2 (enrolDuration duration.toNat)) { s with pods := { s.pods with
    window := some { tag := tag, remaining := enrolDuration duration.toNat } } }

/-- A slot number of a request, none above 7 (R165, R166). -/
def slotNumber (b : Byte) : Option (Fin 8) := if h : b.toNat < 8 then some ⟨b.toNat, h⟩ else none

/-- POD_REMOVE (R165). -/
def takePodRemove (slot : Byte) (s : State) : Taken :=
  match slotNumber slot with
  | none => notNow .badSlot s
  | some n =>
    if (s.slot n).state = .empty then notNow .empty s
    else take .ok (emptySlot n (faultGone .podLost (.slot n) s))

/-- What an accepted POD_LABEL does: a flag newly set on a wet pod is reported as becoming wet (R166). -/
def labelSlot (n : Fin 8) (shutoff : Bool) (label : List Byte) (s : State) : State :=
  let old := s.slot n
  let s1 := s.withSlot n { old with shutoff := shutoff, label := label }
  if shutoff && !old.shutoff && (old.state == .active || old.state == .missing) && old.wet then podWet n s1 else s1

/-- POD_LABEL (R166, R173). -/
def takePodLabel (slot flag : Byte) (label : List Byte) (s : State) : Taken :=
  match slotNumber slot with
  | none => notNow .badSlot s
  | some n =>
    if 1 < flag.toNat ∨ label.contains 0 = true then notNow .badValue s
    else if (s.slot n).state = .empty then notNow .empty s
    else take .ok (labelSlot n (flag.toNat == 1) label s)

/-! ### Dispatch to the owners (R174) -/

/-- A request that has passed the first two tests of dispatch is taken by its owner (R172, R174). -/
def takeRequest (tag : Byte) (s : State) : Request → Taken
  | .identify => readOnly (fun _ => identifyBody) s
  | .status => readOnly statusBody s
  | .get id => takeGet id s
  | .set id v => takeSet id v s
  | .clockSet d t => takeClock d t s
  | .noticeTake => takeNotices s
  | .noticePeek => readOnly noticesBody s
  | .historyRead => takeHistory s
  | .historyClear => takeHistoryClear s
  | .totalsRead => readOnly totalsBody s
  | .totalsClear => takeTotalsClear s
  | .tankCmd tank action => takeTankCmd tag tank action s
  | .discStep => takeDiscStep tag s
  | .discRetry => takeDiscRetry tag s
  | .flushCmd => takeFlushCmd tag s
  | .shutoffCmd action => takeShutoff tag action s
  | .leakReset o => takeLeakReset o s
  | .pressureTest => takePressureTest tag s
  | .saltFilled g => takeSaltFilled g s
  | .cartridgeFitted => takeCartridge s
  | .podEnrol d => takePodEnrol tag d s
  | .podRemove n => takePodRemove n s
  | .podList => readOnly podListBody s
  | .podLabel n f l => takePodLabel n f l s
  | .faultsRead => readOnly faultsBody s
  | .faultsClear => takeFaultsClear s
  | .defaultsRestore => takeDefaults s
  | .reset => (s, { status := .ok, completion := .reset })

end Sys2Proof.Machine
end

