-- ==== Sys2Proof/Machine/Link.lean ====
section
/-! DEFINITION. The Link Interface (11_serial_link_and_settings.md, R168 to R174, R179): a complete frame placed, checked, dispatched
and answered, and the completion of a reply. -/

namespace Sys2Proof.Machine

/-! ### Replies (R172) -/

/-- The flags byte of a reply header, as the marks stand (R172). -/
def headerFlags (s : State) : List Byte :=
  unsignedField 1 (setCode [s.link.overrun, s.clock.unset, s.pins.svc, s.notices.lost, s.faults.overflow])

/-- The reason byte, present only with NOT_NOW (R172). -/
def reasonField (a : Answered) : List Byte :=
  match a.status, a.reason with
  | .notNow, some r => [reasonCode r]
  | _, _ => []

/-- Whether a reply of a status carries a body (R172). -/
def Status.carriesBody : Status → Bool
  | .ok => true
  | .clamped => true
  | .accepted => true
  | _ => false

/-- The payload of a reply built in state `s` (R172). -/
def replyPayload (a : Answered) (s : State) : List Byte :=
  [statusCode a.status] ++ unsignedField 1 s.notices.queue.length ++ headerFlags s ++ reasonField a
    ++ (if a.status.carriesBody then a.body else [])

/-- The kind of REJECT. -/
def rejectKind : Byte := 0xFF

/-- The kind of the reply to a frame that passed its check (R172). -/
def replyKind (kind : Byte) : Byte := if 0x80 ≤ kind.toNat then rejectKind else kind + 0x80

/-- A reply built, a frame like the request's (R168), which `Frame.wire` puts on the line: OVERRUN (R172) and LOST (R182) are reported
in it and cleared. -/
def buildReply (f : Frame) (kind : Byte) (t : Taken) : State :=
  let s := t.1
  let a := t.2
  { s with
    link := { s.link with
      overrun := false
      handling := some { frame := f, reply := goodFrame kind f.tag (replyPayload a s), completion := a.completion } }
    notices := { s.notices with lost := false } }

/-! ### Dispatch (R170 to R172) -/

/-- A frame that passed its check is dispatched (R172). -/
def dispatch (f : Frame) (s : State) : Taken :=
  match parseRequest f.kind f.payload with
  | .unknownKind => refuse .unknownKind s
  | .badLength => refuse .badLength s
  | .request r => takeRequest f.tag s r

/-- A frame becomes the request being handled: it is checked, dispatched and answered in one event (R170, R171). -/
def handleFrame (f : Frame) (s : State) : State :=
  if f.checked then buildReply f (replyKind f.kind) (dispatch f s)
  else buildReply f rejectKind (refuse .frameCheck s)

/-- A frame completes and is placed; the receiver returns to hunting (R169, R171). -/
def receive (f : Frame) (s : State) : State :=
  let s' := { s with link := { s.link with inFrame := false } }
  match s.link.handling, s.link.held with
  | none, _ => handleFrame f s'
  | some _, none => { s' with link := { s'.link with held := some f } }
  | some _, some _ => { s' with link := { s'.link with overrun := true } }

/-- A frame of the fields given is received; one whose length byte would leave 2–250 is discarded (R169). -/
def deliver (f : Frame) (s : State) : State :=
  if f.payload.length ≤ 248 then receive f s else { s with link := { s.link with inFrame := false } }

/-! ### The receiver (R169) -/

/-- A 0x7E starts a frame while the receiver hunts; within a frame it is data. -/
def frameBegins (s : State) : State := { s with link := { s.link with inFrame := true } }

/-- The frame under way is discarded and the receiver hunts. -/
def frameDropped (s : State) : State := { s with link := { s.link with inFrame := false } }

/-- A length byte outside 2–250. -/
def lengthBad (n : Byte) : Bool := decide (n.toNat < 2) || decide (250 < n.toNat)

/-! ### Completion (R17, R171, R179, R183) -/

/-- The notices a completed NOTICE_TAKE carried, still queued and still in flight, are removed (R183). -/
def noticesTaken (s : State) : State :=
  { s with notices := { s.notices with queue := s.notices.queue.filter fun n => !n.inFlight } }

/-- The number of records up to and including the last one in flight, 0 when none is. -/
def lastInFlight (ring : List HistoryRecord) : Nat :=
  ring.length - (ring.reverse.takeWhile fun r => !r.inFlight).length

/-- The history after a completed HISTORY_READ of `n` records that reported GAP as `gap` (R17, R18). -/
def History.readDone (h : History) (n : Nat) (gap : Bool) : History :=
  History.rearm { h with
    cursor := if n = 0 then h.cursor else lastInFlight h.ring
    ring := h.ring.map fun r => { r with inFlight := false }
    gap := h.gap && !gap }

/-- A HISTORY_READ completes (R17). -/
def historyTaken (n : Nat) (gap : Bool) (s : State) : State :=
  { s with meter := { s.meter with history := s.meter.history.readDone n gap } }

/-- The request being handled becomes empty, and a held frame is then handled (R171). -/
def nextRequest (s : State) : State :=
  let s' := { s with link := { s.link with handling := none, held := none } }
  match s.link.held with
  | some f => handleFrame f s'
  | none => s'

/-- The last byte of the reply in progress has been transmitted (R171, R179). A RESET's warm reset empties both places. -/
def replyDone (s : State) : State :=
  match s.link.handling with
  | none => s
  | some h =>
    match h.completion with
    | .plain => nextRequest s
    | .noticeTake => nextRequest (noticesTaken s)
    | .historyRead n gap => nextRequest (historyTaken n gap s)
    | .reset => warmReset s.restartInputs s

end Sys2Proof.Machine
end

