-- ==== Sys2Proof/Machine/Commands.lean ====
section
/-! DEFINITION. The frame of every command's meaning: a command has no effect while the part is stopped in SHUTDOWN (R152, log entry
20), and an event is followed by what it brings about in the same event (log entry 5). -/

namespace Sys2Proof.Machine

/-- The outcome of a command that leaves `t` of `s`: the retained items it changed are one group (R190). -/
def commit (s t : State) : Host.Outcome State Fault Refusal := .next (s.since t)

/-- The outcome of a command whose effect is `f`: none while the part is stopped (R152). -/
def whenOn (f : State → State) (s : State) : Host.Outcome State Fault Refusal :=
  if s.stopped then .next s else commit s (f s)

/-- The outcome of an event of the part: its effect, and what follows every event. -/
def event (f : State → State) (s : State) : Host.Outcome State Fault Refusal := whenOn (fun s => follow (f s)) s

/-- The outcome of a command of the serial line at which the service jumper stands at `svc` (R172, R175, R178). -/
def lineEvent (svc : Bool) (f : State → State) (s : State) : Host.Outcome State Fault Refusal :=
  whenOn (fun s => f (s.withSvc svc)) s

/-- The outcome of a request frame with a good check (R171). -/
def request (svc : Bool) (r : Request) (tag : Byte) (s : State) : Host.Outcome State Fault Refusal :=
  lineEvent svc (deliver (r.frame tag)) s

end Sys2Proof.Machine
end

