-- ==== Sys2Proof/Machine/DiscCommands.lean ====
section
/-! DEFINITION. The meanings of the disc's and the sequencer's events (R43, R48, R50, R58, R62, R63, R68, R69, R73, R74, R92). -/

namespace Sys2Proof.Machine

/-- IN_PLACE_SET (R43): the code is the one read. -/
def execInPlaceSet (code : BitVec 4) (s : State) : Host.Outcome State Fault Refusal := event (inPlaceSet code) s

/-- IN_PLACE_CLEAR (R43). -/
def execInPlaceClear (s : State) : Host.Outcome State Fault Refusal := event inPlaceClear s

/-- DISC_TIMEOUT (R48). -/
def execDiscTimeout (s : State) : Host.Outcome State Fault Refusal := event discTimeout s

/-- DISC_STALL (R50). -/
def execDiscStall (s : State) : Host.Outcome State Fault Refusal := event discStall s

/-- DISC_RESTART_OBSERVATION (R57, R58): whether the centre track was lit, and the code read. -/
def execDiscRestartObservation (lit : Bool) (code : BitVec 4) (s : State) : Host.Outcome State Fault Refusal :=
  event (discObserved lit code) s

/-- CHANGEOVER_BEGIN (R62). -/
def execChangeoverBegin (s : State) : Host.Outcome State Fault Refusal := event changeoverBegin s

/-- DWELL_END (R63). -/
def execDwellEnd (s : State) : Host.Outcome State Fault Refusal := event dwellEnd s

/-- CALENDAR_FALLBACK (R68). -/
def execCalendarFallback (s : State) : Host.Outcome State Fault Refusal := event calendarFallback s

/-- REGEN_CLAIM (R69). -/
def execRegenClaim (s : State) : Host.Outcome State Fault Refusal :=
  event (fun s => regenClaim .b (regenClaim .a s)) s

/-- STEP_END (R73). -/
def execStepEnd (s : State) : Host.Outcome State Fault Refusal := event (fun s => stepEnd .b (stepEnd .a s)) s

/-- BRINE_1200 (R73, R95). -/
def execBrine1200 (s : State) : Host.Outcome State Fault Refusal := event (fun s => brine1200 .b (brine1200 .a s)) s

/-- SEQUENCER_MOVE_REQUEST (R62, R63, R70, R74). -/
def execSequencerMoveRequest (s : State) : Host.Outcome State Fault Refusal := event waitingMoves s

/-- POST_REGEN_READING (R92): the distance that the reading gives. -/
def execPostRegenReading (distance : Int) (s : State) : Host.Outcome State Fault Refusal := event (postReading distance) s

end Sys2Proof.Machine
end

