-- ==== Sys2Proof/Machine/LineCommands.lean ====
section
/-! DEFINITION. The meanings of what crosses the serial line: frames (R169 to R172) and replies (R171). -/

namespace Sys2Proof.Machine

/-- FRAME_RECEIVED (R171): the bytes after the sync byte, through the last CRC byte. -/
def execFrameReceived (bytes : List Byte) (s : State) (svc : Bool := false) : Host.Outcome State Fault Refusal :=
  lineEvent svc (fun s => match frameOfBytes bytes with | some f => receive f s | none => frameDropped s) s

/-- FRAME_TIMEOUT (R169). -/
def execFrameTimeout (s : State) : Host.Outcome State Fault Refusal := whenOn frameDropped s

/-- FRAME_BAD_LENGTH (R169): the length byte received. -/
def execFrameBadLength (length : Byte) (s : State) : Host.Outcome State Fault Refusal :=
  whenOn (fun s => if lengthBad length then frameDropped s else s) s

/-- FRAME_REJECT (R170): a complete frame with the CRC it carries. -/
def execFrameReject (kind tag : Byte) (payload : List Byte) (crc : BitVec 16) (s : State) (svc : Bool := false) :
    Host.Outcome State Fault Refusal :=
  lineEvent svc (deliver { kind := kind, tag := tag, payload := payload, crc := crc }) s

/-- UNKNOWN_KIND (R172): a frame with a good check. -/
def execUnknownKind (kind tag : Byte) (payload : List Byte) (s : State) (svc : Bool := false) : Host.Outcome State Fault Refusal :=
  lineEvent svc (deliver (goodFrame kind tag payload)) s

/-- BAD_LENGTH (R172): a frame with a good check. -/
def execBadLength (kind tag : Byte) (payload : List Byte) (s : State) (svc : Bool := false) : Host.Outcome State Fault Refusal :=
  lineEvent svc (deliver (goodFrame kind tag payload)) s

/-- REPLY_COMPLETE (R171); the held frame is dispatched at it. -/
def execReplyComplete (s : State) (svc : Bool := false) : Host.Outcome State Fault Refusal := lineEvent svc replyDone s

/-- FRAME_START (R169). -/
def execFrameStart (s : State) : Host.Outcome State Fault Refusal := whenOn frameBegins s

end Sys2Proof.Machine
end

