-- ==== Sys2Proof/Machine/MonitorCommands.lean ====
section
/-! DEFINITION. The meanings of the filter's, the detector's and the pressure-hold test's events (R110, R112, R113, R116, R122 to R124,
R132 to R136). -/

namespace Sys2Proof.Machine

/-- BASELINE_SET (R110). -/
def execBaselineSet (s : State) : Host.Outcome State Fault Refusal := event baselineSet s

/-- FLUSH_VOLUME_REACHED (R112). -/
def execFlushVolumeReached (s : State) : Host.Outcome State Fault Refusal := event flushVolumeReached s

/-- FLUSH_CLAIM (R113). -/
def execFlushClaim (s : State) : Host.Outcome State Fault Refusal := event flushClaim s

/-- FLUSH_END (R116). -/
def execFlushEnd (s : State) : Host.Outcome State Fault Refusal := event flushEnd s

/-- EVENT_BEGIN (R122). -/
def execEventBegin (s : State) : Host.Outcome State Fault Refusal := event (fun s => eventBegin s.meter.cond.lossActive s) s

/-- EVENT_END (R123). -/
def execEventEnd (s : State) : Host.Outcome State Fault Refusal := event eventEnd s

/-- FLOW_TRIP (R124). -/
def execFlowTrip (s : State) : Host.Outcome State Fault Refusal := event (fun s => flowTrip s.meter.cond.lossActive s) s

/-- TEST_DUE (R132). -/
def execTestDue (s : State) : Host.Outcome State Fault Refusal := event testDue s

/-- CLAIM_WAIT_EXPIRY (R134). -/
def execClaimWaitExpiry (s : State) : Host.Outcome State Fault Refusal := event claimWaitExpiry s

/-- TEST_SETTLE (R135). -/
def execTestSettle (s : State) : Host.Outcome State Fault Refusal := event testSettle s

/-- HOLD_BEGIN (R135). -/
def execHoldBegin (s : State) : Host.Outcome State Fault Refusal := event holdBegin s

/-- HOLD_END (R136). -/
def execHoldEnd (s : State) : Host.Outcome State Fault Refusal := event holdEnd s

end Sys2Proof.Machine
end

