-- ==== Sys2Proof/Machine/PodCommands.lean ====
section
/-! DEFINITION. The meanings of the pod loop's events (R156 to R164). -/

namespace Sys2Proof.Machine

/-- POLL (R157). -/
def execPoll (s : State) : Host.Outcome State Fault Refusal := whenOn pollSend s

/-- POLL_ANSWER (R156, R159): the fields of the answer, and whether its check sum is good. -/
def execPollAnswer (slot seq : Byte) (wet batteryLow tamper : Bool) (temperature : Int) (sumGood : Bool) (s : State) :
    Host.Outcome State Fault Refusal :=
  event (takeAnswer slot seq { wet := wet, batteryLow := batteryLow, tamper := tamper, temperature := temperature } sumGood) s

/-- POLL_ANSWER_MISSED (R156, R160). -/
def execPollAnswerMissed (s : State) : Host.Outcome State Fault Refusal := event answerMissed s

/-- POD_MISSING (R160). -/
def execPodMissing (slot : Fin 8) (s : State) : Host.Outcome State Fault Refusal := event (podMissing slot) s

/-- POD_LOST (R160). -/
def execPodLost (slot : Fin 8) (s : State) : Host.Outcome State Fault Refusal := event (podLost slot) s

/-- ENROL_CALL (R164). -/
def execEnrolCall (s : State) : Host.Outcome State Fault Refusal := whenOn enrolCall s

/-- ENROL_ANSWER (R156, R164): the serial, whether the check sum is good, and the milliseconds from the ENROL_CALL to the end of the
answer. -/
def execEnrolAnswer (serial : BitVec 32) (sumGood : Bool) (s : State) (delayMs : Nat := 0) : Host.Outcome State Fault Refusal :=
  whenOn (enrolAnswer serial sumGood delayMs) s

/-- ENROL_WINDOW_CLOSE (R163). -/
def execEnrolWindowClose (s : State) : Host.Outcome State Fault Refusal := whenOn enrolWindowClose s

end Sys2Proof.Machine
end

