-- ==== Sys2Proof/Machine/RequestCommands.lean ====
section
/-! DEFINITION. The meanings of the requests: each row is the arrival of that request's frame with a good check (R168, R171), so that it
is handled at once, held, or discarded with OVERRUN. What a request does when it is handled is in Requests.lean. -/

namespace Sys2Proof.Machine

/-- IDENTIFY (R176). -/
def execIdentify (tag : Byte) (s : State) (svc : Bool := false) : Host.Outcome State Fault Refusal :=
  request svc .identify tag s

/-- STATUS (R177). -/
def execStatus (tag : Byte) (s : State) (svc : Bool := false) : Host.Outcome State Fault Refusal :=
  request svc .status tag s

/-- GET (R175). -/
def execGet (tag id : Byte) (s : State) (svc : Bool := false) : Host.Outcome State Fault Refusal :=
  request svc (.get id) tag s

/-- SET (R175). -/
def execSet (tag id : Byte) (value : BitVec 32) (s : State) (svc : Bool := false) : Host.Outcome State Fault Refusal :=
  request svc (.set id value) tag s

/-- CLOCK_SET (R189). -/
def execClockSet (tag : Byte) (day : BitVec 16) (second : BitVec 32) (s : State) (svc : Bool := false) : Host.Outcome State Fault Refusal :=
  request svc (.clockSet day second) tag s

/-- NOTICE_TAKE (R183). -/
def execNoticeTake (tag : Byte) (s : State) (svc : Bool := false) : Host.Outcome State Fault Refusal :=
  request svc .noticeTake tag s

/-- NOTICE_PEEK (R183). -/
def execNoticePeek (tag : Byte) (s : State) (svc : Bool := false) : Host.Outcome State Fault Refusal :=
  request svc .noticePeek tag s

/-- HISTORY_READ (R17). -/
def execHistoryRead (tag : Byte) (s : State) (svc : Bool := false) : Host.Outcome State Fault Refusal :=
  request svc .historyRead tag s

/-- HISTORY_CLEAR (R19). -/
def execHistoryClear (tag : Byte) (s : State) (svc : Bool := false) : Host.Outcome State Fault Refusal :=
  request svc .historyClear tag s

/-- TOTALS_READ (R8). -/
def execTotalsRead (tag : Byte) (s : State) (svc : Bool := false) : Host.Outcome State Fault Refusal :=
  request svc .totalsRead tag s

/-- TOTALS_CLEAR (R8). -/
def execTotalsClear (tag : Byte) (s : State) (svc : Bool := false) : Host.Outcome State Fault Refusal :=
  request svc .totalsClear tag s

/-- TANK_CMD with the action REGEN (R77). -/
def execTankCmdRegen (tag tank : Byte) (s : State) (svc : Bool := false) : Host.Outcome State Fault Refusal :=
  request svc (.tankCmd tank 0) tag s

/-- TANK_CMD with the action CHANGEOVER (R78). -/
def execTankCmdChangeover (tag tank : Byte) (s : State) (svc : Bool := false) : Host.Outcome State Fault Refusal :=
  request svc (.tankCmd tank 1) tag s

/-- TANK_CMD with the action HALT (R79). -/
def execTankCmdHalt (tag tank : Byte) (s : State) (svc : Bool := false) : Host.Outcome State Fault Refusal :=
  request svc (.tankCmd tank 2) tag s

/-- TANK_CMD with the action RESUME (R79). -/
def execTankCmdResume (tag tank : Byte) (s : State) (svc : Bool := false) : Host.Outcome State Fault Refusal :=
  request svc (.tankCmd tank 3) tag s

/-- TANK_CMD with the action SKIP (R80). -/
def execTankCmdSkip (tag tank : Byte) (s : State) (svc : Bool := false) : Host.Outcome State Fault Refusal :=
  request svc (.tankCmd tank 4) tag s

/-- DISC_STEP (R56). -/
def execDiscStep (tag : Byte) (s : State) (svc : Bool := false) : Host.Outcome State Fault Refusal :=
  request svc .discStep tag s

/-- DISC_RETRY (R53). -/
def execDiscRetry (tag : Byte) (s : State) (svc : Bool := false) : Host.Outcome State Fault Refusal :=
  request svc .discRetry tag s

/-- FLUSH_CMD (R114). -/
def execFlushCmd (tag : Byte) (s : State) (svc : Bool := false) : Host.Outcome State Fault Refusal :=
  request svc .flushCmd tag s

/-- SHUTOFF_CMD with the action CLOSE (R148). -/
def execShutoffCmdClose (tag : Byte) (s : State) (svc : Bool := false) : Host.Outcome State Fault Refusal :=
  request svc (.shutoffCmd 0) tag s

/-- SHUTOFF_CMD with the action OPEN (R148). -/
def execShutoffCmdOpen (tag : Byte) (s : State) (svc : Bool := false) : Host.Outcome State Fault Refusal :=
  request svc (.shutoffCmd 1) tag s

/-- SHUTOFF_CMD with the action RETRY (R147, R148). -/
def execShutoffCmdRetry (tag : Byte) (s : State) (svc : Bool := false) : Host.Outcome State Fault Refusal :=
  request svc (.shutoffCmd 2) tag s

/-- LEAK_RESET (R130). -/
def execLeakReset (tag option : Byte) (s : State) (svc : Bool := false) : Host.Outcome State Fault Refusal :=
  request svc (.leakReset option) tag s

/-- PRESSURE_TEST (R133). -/
def execPressureTest (tag : Byte) (s : State) (svc : Bool := false) : Host.Outcome State Fault Refusal :=
  request svc .pressureTest tag s

/-- SALT_FILLED (R99). -/
def execSaltFilled (tag : Byte) (grams : BitVec 32) (s : State) (svc : Bool := false) : Host.Outcome State Fault Refusal :=
  request svc (.saltFilled grams) tag s

/-- CARTRIDGE_FITTED (R119). -/
def execCartridgeFitted (tag : Byte) (s : State) (svc : Bool := false) : Host.Outcome State Fault Refusal :=
  request svc .cartridgeFitted tag s

/-- POD_ENROL (R163). -/
def execPodEnrol (tag : Byte) (duration : BitVec 16) (s : State) (svc : Bool := false) : Host.Outcome State Fault Refusal :=
  request svc (.podEnrol duration) tag s

/-- POD_REMOVE (R165). -/
def execPodRemove (tag slot : Byte) (s : State) (svc : Bool := false) : Host.Outcome State Fault Refusal :=
  request svc (.podRemove slot) tag s

/-- POD_LIST (R166). -/
def execPodList (tag : Byte) (s : State) (svc : Bool := false) : Host.Outcome State Fault Refusal :=
  request svc .podList tag s

/-- POD_LABEL (R166). -/
def execPodLabel (tag slot flag : Byte) (label : List Byte) (s : State) (svc : Bool := false) : Host.Outcome State Fault Refusal :=
  request svc (.podLabel slot flag label) tag s

/-- FAULTS_READ (R187). -/
def execFaultsRead (tag : Byte) (s : State) (svc : Bool := false) : Host.Outcome State Fault Refusal :=
  request svc .faultsRead tag s

/-- FAULTS_CLEAR (R187). -/
def execFaultsClear (tag : Byte) (s : State) (svc : Bool := false) : Host.Outcome State Fault Refusal :=
  request svc .faultsClear tag s

/-- DEFAULTS_RESTORE (R178). -/
def execDefaultsRestore (tag : Byte) (s : State) (svc : Bool := false) : Host.Outcome State Fault Refusal :=
  request svc .defaultsRestore tag s

/-- RESET (R179). -/
def execReset (tag : Byte) (s : State) (svc : Bool := false) : Host.Outcome State Fault Refusal :=
  request svc .reset tag s

end Sys2Proof.Machine
end

