-- ==== Sys2Proof/Machine/RestartCommands.lean ====
section
/-! DEFINITION. The meanings of the restarts (00_scope.md section 5, R60, R152, R188). They alone act while the part is stopped,
but for WARM_RESET: a stopped part stays stopped until mains returns (R152). -/

namespace Sys2Proof.Machine

/-- COLD_START (R152): power arrives, retained memory kept. -/
def execColdStart (x : RestartInputs) (s : State) : Host.Outcome State Fault Refusal := .next (coldStart x s)

/-- FIRST_START (R60): power arrives on blank retained memory. -/
def execFirstStart (x : RestartInputs) (s : State) : Host.Outcome State Fault Refusal := .next (firstStart x s)

/-- WARM_RESET (R188): RESETn is asserted. -/
def execWarmReset (x : RestartInputs) (s : State) : Host.Outcome State Fault Refusal :=
  .next (if s.stopped then s else warmReset x s)

end Sys2Proof.Machine
end

