-- ==== Sys2Proof/Machine/SecondCommands.lean ====
section
/-! DEFINITION. The meanings of the metering second and of what comes due within it in the Metering Unit and the Capacity Unit (R2,
R9, R10, R13, R14, R35). METERING_SECOND does the whole second; each of the others acts only while its condition stands (log entries
3 and 4). -/

namespace Sys2Proof.Machine

/-- METERING_SECOND (R2). -/
def execMeteringSecond (x : SecondInputs) (s : State) : Host.Outcome State Fault Refusal := whenOn (runSecond x) s

/-- METER_LOSS_BEGIN (R9). -/
def execMeterLossBegin (s : State) : Host.Outcome State Fault Refusal := event meterLossBegin s

/-- METER_LOSS_END (R9). -/
def execMeterLossEnd (s : State) : Host.Outcome State Fault Refusal := event meterLossEnd s

/-- PROCESS_FLOW_UNOWNED_BEGIN (R10). -/
def execProcessFlowUnownedBegin (s : State) : Host.Outcome State Fault Refusal := event unownedBegin s

/-- PROCESS_FLOW_UNOWNED_END (R10). -/
def execProcessFlowUnownedEnd (s : State) : Host.Outcome State Fault Refusal := event unownedEnd s

/-- MIDNIGHT (R13). -/
def execMidnight (s : State) : Host.Outcome State Fault Refusal := event midnight s

/-- HOUR_CLOSE (R14). -/
def execHourClose (s : State) : Host.Outcome State Fault Refusal := event hourClose s

/-- FRONT_DETECTED (R35). -/
def execFrontDetected (t : Tank) (s : State) : Host.Outcome State Fault Refusal := event (frontDetected t) s

end Sys2Proof.Machine
end

