-- ==== Sys2Proof/Machine/ValveCommands.lean ====
section
/-! DEFINITION. The meanings of the shutoff valve's and the supply's events (R143 to R146, R149 to R152), with what each says of the
input pins (log entry 21). -/

namespace Sys2Proof.Machine

/-! ### The end switches (R143, R146) -/

/-- The end switch of an end is made: that of the drive's direction is the arrival of a travel (R143), and a CLOSE_RUN is no travel (R150);
at any other time, with the other switch made, it is SHUTOFF_SWITCH (R146). The ball has left the other end by its arrival, so that end's
switch is open: a switch that stays made through a travel comes as SHUTOFF_SWITCH (DESIGN CHOICE, log entry 21). -/
def endSwitchMade (e : ValveEnd) (s : State) : State :=
  if s.pins.switch e then s
  else
    let s1 := { s with pins := s.pins.withSwitch e true }
    if driveEnd s.valve.drive = some e ∧ s.valve.exercise ≠ .closeRun then
      openedDecision s (valveArrive e { s1 with pins := s1.pins.withSwitch (otherEnd e) false })
    else if s1.pins.bothMade then switchFault s1
    else s1

/-- The OPEN_END release of a CLOSE_RUN is noted (R150). -/
def runReleased (s : State) : State :=
  if s.valve.exercise = .closeRun then
    { s with pins := s.pins.withSwitch .openEnd false, valve := { s.valve with released := true } }
  else s

/-- An end switch has been released: of a resting valve at that end, the other switch open, for one second, it begins a travel to the
target (R146); of OPEN_END in a CLOSE_RUN it is the run's own (R150); in a travel it is the level's alone (log entry 21). -/
def endSwitchReleased (e : ValveEnd) (s : State) : State :=
  if e = .openEnd ∧ s.valve.exercise = .closeRun then runReleased s
  else
    let s1 := { s with pins := s.pins.withSwitch e false }
    if s.valve.state = restState e ∧ s1.pins.switch (otherEnd e) = false then beginTravel s1 else s1

/-- Both end switches are made at once (R146). -/
def bothSwitchesMade (s : State) : State :=
  if s.pins.bothMade then s else switchFault { s with pins := { s.pins with openEnd := true, closedEnd := true } }

/-! ### Failures of an attempt (R144) -/

/-- The travel time of a driven travel reaches the limit (R144). -/
def travelLimitReached (s : State) : State :=
  if s.valve.drive = .stopped ∨ s.valve.exercise = .closeRun then s
  else attemptFails false { s with valve := { s.valve with travel := s.settings.inst.travelLimit } }

/-- The overcurrent time of a driven travel reaches 500 ms (R144). A stall that ends a CLOSE_RUN comes as CLOSE_RUN_END. -/
def valveStalled (s : State) : State :=
  if s.valve.drive = .stopped ∨ s.valve.exercise = .closeRun then s
  else attemptFails true { s with valve := { s.valve with overcurrent := 500 } }

/-! ### Mains (R151, R152) -/

/-- Mains is lost (R151). -/
def mainsLoss (s : State) : State :=
  let s1 := { s with pins := { s.pins with mains := false } }
  if s.supply.state = .mains then supplyChange (stateOnLoss s.supply) s1 else s1

/-- Mains returns to a running part (R151). -/
def mainsReturn (s : State) : State := supplyChange .mains { s with pins := { s.pins with mains := true } }

/-! ### The meanings -/

/-- END_SWITCH_ARRIVAL (R143). -/
def execEndSwitchArrival (e : ValveEnd) (s : State) : Host.Outcome State Fault Refusal := event (endSwitchMade e) s

/-- VALVE_TRAVEL_LIMIT (R144). -/
def execValveTravelLimit (s : State) : Host.Outcome State Fault Refusal := event travelLimitReached s

/-- VALVE_OVERCURRENT (R144). -/
def execValveOvercurrent (s : State) : Host.Outcome State Fault Refusal := event valveStalled s

/-- VALVE_PAUSE_END (R144, R145, R150). -/
def execValvePauseEnd (s : State) : Host.Outcome State Fault Refusal := event pauseEnd s

/-- SHUTOFF_SWITCH (R146). -/
def execShutoffSwitch (s : State) : Host.Outcome State Fault Refusal := event bothSwitchesMade s

/-- END_SWITCH_RELEASE (R146). -/
def execEndSwitchRelease (e : ValveEnd) (s : State) : Host.Outcome State Fault Refusal := event (endSwitchReleased e) s

/-- EXERCISE_CUE (R149). -/
def execExerciseCue (s : State) : Host.Outcome State Fault Refusal := event exerciseCue s

/-- EXERCISE_START (R149, R150). -/
def execExerciseStart (s : State) : Host.Outcome State Fault Refusal := event exerciseStart s

/-- EXERCISE_ARMED_EXPIRY (R149). -/
def execExerciseArmedExpiry (s : State) : Host.Outcome State Fault Refusal := event armedExpiry s

/-- CLOSE_RUN_END (R150): the drive time of the run in milliseconds. -/
def execCloseRunEnd (driveMs : Nat) (s : State) : Host.Outcome State Fault Refusal := event (closeRunEnd driveMs) s

/-- OPEN_END_RELEASE_IN_RUN (R150). -/
def execOpenEndReleaseInRun (s : State) : Host.Outcome State Fault Refusal := event runReleased s

/-- MAINS_LOST (R151). -/
def execMainsLost (s : State) : Host.Outcome State Fault Refusal := event mainsLoss s

/-- MAINS_RETURNED (R151); a part stopped in SHUTDOWN restarts with a cold start, its inputs as they stand (R152). -/
def execMainsReturned (s : State) : Host.Outcome State Fault Refusal :=
  if s.stopped then .next (coldStart { s.restartInputs with mains := true } s) else event mainsReturn s

/-- VOLTAGE_STEADY (R151). -/
def execVoltageSteady (s : State) : Host.Outcome State Fault Refusal := event voltageSteady s

end Sys2Proof.Machine
end

