-- ==== Sys2Proof/Machine/Dispatch.lean ====
section
/-! DEFINITION. The command table: each command's meaning, in the order of spec/opcode_table.json. -/

namespace Sys2Proof.Machine

def exec (i : Instr) (s : State) : Host.Outcome State Fault Refusal :=
  match i with
  | .coldStart x => Sys2Proof.Machine.execColdStart x s
  | .firstStart x => Sys2Proof.Machine.execFirstStart x s
  | .warmReset x => Sys2Proof.Machine.execWarmReset x s
  | .meteringSecond x => Sys2Proof.Machine.execMeteringSecond x s
  | .meterLossBegin => Sys2Proof.Machine.execMeterLossBegin s
  | .meterLossEnd => Sys2Proof.Machine.execMeterLossEnd s
  | .processFlowUnownedBegin => Sys2Proof.Machine.execProcessFlowUnownedBegin s
  | .processFlowUnownedEnd => Sys2Proof.Machine.execProcessFlowUnownedEnd s
  | .midnight => Sys2Proof.Machine.execMidnight s
  | .hourClose => Sys2Proof.Machine.execHourClose s
  | .frontDetected t => Sys2Proof.Machine.execFrontDetected t s
  | .inPlaceSet code => Sys2Proof.Machine.execInPlaceSet code s
  | .inPlaceClear => Sys2Proof.Machine.execInPlaceClear s
  | .discTimeout => Sys2Proof.Machine.execDiscTimeout s
  | .discStall => Sys2Proof.Machine.execDiscStall s
  | .discRestartObservation lit code => Sys2Proof.Machine.execDiscRestartObservation lit code s
  | .changeoverBegin => Sys2Proof.Machine.execChangeoverBegin s
  | .dwellEnd => Sys2Proof.Machine.execDwellEnd s
  | .calendarFallback => Sys2Proof.Machine.execCalendarFallback s
  | .regenClaim => Sys2Proof.Machine.execRegenClaim s
  | .stepEnd => Sys2Proof.Machine.execStepEnd s
  | .brine1200 => Sys2Proof.Machine.execBrine1200 s
  | .sequencerMoveRequest => Sys2Proof.Machine.execSequencerMoveRequest s
  | .postRegenReading distance => Sys2Proof.Machine.execPostRegenReading distance s
  | .baselineSet => Sys2Proof.Machine.execBaselineSet s
  | .flushVolumeReached => Sys2Proof.Machine.execFlushVolumeReached s
  | .flushClaim => Sys2Proof.Machine.execFlushClaim s
  | .flushEnd => Sys2Proof.Machine.execFlushEnd s
  | .eventBegin => Sys2Proof.Machine.execEventBegin s
  | .eventEnd => Sys2Proof.Machine.execEventEnd s
  | .flowTrip => Sys2Proof.Machine.execFlowTrip s
  | .testDue => Sys2Proof.Machine.execTestDue s
  | .claimWaitExpiry => Sys2Proof.Machine.execClaimWaitExpiry s
  | .testSettle => Sys2Proof.Machine.execTestSettle s
  | .holdBegin => Sys2Proof.Machine.execHoldBegin s
  | .holdEnd => Sys2Proof.Machine.execHoldEnd s
  | .endSwitchArrival e => Sys2Proof.Machine.execEndSwitchArrival e s
  | .valveTravelLimit => Sys2Proof.Machine.execValveTravelLimit s
  | .valveOvercurrent => Sys2Proof.Machine.execValveOvercurrent s
  | .valvePauseEnd => Sys2Proof.Machine.execValvePauseEnd s
  | .shutoffSwitch => Sys2Proof.Machine.execShutoffSwitch s
  | .endSwitchRelease e => Sys2Proof.Machine.execEndSwitchRelease e s
  | .exerciseCue => Sys2Proof.Machine.execExerciseCue s
  | .exerciseStart => Sys2Proof.Machine.execExerciseStart s
  | .exerciseArmedExpiry => Sys2Proof.Machine.execExerciseArmedExpiry s
  | .closeRunEnd driveMs => Sys2Proof.Machine.execCloseRunEnd driveMs s
  | .mainsLost => Sys2Proof.Machine.execMainsLost s
  | .mainsReturned => Sys2Proof.Machine.execMainsReturned s
  | .voltageSteady => Sys2Proof.Machine.execVoltageSteady s
  | .poll => Sys2Proof.Machine.execPoll s
  | .pollAnswer slot seq wet batteryLow tamper temperature sumGood => Sys2Proof.Machine.execPollAnswer slot seq wet batteryLow tamper temperature sumGood s
  | .pollAnswerMissed => Sys2Proof.Machine.execPollAnswerMissed s
  | .podMissing slot => Sys2Proof.Machine.execPodMissing slot s
  | .podLost slot => Sys2Proof.Machine.execPodLost slot s
  | .enrolCall => Sys2Proof.Machine.execEnrolCall s
  | .enrolAnswer serial sumGood delayMs => Sys2Proof.Machine.execEnrolAnswer serial sumGood s delayMs
  | .enrolWindowClose => Sys2Proof.Machine.execEnrolWindowClose s
  | .frameReceived bytes svc => Sys2Proof.Machine.execFrameReceived bytes s svc
  | .frameTimeout => Sys2Proof.Machine.execFrameTimeout s
  | .frameBadLength length => Sys2Proof.Machine.execFrameBadLength length s
  | .frameReject kind tag payload crc svc => Sys2Proof.Machine.execFrameReject kind tag payload crc s svc
  | .unknownKind kind tag payload svc => Sys2Proof.Machine.execUnknownKind kind tag payload s svc
  | .badLength kind tag payload svc => Sys2Proof.Machine.execBadLength kind tag payload s svc
  | .replyComplete svc => Sys2Proof.Machine.execReplyComplete s svc
  | .identify tag svc => Sys2Proof.Machine.execIdentify tag s svc
  | .status tag svc => Sys2Proof.Machine.execStatus tag s svc
  | .get tag id svc => Sys2Proof.Machine.execGet tag id s svc
  | .set tag id value svc => Sys2Proof.Machine.execSet tag id value s svc
  | .clockSet tag day second svc => Sys2Proof.Machine.execClockSet tag day second s svc
  | .noticeTake tag svc => Sys2Proof.Machine.execNoticeTake tag s svc
  | .noticePeek tag svc => Sys2Proof.Machine.execNoticePeek tag s svc
  | .historyRead tag svc => Sys2Proof.Machine.execHistoryRead tag s svc
  | .historyClear tag svc => Sys2Proof.Machine.execHistoryClear tag s svc
  | .totalsRead tag svc => Sys2Proof.Machine.execTotalsRead tag s svc
  | .totalsClear tag svc => Sys2Proof.Machine.execTotalsClear tag s svc
  | .tankCmdRegen tag tank svc => Sys2Proof.Machine.execTankCmdRegen tag tank s svc
  | .tankCmdChangeover tag tank svc => Sys2Proof.Machine.execTankCmdChangeover tag tank s svc
  | .tankCmdHalt tag tank svc => Sys2Proof.Machine.execTankCmdHalt tag tank s svc
  | .tankCmdResume tag tank svc => Sys2Proof.Machine.execTankCmdResume tag tank s svc
  | .tankCmdSkip tag tank svc => Sys2Proof.Machine.execTankCmdSkip tag tank s svc
  | .discStep tag svc => Sys2Proof.Machine.execDiscStep tag s svc
  | .discRetry tag svc => Sys2Proof.Machine.execDiscRetry tag s svc
  | .flushCmd tag svc => Sys2Proof.Machine.execFlushCmd tag s svc
  | .shutoffCmdClose tag svc => Sys2Proof.Machine.execShutoffCmdClose tag s svc
  | .shutoffCmdOpen tag svc => Sys2Proof.Machine.execShutoffCmdOpen tag s svc
  | .shutoffCmdRetry tag svc => Sys2Proof.Machine.execShutoffCmdRetry tag s svc
  | .leakReset tag option svc => Sys2Proof.Machine.execLeakReset tag option s svc
  | .pressureTest tag svc => Sys2Proof.Machine.execPressureTest tag s svc
  | .saltFilled tag grams svc => Sys2Proof.Machine.execSaltFilled tag grams s svc
  | .cartridgeFitted tag svc => Sys2Proof.Machine.execCartridgeFitted tag s svc
  | .podEnrol tag duration svc => Sys2Proof.Machine.execPodEnrol tag duration s svc
  | .podRemove tag slot svc => Sys2Proof.Machine.execPodRemove tag slot s svc
  | .podList tag svc => Sys2Proof.Machine.execPodList tag s svc
  | .podLabel tag slot flag label svc => Sys2Proof.Machine.execPodLabel tag slot flag label s svc
  | .faultsRead tag svc => Sys2Proof.Machine.execFaultsRead tag s svc
  | .faultsClear tag svc => Sys2Proof.Machine.execFaultsClear tag s svc
  | .defaultsRestore tag svc => Sys2Proof.Machine.execDefaultsRestore tag s svc
  | .reset tag svc => Sys2Proof.Machine.execReset tag s svc
  | .frameStart => Sys2Proof.Machine.execFrameStart s
  | .openEndReleaseInRun => Sys2Proof.Machine.execOpenEndReleaseInRun s

end Sys2Proof.Machine
end

