-- ==== Sys2Proof/Safety.lean ====
section
/-! DEFINITION. What the manual promises of every state the part reaches: one owner of the process line (R84), the bounds of the queues and
logs (R181, R186, R15), one state notice for each kind and subject (R181), one record for each fault (R186), the range of the capacity
records (R28, R29, R35), one slot for each serial (R158) and a motor stopped at rest (R141). Then the words the statements use. -/

namespace Sys2Proof.Machine

/-- At most one entry of the claim table is granted (section 5.1). -/
def Line.oneOwner (l : Line) : Bool :=
  !(l.regenGranted && l.flushGranted) && !(l.regenGranted && l.testGranted) && !(l.flushGranted && l.testGranted)

/-- Two queued notices that the queue keeps apart: not state notices of one kind and subject (R181). -/
def Notice.apart (m n : Notice) : Bool := !(isStateKind m.kind && m.kind == n.kind && m.subject == n.subject)

/-- The notice queue holds at most 24 notices and never two state notices of the same kind and subject (R181). -/
def NoticeQueue.wf (q : NoticeQueue) : Prop :=
  q.queue.length ≤ 24 ∧ q.queue.Pairwise fun m n => m.apart n = true

/-- The Fault Log holds at most 8 records, one for each code and subject (R185, R186). -/
def FaultLog.wf (l : FaultLog) : Prop :=
  l.records.length ≤ 8 ∧ l.records.Pairwise fun a b => ¬(a.code = b.code ∧ a.subject = b.subject)

/-- The usage history holds at most 512 records and its cursor stands within them or past the newest (section 1.7). -/
def History.wf (h : History) : Prop := h.ring.length ≤ 512 ∧ h.cursor ≤ h.ring.length

/-- A capacity record within its range: at least −10,000,000 mg remain, and at most what was credited (R28, R29, R35). -/
def CapacityRecord.wf (r : CapacityRecord) : Prop := -10000000 ≤ r.remaining ∧ r.remaining ≤ (r.credited : Int)

/-- A roster: an EMPTY slot is one without a serial, and no two slots hold the same serial (R158). -/
def rosterWf (slots : Vector PodSlot 8) : Prop :=
  (∀ n : Fin 8, (slots.get n).state = .empty ↔ (slots.get n).serial = none)
  ∧ ∀ n m : Fin 8, n ≠ m → (slots.get n).serial ≠ none → (slots.get n).serial ≠ (slots.get m).serial

/-- What `P` says holds of the retained items, and of those that retained memory holds when the last group is lost (R190). -/
def State.Keeps (P : Retained → Prop) (s : State) : Prop := P s.kept ∧ ∀ m, s.before = some m → P m

/-- The bounds of the notice queue, the Fault Log and the usage history together. -/
def State.Bounded (s : State) : Prop := s.notices.wf ∧ s.Keeps fun m => m.faults.wf ∧ m.history.wf

/-- Both capacity records are within their range. -/
def State.CapacityBounded (s : State) : Prop := s.Keeps fun m => ∀ k : Tank, (m.recs.get k).wf

/-- The roster holds each pod once. -/
def State.RosterDistinct (s : State) : Prop := s.Keeps fun m => rosterWf m.slots

/-- A valve at rest or STUCK has its motor stopped (R141). -/
def Valve.wf (v : Valve) : Prop :=
  v.state = .opened ∨ v.state = .closed ∨ v.state = .stuck → v.drive = .stopped

/-! ### Words of the statements -/

/-- The part runs, and no request is being handled: a frame that completes is handled at once (R171). -/
def State.free (s : State) : Prop := s.stopped = false ∧ s.link.handling = none

/-- The outcome of a request frame handled at once in `s`: the owner's answer `a`, the state `u` after its effect, and the reply built
from them with the kind of the request plus 0x80 (R172). -/
def answers (r : Request) (tag : Byte) (s u : State) (a : Answered) : Host.Outcome State Fault Refusal :=
  commit s (buildReply (r.frame tag) (r.kind + 0x80) (u, a))

/-- An answer NOT_NOW with its reason (R172). -/
def declined (n : NotNow) : Answered := { status := .notNow, reason := some n }

/-- The notice that `k` and its values make stands in the queue of `t`, stamped with the time of `s`, when the queue of `s` had room for
what one event posts (R181). -/
def Told (k : NoticeKind) (v1 v2 v3 : Int) (s t : State) : Prop :=
  s.notices.queue.length < 16 → ∃ n ∈ t.notices.queue,
    n.kind = k ∧ n.subject = .none ∧ n.stamp = s.now ∧ n.v1 = v1 ∧ n.v2 = v2 ∧ n.v3 = v3

/-- The bytes of an item stand in a body from a place on (section 11.3). -/
def Holds (body : List Byte) (place : Nat) (item : List Byte) : Prop := (body.drop place).take item.length = item

/-- The days of a forecast as a SALT_REMINDER carries them, −1 for the unknown mark (R103). -/
def forecastDays : Option Nat → Int
  | some d => d
  | none => -1

/-- A move of the disc has stopped with a fault: `d` is the record before the fault entered it. The fault is recorded, the target and
the requester are held, and a regeneration whose move it was becomes FAULTED, unless a changeover is under way (R52, R65, R76). -/
structure DiscStopped (c : FaultCode) (detail : Int) (d : Disc) (s u : State) : Prop where
  disc : u.disc = { d with state := .fault, fault := some (c, detail), retryTag := none, retriedFault := none }
  log : u.faults = s.faults.report c .none detail s.now
  tanks : ∀ k, u.tank k =
    if d.requester = some .sequencer ∧ s.seq.changeover = none ∧ (s.tank k).service = .regenerating then
      { s.tank k with service := .faulted }
    else s.tank k
  others : u = { s with
    disc := u.disc, seq := { s.seq with tanks := u.seq.tanks }, faults := u.faults, notices := u.notices }

/-- A move that the sequencer asked for is about to arrive at `p`: the motor is driven toward `p` from the position before it, in AUTO, with
no DISC_RETRY held, and `code` is the one that names `p` (R46, R47, R49). -/
structure Arriving (code : BitVec 4) (p : Pos) (s : State) : Prop where
  named : codePosition code = some p
  outOfPlace : s.disc.inPlace = false
  driven : s.disc.driven = true
  target : s.disc.target = some (.pos p)
  position : s.disc.position = some (p - 1)
  requester : s.disc.requester = some .sequencer
  noRetry : s.disc.retryTag = none ∧ s.disc.retriedFault = none
  auto : s.disc.mode = .auto ∧ s.settings.user.soft.discMode = .auto

/-- The positioner record after the arrival that `Arriving` names. -/
def Disc.arrived (d : Disc) (code : BitVec 4) (p : Pos) : Disc :=
  { d with inPlace := true, code := code, legTime := 0, position := some p, state := .atPosition, target := none, requester := none }

/-- The positioner record when the sequencer's move to `p` starts (R46). -/
def Disc.moveTo (d : Disc) (p : Pos) : Disc :=
  ({ d with target := some (.pos p), requester := some .sequencer } : Disc).start

/-- The request, the level of the service jumper and the tag of a command that is a request. -/
def requestOf : Instr → Option (Request × Bool × Byte)
  | .identify tag svc => some (.identify, svc, tag)
  | .status tag svc => some (.status, svc, tag)
  | .get tag id svc => some (.get id, svc, tag)
  | .set tag id v svc => some (.set id v, svc, tag)
  | .clockSet tag d t svc => some (.clockSet d t, svc, tag)
  | .noticeTake tag svc => some (.noticeTake, svc, tag)
  | .noticePeek tag svc => some (.noticePeek, svc, tag)
  | .historyRead tag svc => some (.historyRead, svc, tag)
  | .historyClear tag svc => some (.historyClear, svc, tag)
  | .totalsRead tag svc => some (.totalsRead, svc, tag)
  | .totalsClear tag svc => some (.totalsClear, svc, tag)
  | .tankCmdRegen tag t svc => some (.tankCmd t 0, svc, tag)
  | .tankCmdChangeover tag t svc => some (.tankCmd t 1, svc, tag)
  | .tankCmdHalt tag t svc => some (.tankCmd t 2, svc, tag)
  | .tankCmdResume tag t svc => some (.tankCmd t 3, svc, tag)
  | .tankCmdSkip tag t svc => some (.tankCmd t 4, svc, tag)
  | .discStep tag svc => some (.discStep, svc, tag)
  | .discRetry tag svc => some (.discRetry, svc, tag)
  | .flushCmd tag svc => some (.flushCmd, svc, tag)
  | .shutoffCmdClose tag svc => some (.shutoffCmd 0, svc, tag)
  | .shutoffCmdOpen tag svc => some (.shutoffCmd 1, svc, tag)
  | .shutoffCmdRetry tag svc => some (.shutoffCmd 2, svc, tag)
  | .leakReset tag o svc => some (.leakReset o, svc, tag)
  | .pressureTest tag svc => some (.pressureTest, svc, tag)
  | .saltFilled tag g svc => some (.saltFilled g, svc, tag)
  | .cartridgeFitted tag svc => some (.cartridgeFitted, svc, tag)
  | .podEnrol tag d svc => some (.podEnrol d, svc, tag)
  | .podRemove tag n svc => some (.podRemove n, svc, tag)
  | .podList tag svc => some (.podList, svc, tag)
  | .podLabel tag n f l svc => some (.podLabel n f l, svc, tag)
  | .faultsRead tag svc => some (.faultsRead, svc, tag)
  | .faultsClear tag svc => some (.faultsClear, svc, tag)
  | .defaultsRestore tag svc => some (.defaultsRestore, svc, tag)
  | .reset tag svc => some (.reset, svc, tag)
  | _ => none

/-- A label that a request can carry (section 11.3). -/
def Request.wf : Request → Prop
  | .podLabel _ _ l => l.length ≤ 16
  | _ => True

/-- The byte that names a tank in a request (R173). -/
def tankByte : Tank → Byte
  | .a => 0
  | .b => 1

/-- The conditions that every restart reports gone, their tests starting afresh (R12, R20, R91, R108, R151, R154; R57 for the disc). -/
def goneAtRestart : FaultCode → Subject → Bool
  | .meterLoss, .none => true
  | .processFlowUnowned, .none => true
  | .valvePassing, .none => true
  | .shutoffStuck, .none => true
  | .shutoffSwitch, .none => true
  | .discStall, .none => true
  | .discCode, .none => true
  | .discMissed, .none => true
  | .discTimeout, .none => true
  | .levelSensor, .none => true
  | .saltSensor, .none => true
  | .batteryLow, .none => true
  | .pressureSensor, .sensor _ => true
  | .bedProbe, .tank _ => true
  | _, _ => false

/-- What a restart keeps of the state `s` in which it finds the part, and what it starts afresh, whatever the counter does (00_scope.md
section 5; R20, R57, R83, R90, R107, R120, R131, R142, R154, R155, R167, R185). -/
structure Restarted (cold : Bool) (x : RestartInputs) (s t : State) : Prop where
  settings : t.settings = s.settings
  totals : t.meter.totals = s.meter.totals
  week : t.meter.week = s.meter.week
  openDay : t.meter.openDay = s.meter.openDay
  figures : t.meter.now = {} ∧ t.meter.meters = {} ∧ t.meter.cond = {}
  capacity : t.cap = { recs := s.cap.recs, hEff := effectiveHardness s.settings.user.soft }
  disc : t.disc = { mode := s.settings.user.soft.discMode }
  tanks : ∀ k : Tank, t.tank k = { s.tank k with
    service := if (s.tank k).service = .faulted then .regenerating else (s.tank k).service
    elapsed := (s.tank k).elapsedMin * 60
    suspended := (s.tank k).phase == some .inStep
    regenTag := none, changeTag := none, haltTag := none
    deferral := (t.tank k).deferral, urgent := (t.tank k).urgent, claim := (t.tank k).claim }
  sequencer : t.seq = {
    tanks := t.seq.tanks, changeover := s.seq.changeover.map (fun c => { c with dwell := 0 }), due := s.seq.due
    calendar := 0, chosen := .a, timing := s.settings.user.soft.timing, windowHour := s.settings.user.soft.windowHour }
  claims : t.line.test = none ∧ (∀ e, t.line.regen = some e → e.continuation = true ∧ (t.tank e.tank).service = .regenerating)
    ∧ (t.line.flush ≠ none → s.filter.due.blocked = true)
  brine : t.brine = { s.brine with
    refillEnd := if cold then 0 else s.brine.refillEnd, levelFault := false, saltFault := false, postDue := none
    postTried := false, restartLevel := true, restartReading := true, filledReading := false }
  filter : t.filter = { s.filter with
    p1 := {}, p2 := {}, p3 := {}, quiet := 0, tag := none, baselineDue := false, flowHold := 0
    due := { s.filter.due with host := false }
    state := t.filter.state, flush := t.filter.flush, solenoid := t.filter.solenoid }
  filterState : t.line.flushGranted = false → t.filter.solenoid = false ∧ t.filter.flush = {} ∧ t.filter.state =
    if s.filter.state = .flushing then evaluatedState s.filter s.settings.user.filter else s.filter.state
  leak : t.leak = { latch := s.leak.latch, record := s.leak.record }
  reasons : t.valve.reasons = {
    trip := s.leak.latch.isSome && s.settings.user.leak.action == .close, host := s.valve.reasons.host, test := false
    lowBattery := t.supply.state == .batteryLow && s.settings.user.leak.lowBatteryAction == .close }
  valve : t.valve = {
    state := t.valve.state, reasons := t.valve.reasons, drive := t.valve.drive, stuck := t.valve.stuck
    exerciseDays := s.valve.exerciseDays }
  place : t.valve.state =
    if x.openEnd && x.closedEnd then .stuck
    else if t.valve.reasons.any then (if x.closedEnd then .closed else .closing)
    else (if x.openEnd then .opened else .opening)
  supply : t.supply.state = (if x.mains then .mains else if x.battery.toNat < 10500 then .shutdown
    else if x.battery.toNat < 11400 then .batteryLow else .battery)
  battery : t.supply.battery = x.battery.toNat
  pods : t.pods = { slots := s.pods.slots.map fun p => { p with missed := 0, candidate := none } }
  link : t.link = {}
  faults : t.supply.state ≠ .batteryLow → (x.openEnd && x.closedEnd) = false → t.faults = { s.faults with
    records := s.faults.records.map fun r => if goneAtRestart r.code r.subject then { r with active := false } else r }
  pending : t.pending = s.pending

end Sys2Proof.Machine
end

