-- ==== Sys2Proof/Certificates/Slice0/Obligations.lean ====
section
/-! DEFINITION. The statements for the provers. An event's answer is `commit s (follow u)`, a next state: `u` is the state after the command's
own effect, `follow` applies the standing rules of the sequencer and the Filter Monitor to it (R69, R72, R74, R113), and `commit s` notes
what retained memory held before (R190). A record update says what changes and that all else stays. A request's command carries the level
`svc` of the service jumper, which `withSvc` notes. -/

section Statements

open Sys2Proof Sys2Proof.Machine

/-! ### The machine -/

/-- A step runs the command at the front of the queue on the state with the rest of the queue, and an empty queue idles (log entry 2). -/
def Obligations.StepRunsTheFrontOfTheQueue : Prop :=
  (∀ (c : Instr) (rest : List Instr) (s : State), step { s with pending := c :: rest } = exec c { s with pending := rest })
  ∧ ∀ s : State, s.pending = [] → step s = .next s

/-- The model's choice (log entries 2 and 4): every command answers a next state in every state, and leaves the queue of commands, which is
the model's own, alone. -/
def Obligations.EveryCommandCompletes : Prop :=
  ∀ (c : Instr) (s : State), ∃ t, exec c s = .next t ∧ t.pending = s.pending

/-- A part stopped in SHUTDOWN takes no command but the arrival of power and the return of mains, which starts it cold (R152). The model's
choice: the return of mains finds the end switches, the jumper and the voltage as the part last saw them (log entry 35), and a warm reset of
a stopped part has no effect (log entry 20). -/
def Obligations.StoppedUntilMainsReturns : Prop :=
  ∀ (c : Instr) (s : State), s.stopped = true → exec c s =
    match c with
    | .coldStart x => .next (coldStart x s)
    | .firstStart x => .next (firstStart x s)
    | .mainsReturned => .next (coldStart
        { mains := true, battery := BitVec.ofNat 16 s.supply.battery, openEnd := s.pins.openEnd,
          closedEnd := s.pins.closedEnd, svc := s.pins.svc } s)
    | _ => .next s

/-- What follows an event touches neither the settings, the counter, the Metering Unit, the supply, the pods, the link, the Fault Log, the
trip latch nor the detector; and nothing follows where no tank waits for a regeneration or is in one, and no flush is due (R69, R72, R74,
R113). -/
def Obligations.WhatFollowsAnEvent : Prop :=
  (∀ s : State, let t := follow s
    t.settings = s.settings ∧ t.clock = s.clock ∧ t.meter = s.meter ∧ t.supply = s.supply ∧ t.pods = s.pods ∧ t.link = s.link
    ∧ t.faults = s.faults ∧ t.leak.latch = s.leak.latch ∧ t.leak.detector = s.leak.detector ∧ t.pending = s.pending)
  ∧ ∀ s : State, (∀ k, (s.tank k).service ≠ .exhausted ∧ (s.tank k).service ≠ .regenerating ∧ (s.tank k).phase ≠ some .inStep
      ∧ (s.tank k).suspended = false) → s.filter.due = {} → follow s = s

/-! ### Restarts (00_scope.md section 5) -/

/-- A cold start restarts the counter at day 0 with CLOCK_UNSET, and a warm reset keeps it (R188). Both keep the settings, totals, week,
open day, capacity (R20), tank, changeover, brine, salt, filter, trip, test, roster and Fault Log records, but for the items `Restarted`
names, and start the rest afresh. The open hour goes on only in a warm reset within it (R16). With the last group of retained writes lost,
the restart finds every retained item as it stood before the last command that changed one, and after a restart no group is left to be lost
but its own (R190). The model's choices: what a group is (log entry 32); in `Restarted`, that tank A is chosen (log entry 22), that the disc
is UNKNOWN with in-place clear while it is observed (log entry 10), and the suspended mark (log entries 17 and 23). -/
def Obligations.RestartsKeepWhatIsRetained : Prop :=
  (∀ (x : RestartInputs) (s : State),
    let f := s.found x.lost
    let h := f.meter.history
    let kept (t : State) : Prop := t.meter.history.ring = h.ring.map (fun r => { r with inFlight := false })
      ∧ t.meter.history.cursor = h.cursor ∧ t.meter.history.gap = h.gap
    let closed (t : State) : Prop := t.meter.history.ring =
      [{ day := f.meter.hour.day, hour := f.meter.hour.hour, litres := min 65535 (f.meter.hour.volume / 1000),
         flags := f.meter.hour.flags, repeats := 1 }]
    let own (t : State) : Prop := (t.kept = f.kept ∧ t.before = none) ∨ (t.kept ≠ f.kept ∧ t.before = some f.kept)
    (∃ t, exec (.coldStart x) s = .next t ∧ t.clock = { day := 0, second := 0, unset := true } ∧ Restarted true x f t
      ∧ t.meter.hour = { day := 0, hour := 0, recordable := false } ∧ (f.meter.hour.recordable = false → kept t)
      ∧ (f.meter.hour.recordable = true → h.ring = [] → closed t) ∧ own t)
    ∧ (s.stopped = false → ∃ t, exec (.warmReset x) s = .next t ∧ t.clock = s.clock ∧ Restarted false x f t ∧ own t
      ∧ (s.clock.day = f.meter.hour.day → s.clock.second / 3600 = f.meter.hour.hour → t.meter.hour = f.meter.hour ∧ kept t)
      ∧ (s.clock.day ≠ f.meter.hour.day ∨ s.clock.second / 3600 ≠ f.meter.hour.hour →
        t.meter.hour = { day := s.clock.day, hour := s.clock.second / 3600, recordable := !s.clock.unset }
        ∧ (f.meter.hour.recordable = false → kept t) ∧ (f.meter.hour.recordable = true → h.ring = [] → closed t))))
  ∧ (∀ s : State, s.found false = { s with before := none } ∧ (s.before = none → s.found true = s))
  ∧ ∀ (c : Instr) (s t : State),
    (match c with | .firstStart _ => False | .coldStart x => x.lost = false | .warmReset x => x.lost = false | _ => True) →
    exec c s = .next t →
    (t.kept ≠ s.kept → (t.found true).kept = s.kept)
    ∧ (t.kept = s.kept → t.before = s.before
      ∨ t.before = none ∧ (match c with
        | .coldStart _ => True | .warmReset _ => True | .replyComplete _ => True | .mainsReturned => True | _ => False))

/-- A first start (R60, R27): every setting at its default, both tanks READY with the commissioning credit of 1,250,000 mg, a last refill
volume of 8334 mL, an empty roster; with mains present, 12,000 mV, OPEN_END made and the jumper off it gives the state after reset (log
entry 1). -/
def Obligations.FirstStartOnBlankMemory : Prop :=
  (∀ (x : RestartInputs) (s : State), ∃ t, exec (.firstStart x) s = .next t
    ∧ t.settings = {} ∧ t.clock = {} ∧ t.meter.totals = {} ∧ t.meter.history.ring = [] ∧ t.leak.latch = none
    ∧ (∀ k : Tank, (t.tank k).service = .ready ∧ (t.record k).credited = 1250000 ∧ (t.record k).remaining = 1250000
        ∧ (t.record k).learned = 1000)
    ∧ t.brine.lastRefill = 8334 ∧ t.brine.refillEnd = 0 ∧ t.seq.changeover = none ∧ t.seq.due = none
    ∧ (∀ n : Fin 8, (t.slot n).state = .empty) ∧ t.pending = s.pending)
  ∧ ∀ s : State, exec (.firstStart { mains := true, battery := 12000, openEnd := true, closedEnd := false, svc := false }) s
      = .next { State.reset with pending := s.pending }

/-! ### Metering (01_water_metering_and_attribution.md) -/

/-- METERING_SECOND (R2 to R7): each meter's pulses become floor((100000 n + remainder) / K100) mL; V_fl + V_tr = V_in; V_h is V_in − V_proc
or 0. V_tr goes to the tank in service, or to the chosen tank, and is halved in a changeover's overlap; what a tank without capacity
receives is hard water; the totals grow by these. The tank in service is depleted by its share, its carry kept, unless METER_LOSS freezes it
(R29), HARD_WATER is marked once as it passes below 0 (R30), and at its switch point EXHAUSTED is raised once (R31, R61). The settings and
the roster stay. -/
def Obligations.SecondConvertsAndAttributes : Prop :=
  ∀ (x : SecondInputs) (s : State), s.stopped = false → ∃ t, exec (.meteringSecond x) s = .next t ∧
    let m := s.meter.meters
    let vIn := (min 65535 (m.pulsesIn + x.pulsesIn) * 100000 + (if m.kInChanged then 0 else m.remIn)) / s.settings.inst.kIn
    let vProc := (min 65535 (m.pulsesProc + x.pulsesProc) * 100000 + (if m.kProcChanged then 0 else m.remProc))
      / s.settings.inst.kProc
    let f := t.meter.now
    (f.vIn = vIn ∧ f.vProc = vProc ∧ f.vFl = (if s.line.owner = .flush then min vProc vIn else 0)
      ∧ f.vFl + f.vTr = vIn ∧ f.vH = vIn - vProc ∧ f.shares.a + f.shares.b = f.vTr)
    ∧ ((∀ c, s.seq.changeover = some c → c.phase ≠ .toChange → f.shares.get c.outgoing = f.vTr / 2)
      ∧ ((∀ c, s.seq.changeover = some c → c.phase = .toChange) →
        (∀ k : Tank, (s.tank k).service = .inService → (s.tank k.other).service ≠ .inService → f.shares.get k = f.vTr)
        ∧ ((∀ k : Tank, (s.tank k).service ≠ .inService) → f.shares.get s.seq.chosen = f.vTr)))
    ∧ t.meter.totals = {
        inlet := s.meter.totals.inlet + vIn, process := s.meter.totals.process + vProc
        house := s.meter.totals.house + f.vH, flush := s.meter.totals.flush + f.vFl
        treatedA := s.meter.totals.treatedA + f.shares.a, treatedB := s.meter.totals.treatedB + f.shares.b
        hardWater := s.meter.totals.hardWater + ((if (s.record .a).remaining < 0 then f.shares.a else 0)
          + (if (s.record .b).remaining < 0 then f.shares.b else 0)) }
    ∧ (∀ k : Tank, (s.tank k).service = .inService → (s.tank k.other).service ≠ .inService → s.seq.changeover = none →
        s.settings.inst.probeDepth = 0 ∨ s.clock.advance.second % 10 ≠ 0 →
        let r := s.record k
        let load := f.shares.get k * s.cap.hEff + r.carry
        let used : CapacityRecord := if s.meter.cond.lossActive || t.meter.cond.lossActive then r else { r with
          consumed := min 2147483647 (r.consumed + load / 1000), carry := load % 1000
          remaining := max (-10000000) (r.remaining - (load / 1000 : Nat)) }
        let low := used.remaining ≤ (used.credited * s.settings.user.soft.margin / 1000 : Nat)
        t.record k = { used with
          hardPosted := r.hardPosted || decide (0 ≤ r.remaining ∧ used.remaining < 0)
          exhaustionRaised := r.exhaustionRaised || decide low }
        ∧ ((s.tank k.other).service ≠ .regenerating → t.record k.other = s.record k.other)
        ∧ (low → r.exhaustionRaised = false → s.seq.due = none →
          ((s.tank k.other).service ≠ .ready → (s.tank k.other).service ≠ .regenerating → t.seq.due = some k)
          ∧ ((s.tank k.other).service = .ready → s.discFree = true → s.supply.state = .mains →
            s.disc.position ≠ some (changePosition k) →
            t.seq.due = none ∧ t.seq.changeover = some { outgoing := k, phase := .toChange, dwell := 0 })))
    ∧ t.settings = s.settings ∧ t.pods.slots = s.pods.slots

/-- METER_LOSS begins at a loss count of 60, from which both probe run counts are held at 0 (R33), and ends at a clear count of 10 (R9), its
end setting the calendar count back (R68); PROCESS_FLOW_UNOWNED begins at 60 and ends after 60 quiet seconds (R10). Each is reported, or
reported gone. A metering second moves the counts: the loss count grows while the valve is OPEN, P1 − P3 is at least 40 kPa, neither sensor
is held and no water comes in, and the clear count in the seconds with inlet water while METER_LOSS is active (R9); the unowned count grows
with process water while the line has no owner, and the quiet count in the seconds without any while PROCESS_FLOW_UNOWNED is active (R10).
Every other second puts its count back at 0. VALVE_PASSING (R11): while the valve is CLOSED the window holds the inlet volumes of the last
60 seconds, and a sum above 500 mL is reported once; a valve that is not CLOSED empties it. -/
def Obligations.MeteringConditionsBeginAndEnd : Prop :=
  ∀ s : State, s.stopped = false →
    let c := s.meter.cond
    (c.lossActive = false → 60 ≤ c.lossCount → exec .meterLossBegin s = commit s (follow
      (faultReport .meterLoss .none ((s.filter.p1.reading : Int) - (s.filter.p3.reading : Int))
        { s with
          meter := { s.meter with cond := { c with lossActive := true, clearCount := 0 } }
          cap := { s.cap with runs := ⟨0, 0⟩ } })))
    ∧ (c.lossActive = true → 10 ≤ c.clearCount → exec .meterLossEnd s = commit s (follow (faultGone .meterLoss .none
      { s with
        meter := { s.meter with cond := { c with lossActive := false, lossCount := 0, clearCount := 0 } }
        seq := { s.seq with calendar := 0 } })))
    ∧ (c.unownedActive = false → 60 ≤ c.unownedCount → exec .processFlowUnownedBegin s = commit s (follow
      (faultReport .processFlowUnowned .none (c.unownedVolume : Int)
        { s with meter := { s.meter with cond := { c with unownedActive := true, quietCount := 0 } } })))
    ∧ (c.unownedActive = true → 60 ≤ c.quietCount → exec .processFlowUnownedEnd s = commit s (follow
      (faultGone .processFlowUnowned .none { s with meter := { s.meter with cond :=
        { c with unownedActive := false, unownedCount := 0, unownedVolume := 0, quietCount := 0 } } })))
    ∧ (let window (v : Nat) : List Nat := (if c.passing.length < 60 then c.passing else c.passing.drop (c.passing.length - 59)) ++ [v]
      (∀ x, ∃ t, exec (.meteringSecond x) s = .next t
        ∧ (let n := t.meter.cond
          let m := t.meter.now
          let drop : Int := (t.filter.p1.reading : Int) - t.filter.p3.reading
          let dry : Prop := s.valve.state = .opened ∧ 40 ≤ drop ∧ m.vIn = 0 ∧ t.filter.p1.held = false ∧ t.filter.p3.held = false
          let loose : Prop := s.line.owner = .none ∧ m.vProc ≠ 0
          (c.lossActive = false →
            (¬ dry → n.lossActive = false ∧ n.lossCount = 0)
            ∧ (dry → n.lossCount = min 60 (c.lossCount + 1) ∧ (n.lossActive = true ↔ 59 ≤ c.lossCount)))
          ∧ (c.lossActive = true →
            (m.vIn = 0 → n.lossActive = true ∧ n.clearCount = 0 ∧ n.lossCount = c.lossCount)
            ∧ (m.vIn ≠ 0 → c.clearCount < 9 → n.lossActive = true ∧ n.clearCount = c.clearCount + 1 ∧ n.lossCount = c.lossCount)
            ∧ (m.vIn ≠ 0 → 9 ≤ c.clearCount → n.lossActive = false ∧ n.clearCount = 0 ∧ n.lossCount = 0 ∧ t.seq.calendar = 0))
          ∧ (c.unownedActive = false →
            (¬ loose → n.unownedActive = false ∧ n.unownedCount = 0 ∧ n.unownedVolume = 0)
            ∧ (loose → n.unownedCount = min 60 (c.unownedCount + 1) ∧ (n.unownedActive = true ↔ 59 ≤ c.unownedCount)
              ∧ (c.unownedCount < 60 → n.unownedVolume = c.unownedVolume + m.vProc)))
          ∧ (c.unownedActive = true →
            (m.vProc ≠ 0 → n.unownedActive = true ∧ n.quietCount = 0
              ∧ n.unownedCount = if s.line.owner = .none then min 60 (c.unownedCount + 1) else 0)
            ∧ (m.vProc = 0 → c.quietCount < 59 → n.unownedActive = true ∧ n.quietCount = c.quietCount + 1 ∧ n.unownedCount = 0)
            ∧ (m.vProc = 0 → 59 ≤ c.quietCount → n.unownedActive = false ∧ n.unownedCount = 0 ∧ n.quietCount = 0)))
        ∧ (s.valve.state = .closed → t.meter.cond.passing = window t.meter.now.vIn
          ∧ t.meter.cond.passingActive = (c.passingActive || decide (500 < (window t.meter.now.vIn).sum)))
        ∧ (s.valve.state ≠ .closed → t.meter.cond.passing = [] ∧ t.meter.cond.passingActive = false))
      ∧ (s.valve.state = .closed → c.passingActive = false → 500 < (window s.meter.now.vIn).sum →
        passingSecond s = faultReport .valvePassing .none ((window s.meter.now.vIn).sum : Nat) { s with meter := { s.meter with
          cond := { c with passing := window s.meter.now.vIn, passingActive := true } } })
      ∧ (s.valve.state ≠ .closed → c.passingActive = true → passingSecond s = faultGone .valvePassing .none
          { s with meter := { s.meter with cond := { c with passing := [], passingActive := false } } }))

/-- MIDNIGHT closes the open day into the seven-day ring (R13), counts the day for the screen, the cartridge and the exercise (R112, R118,
R149), repeats the salt reminder when its days have passed (R103), and posts the forecast reminder once when the forecast has come down to
its days (R105). HOUR_CLOSE opens a new hour (R14) and places the closed one, when it is recordable (R15): an hour before the next one that
the newest record expects is discarded, the expected hour with the newest record's litres and flags merges into it, and any other is
appended, which drops the oldest of 512 records and sets GAP if that one was unread. HISTORY_PENDING is posted when the unread records rise
from 63 to 64 and then disarmed, and is armed again when fewer than 64 are unread, by an append that drops one or a completed read (R18).
Hours of service count while no maximum of service days is set (R68). A metering second adds its house volume and the flags that hold at it
to the open hour, and the second that brings a whole hour is counted in the hour that closes (R14). The model's choice (log entry 5): the
flags are those that hold at the second's metering stage. -/
def Obligations.MidnightAndHourClose : Prop :=
  (∀ s : State, s.stopped = false →
    (s.clock.midnightDue = true → ∃ u, exec .midnight s = commit s (follow u)
      ∧ u.meter.week = (if s.meter.week.length < 7 then s.meter.week else s.meter.week.drop (s.meter.week.length - 6))
          ++ [s.meter.openDay / 1000]
      ∧ u.meter.openDay = 0 ∧ u.clock.midnightDue = false ∧ u.meter.totals = s.meter.totals
      ∧ u.filter.days = min 65535 (s.filter.days + 1) ∧ u.filter.cartDays = min 65535 (s.filter.cartDays + 1)
      ∧ u.valve.exerciseDays = min 65535 (s.valve.exerciseDays + 1) ∧ u.settings = s.settings
      ∧ (let b := s.brine
        let days := s.settings.user.salt.reminderDays
        let ahead := s.settings.user.salt.forecastDays
        let repeats : Prop := b.salt ≠ .ok ∧ days ≠ 0 ∧ b.lastReminder + days ≤ s.clock.day
        (repeats → u.brine.lastReminder = s.clock.day
          ∧ Told .saltReminder 1 (saltCode b.salt) (forecastDays (forecast s)) s u)
        ∧ (b.salt ≠ .ok → days ≠ 0 → s.clock.day < b.lastReminder → u.brine.lastReminder = s.clock.day)
        ∧ (b.salt = .ok ∨ days = 0 ∨ b.lastReminder ≤ s.clock.day ∧ s.clock.day < b.lastReminder + days →
          u.brine.lastReminder = b.lastReminder)
        ∧ (∀ d, ahead ≠ 0 → forecast s = some d → d ≤ ahead → u.brine.forecastArmed = false
          ∧ (b.forecastArmed = true → Told .saltReminder 2 (saltCode b.salt) d s u))
        ∧ (ahead ≠ 0 → (∀ d, forecast s = some d → ahead < d) → u.brine.forecastArmed = true)
        ∧ (ahead = 0 → u.brine.forecastArmed = b.forecastArmed)
        ∧ u.brine = { b with lastReminder := u.brine.lastReminder, forecastArmed := u.brine.forecastArmed }))
    ∧ (s.clock.hourDue = true → ∃ u, exec .hourClose s = commit s (follow u)
      ∧ u.meter.hour = { day := s.clock.day, hour := s.clock.second / 3600, recordable := !s.clock.unset }
      ∧ (let o := s.meter.hour
        let h := s.meter.history
        let h' := u.meter.history
        let unread (x : History) : Nat := x.ring.length - x.cursor
        let new : HistoryRecord :=
          { day := o.day, hour := o.hour, litres := min 65535 (o.volume / 1000), flags := o.flags, repeats := 1 }
        let rises : Prop := unread h = 63 ∧ unread h' = 64 ∧ h.armed = true
        let appended : Prop :=
          (h.ring.length < 512 → h'.ring = h.ring ++ [new] ∧ h'.cursor = h.cursor ∧ h'.gap = h.gap)
          ∧ (∀ oldest rest, 512 ≤ h.ring.length → h.ring = oldest :: rest → h'.ring = rest ++ [new] ∧ h'.cursor = h.cursor - 1
            ∧ h'.gap = (h.gap || decide (h.cursor = 0) && !oldest.inFlight))
          ∧ (rises → h'.armed = false) ∧ (¬ rises → h'.armed = (h.armed || decide (unread h' < 64)))
        (rises → s.notices.queue.length < 16 → ∃ n ∈ u.notices.queue,
          n.kind = .historyPending ∧ n.subject = .none ∧ n.stamp = s.now ∧ n.v1 = 64)
        ∧ (¬ rises → s.settings.user.soft.maxServiceDays = 0 → u.notices = s.notices)
        ∧ (o.recordable = false → h' = h)
        ∧ (o.recordable = true → h.ring = [] → appended)
        ∧ ∀ pre r, o.recordable = true → h.ring = pre ++ [r] →
          let index := o.day * 24 + o.hour
          let expected := r.day * 24 + r.hour + r.repeats
          let same : Prop := index = expected ∧ new.litres = r.litres ∧ o.flags = r.flags ∧ r.repeats < 255
            ∧ h.cursor < h.ring.length ∧ r.inFlight = false
          (index < expected → h' = h)
          ∧ (same → h' = { h with ring := pre ++ [{ r with repeats := r.repeats + 1 }] })
          ∧ (expected ≤ index → ¬ same → appended))
      ∧ (s.settings.user.soft.maxServiceDays = 0 → ∀ k : Tank, (u.tank k).hours =
          if (s.tank k).service = .inService then min 65535 ((s.tank k).hours + 1) else (s.tank k).hours)
      ∧ u.meter.totals = s.meter.totals ∧ u.settings = s.settings))
  ∧ (∀ (h : History) (n : Nat) (gap : Bool), let r := h.readDone n gap
      r.armed = (h.armed || decide (r.ring.length - r.cursor < 64)))
  ∧ ∀ (x : SecondInputs) (s : State), s.stopped = false → ∃ t, exec (.meteringSecond x) s = .next t ∧
      let o := s.meter.hour
      let volume := o.volume + t.meter.now.vH
      let flags : HourFlags :=
        { leakTrip := o.flags.leakTrip || s.leak.latch.isSome
          regen := o.flags.regen || (s.tank .a).service == .regenerating || (s.tank .b).service == .regenerating
          shutoffClosed := o.flags.shutoffClosed || s.valve.state != .opened
          onBattery := o.flags.onBattery || s.supply.state != .mains
          clockSet := o.flags.clockSet }
      let c := s.clock.advance
      (c.second % 3600 ≠ 0 → t.meter.hour = { o with volume := volume, flags := flags } ∧ t.meter.history = s.meter.history)
      ∧ (c.second % 3600 = 0 → t.meter.hour = { day := c.day, hour := c.second / 3600, recordable := !c.unset }
        ∧ (o.recordable = true → s.meter.history.ring = [] → t.meter.history.ring =
          [{ day := o.day, hour := o.hour, litres := min 65535 (volume / 1000), flags := flags, repeats := 1 }]))

/-! ### Capacity (02_softening_capacity_accounting.md) -/

/-- FRONT_DETECTED (R35, R36, R38): the learned factor moves by half of the error in ACQUISITION and an eighth in TRACKING, within 600 to
1100; two small errors in a row pass to TRACKING and one large error back; the remaining capacity becomes the true capacity less what was
consumed, the front is marked as seen, and FRONT_SEEN tells it. The probe of a tank in service is sampled in a second whose second of day is
a multiple of 10 (R33, R34): a sample outside 200 to 1800 sets the fault mark, is reported as BED_PROBE once, and puts the run count back at
0; any other clears the mark, is reported gone, and counts when it is outside 940 to 1060, the 31st being a front; the count is held at 0 by
a front seen, no credit or METER_LOSS, read after the second's metering (the model's choice, log entry 15). -/
def Obligations.FrontTeachesTheFactor : Prop :=
  (∀ (k : Tank) (s : State), s.stopped = false → 31 ≤ s.cap.runs.get k → s.settings.inst.probeDepth ≠ 0 →
    (s.record k).credited ≠ 0 → ∃ u, exec (.frontDetected k) s = commit s (follow u) ∧
      let r := s.record k
      let true_ : Nat := r.consumed * 1000 / s.settings.inst.probeDepth
      let e : Int := ((r.learned * true_ / r.credited : Nat) : Int) - r.learned
      (((u.record k).learned : Nat) : Int) = max 600 (min 1100 (r.learned + e.tdiv (if r.mode = .acquisition then 2 else 8)))
      ∧ (u.record k).remaining = max (-10000000) (min (r.credited : Int) ((true_ : Int) - r.consumed))
      ∧ (u.record k).frontSeen = true ∧ (u.record k).credited = r.credited ∧ (u.record k).consumed = r.consumed
      ∧ (let mode (m : LearnMode) (n : Nat) : Prop := (u.record k).mode = m ∧ (u.record k).smallErrors = n
        (r.mode = .acquisition → e.natAbs ≤ 30 → r.smallErrors = 0 → mode .acquisition 1)
        ∧ (r.mode = .acquisition → e.natAbs ≤ 30 → r.smallErrors = 1 → mode .tracking 0)
        ∧ (r.mode = .acquisition → 30 < e.natAbs → mode .acquisition 0)
        ∧ (r.mode = .tracking → e.natAbs ≤ 80 → mode .tracking 0) ∧ (r.mode = .tracking → 80 < e.natAbs → mode .acquisition 0))
      ∧ u.cap.runs.get k = 0 ∧ u.record k.other = s.record k.other
      ∧ (0 ≤ (u.record k).remaining →
        u = post .frontSeen (.tank k) ((u.record k).learned : Nat) e (true_ : Nat) { s with cap := u.cap })
      ∧ u.settings = s.settings ∧ u.meter = s.meter ∧ u.seq = s.seq)
  ∧ ∀ (k : Tank) (x : SecondInputs) (s : State), s.stopped = false → s.clock.advance.second % 10 = 0 →
    s.settings.inst.probeDepth ≠ 0 → (s.tank k).service = .inService → s.seq.changeover = none → s.cap.runs.get k ≤ 30 →
    ∃ t, exec (.meteringSecond x) s = .next t ∧
      let sample : Int := match k with | .a => x.probeA | .b => x.probeB
      let r := s.record k
      let n := t.cap.runs.get k
      let of (l : List FaultRecord) : List FaultRecord := l.filter fun f => f.code == .bedProbe && f.subject == .tank k
      let held : Prop := r.frontSeen = true ∨ r.credited = 0 ∨ t.meter.cond.lossActive = true
      (sample < 200 ∨ 1800 < sample → n = 0 ∧ t.cap.probeFault.get k = true
        ∧ (s.cap.probeFault.get k = true → of t.faults.records = of s.faults.records)
        ∧ (s.cap.probeFault.get k = false →
          (∃ f ∈ of t.faults.records, f.active = true ∧ f.detail = sample) ∨ t.faults.overflow = true))
      ∧ (200 ≤ sample → sample ≤ 1800 → t.cap.probeFault.get k = false
        ∧ (s.cap.probeFault.get k = true → ∀ f ∈ of t.faults.records, f.active = false)
        ∧ (held ∨ 940 ≤ sample ∧ sample ≤ 1060 → n = 0)
        ∧ (¬ held → sample < 940 ∨ 1060 < sample → s.cap.runs.get k < 30 → n = s.cap.runs.get k + 1)
        ∧ (¬ held → sample < 940 ∨ 1060 < sample → s.cap.runs.get k = 30 → n = 0 ∧ (t.record k).frontSeen = true))

/-- R23: cap(D) is the point of the dose curve at or below D, with floor((c' − c)(D − D_i) / 40) of the way to the next point; at each of
the five points it is that point's capacity. The dose is setting 23, 80 to 240, default 120, clamped when it is set. -/
def Obligations.DoseCurve : Prop :=
  (∀ p ∈ ([(80, 40000, 50000), (120, 50000, 57000), (160, 57000, 63000), (200, 63000, 68000)] : List (Nat × Nat × Nat)),
    ∀ d, p.1 ≤ d → d < p.1 + 40 → doseCapacity d = p.2.1 + (p.2.2 - p.2.1) * (d - p.1) / 40)
  ∧ doseCapacity 80 = 40000 ∧ doseCapacity 120 = 50000 ∧ doseCapacity 160 = 57000 ∧ doseCapacity 200 = 63000
  ∧ doseCapacity 240 = 68000 ∧ doseCapacity 150 = 55250 ∧ doseCapacity 81 = 40250
  ∧ settingRow 23 = some { installer := false, orZero := false, lo := 80, hi := 240 } ∧ ({} : Settings).get 23 = 120
  ∧ ∀ v : Int, 80 ≤ (SettingRow.user 80 240).clamp v ∧ (SettingRow.user 80 240).clamp v ≤ 240

/-! ### The disc (03_the_twin_tank_control_valve.md) -/

/-- IN_PLACE_SET (R43, R47, R49): at rest it is noted. In a move to a position, the position after the recorded one is the arrival when it
is the target, and is passed otherwise; the one after the target is DISC_MISSED, and any other, or a code that names none, is DISC_CODE.
From an UNKNOWN position any position is taken, and with the target NEXT it is the arrival. A position that comes in place puts the leg time
back at 0. An event whose condition does not stand has no effect of its own (the model's choice, log entry 4). -/
def Obligations.CodeInPlace : Prop :=
  ∀ (code : BitVec 4) (s : State), s.stopped = false → s.disc.inPlace = false → s.disc.state ≠ .observing →
    let d : Disc := { s.disc with inPlace := true, code := code }
    (s.disc.driven = false → exec (.inPlaceSet code) s = commit s (follow { s with disc := d }))
    ∧ (s.disc.driven = true → codePosition code = none → ∃ u, exec (.inPlaceSet code) s = commit s (follow u)
        ∧ DiscStopped .discCode code.toNat { d with position := none } s u)
    ∧ let leg : Disc := { d with legTime := 0 }
      ∀ p t r : Pos, s.disc.driven = true → codePosition code = some p → s.disc.target = some (.pos t) →
        s.disc.position = some r →
        (p = r + 1 → p ≠ t → p ≠ t + 1 → exec (.inPlaceSet code) s = commit s (follow { s with disc := { leg with
          position := some p, state := if p + 1 = t then .creeping else .running } }))
        ∧ (p = t + 1 → ∃ u, exec (.inPlaceSet code) s = commit s (follow u)
          ∧ DiscStopped .discMissed t.val { leg with position := some p } s u)
        ∧ (p ≠ r + 1 → p ≠ t + 1 → ∃ u, exec (.inPlaceSet code) s = commit s (follow u)
          ∧ DiscStopped .discCode code.toNat { leg with position := some p } s u)
        ∧ (∀ tag, p = r + 1 → p = t → s.disc.requester = some (.discStep tag) → s.disc.retryTag = none →
          s.disc.retriedFault = none → s.disc.mode = .manual → s.settings.user.soft.discMode = .manual →
          exec (.inPlaceSet code) s = commit s (follow (requestDone .none tag 0x11 .done 0 { s with disc := { leg with
            position := some p, state := .atPosition, target := none, requester := none } })))
    ∧ ∀ p : Pos, s.disc.driven = true → codePosition code = some p →
        (∀ t, s.disc.target = some (.pos t) → s.disc.position = none → p ≠ t →
          exec (.inPlaceSet code) s = commit s (follow { s with disc := { leg with
            position := some p, state := if p + 1 = t then .creeping else .running } }))
        ∧ (s.disc.target = some .next ∨ s.disc.target = some (.pos p) ∧ s.disc.position = none →
          s.disc.retryTag = none → s.disc.retriedFault = none → s.disc.mode = .manual → s.settings.user.soft.discMode = .manual →
          let arrived : Disc := { leg with position := some p, state := .atPosition, target := none, requester := none }
          (∀ tag, s.disc.requester = some (.discStep tag) →
            exec (.inPlaceSet code) s = commit s (follow (requestDone .none tag 0x11 .done 0 { s with disc := arrived })))
          ∧ (s.disc.requester = some .restart → (∃ k, (s.tank k).service = .inService) →
            exec (.inPlaceSet code) s = commit s (follow { s with disc := arrived })))

/-- The end of the restart observation (R57, R58, R60, R82): with the centre track dark the disc goes on at CREEP to the next position; a
code that names none is DISC_CODE; a position found in MANUAL is taken as it stands. In AUTO, both tanks READY, the tank that it serves
enters service; otherwise the recovery pass goes on with a changeover's move, with the move to READY, or with the first position forward
that serves the tank in service or belongs to a step of the regenerating tank, and stays where that is the position found. -/
def Obligations.RestartObservationEnds : Prop :=
  ∀ (code : BitVec 4) (s : State), s.stopped = false → s.disc.state = .observing →
    let d : Disc := { s.disc with inPlace := true, code := code }
    exec (.discRestartObservation false code) s = commit s (follow { s with disc :=
        { s.disc with position := none, inPlace := false, target := some .next, requester := some .restart,
                      state := .creeping, legTime := 0, overcurrent := 0 } })
    ∧ (codePosition code = none → ∃ u, exec (.discRestartObservation true code) s = commit s (follow u)
        ∧ DiscStopped .discCode code.toNat { d with position := none, target := some .next, requester := some .restart } s u)
    ∧ (∀ p, codePosition code = some p → s.disc.mode = .manual → s.settings.user.soft.discMode = .manual →
        (∃ k, (s.tank k).service = .inService) → exec (.discRestartObservation true code) s
          = commit s (follow { s with disc := { d with state := .atPosition, position := some p } }))
    ∧ (∀ p k, codePosition code = some p → servicePosition p = some k → s.disc.mode = .auto →
        s.settings.user.soft.discMode = .auto → s.seq.changeover = none → (∀ j, (s.tank j).service = .ready) →
        ∃ u, exec (.discRestartObservation true code) s = commit s (follow u)
          ∧ u.disc = { d with state := .atPosition, position := some p } ∧ u.seq.chosen = k
          ∧ (u.tank k).service = .inService ∧ (u.tank k).hours = 0 ∧ u.tank k.other = s.tank k.other)
    ∧ ∀ (p : Pos) (k : Tank), codePosition code = some p → s.disc.mode = .auto → s.settings.user.soft.discMode = .auto →
        (s.tank k).service = .inService →
        let found : Disc := { d with state := .atPosition, position := some p }
        let moves (q : Pos) : Prop :=
          exec (.discRestartObservation true code) s = commit s (follow { s with disc := found.moveTo q })
        let stays : Prop := exec (.discRestartObservation true code) s = commit s (follow { s with disc := found })
        let forward (n : Nat) : Pos := p + Fin.ofNat 14 n
        (∀ c, s.seq.changeover = some c →
          (c.phase = .toChange → p ≠ changePosition c.outgoing → moves (changePosition c.outgoing))
          ∧ (c.phase = .toHold → p ≠ holdPosition c.outgoing → moves (holdPosition c.outgoing))
          ∧ (c.phase = .dwell → p = changePosition c.outgoing → stays))
        ∧ (s.seq.changeover = none → (s.tank k.other).service ≠ .regenerating → (s.tank k.other).service ≠ .inService →
          (servicePosition p = some k → stays)
          ∧ ∀ n, 0 < n → n < 14 → (∀ m, m < n → servicePosition (forward m) ≠ some k) → servicePosition (forward n) = some k →
            moves (forward n))
        ∧ (s.seq.changeover = none → (s.tank k.other).service = .regenerating →
          ((s.tank k.other).phase = some .toReady → p ≠ readyPosition k.other → moves (readyPosition k.other))
          ∧ ((s.tank k.other).phase ≠ some .toReady →
            (∀ step, positionStep k.other p = some step → (s.tank k.other).step = some step →
              (s.tank k.other).phase ≠ some .toStep → stays)
            ∧ ∀ n, 0 < n → n < 14 → (∀ m, m < n → positionStep k.other (forward m) = none) →
              positionStep k.other (forward n) ≠ none → moves (forward n)))

/-- IN_PLACE_CLEAR (R43): a disc at rest whose position has gone out of place is brought to the next position at CREEP; during a move
in-place only clears. DISC_TIMEOUT and DISC_STALL (R48, R50, R52): a driven disc stops in FAULT, with the recorded position, or 14, as the
detail. An event whose condition does not stand has no effect of its own (the model's choice, log entry 4). -/
def Obligations.DiscLosesItsPlace : Prop :=
  ∀ s : State, s.stopped = false →
    (s.disc.inPlace = false → exec .inPlaceClear s = commit s (follow s))
    ∧ (s.disc.inPlace = true → s.disc.state ≠ .atPosition →
        exec .inPlaceClear s = commit s (follow { s with disc := { s.disc with inPlace := false } }))
    ∧ (s.disc.inPlace = true → s.disc.state = .atPosition → exec .inPlaceClear s = commit s (follow { s with disc :=
        { s.disc with position := none, inPlace := false, target := some .next, requester := some .restart,
                      state := .creeping, legTime := 0, overcurrent := 0 } }))
    ∧ (s.disc.driven = false → exec .discTimeout s = commit s (follow s) ∧ exec .discStall s = commit s (follow s))
    ∧ (s.disc.driven = true → ∃ u, exec .discTimeout s = commit s (follow u)
        ∧ DiscStopped .discTimeout (positionCode s.disc.position)
            { s.disc with legTime := if s.disc.state = .running then 20 else 15 } s u)
    ∧ (s.disc.driven = true → ∃ u, exec .discStall s = commit s (follow u)
        ∧ DiscStopped .discStall (positionCode s.disc.position) { s.disc with overcurrent := 500 } s u)

/-- DISC_STEP (R56) and DISC_RETRY (R53), with the refusals in their order, BUSY during the restart observation among them (R57); accepted,
DISC_STEP starts the disc. An accepted DISC_RETRY starts the held move again, and when the move is the sequencer's a FAULTED tank is
REGENERATING again (R76). The model's choice (log entry 37): the retry of a move held at its target arrives at once, and with the target
NEXT a valid code in place is the position the disc starts from. -/
def Obligations.DiscRequests : Prop :=
  ∀ (svc : Bool) (tag : Byte) (s : State), s.free →
    let w := frameDropped (s.withSvc svc)
    let d := s.disc
    let retry := answers .discRetry tag s
    (exec (.discStep tag svc) s =
      if d.state = .observing then answers .discStep tag s w { status := .busy }
      else if d.mode = .auto then answers .discStep tag s w (declined .auto)
      else if d.driven = true then answers .discStep tag s w { status := .busy }
      else if d.state = .fault then answers .discStep tag s w (declined .discFault)
      else if s.supply.state ≠ .mains then answers .discStep tag s w (declined .onBattery)
      else answers .discStep tag s (follow { w with disc := { d with
        target := some (match d.position with | some p => .pos (p + 1) | none => .next)
        requester := some (.discStep tag), state := .creeping, legTime := 0, overcurrent := 0 } }) { status := .accepted })
    ∧ (d.state = .observing → exec (.discRetry tag svc) s = retry w { status := .busy })
    ∧ (d.state ≠ .observing → d.state ≠ .fault → exec (.discRetry tag svc) s = retry w (declined .noFault))
    ∧ (d.state = .fault → s.supply.state ≠ .mains → exec (.discRetry tag svc) s = retry w (declined .onBattery))
    ∧ (d.state = .fault → s.supply.state = .mains →
      let from_ : Option Pos := if d.position = none ∧ d.inPlace = true then codePosition d.code else d.position
      (∀ t, d.target = some t → (∀ q, t = .pos q → from_ ≠ some q) → ∃ u,
        exec (.discRetry tag svc) s = retry (follow u) { status := .accepted }
        ∧ u.disc = { d with
            position := from_, retryTag := some tag, retriedFault := d.fault.map Prod.fst, fault := none, legTime := 0
            overcurrent := 0
            state := match t with
              | .next => .creeping
              | .pos q => if from_ = none ∨ from_ = some (q - 1) then .creeping else .running }
        ∧ (∀ k, u.tank k = if d.requester = some .sequencer ∧ (s.tank k).service = .faulted then
            { s.tank k with service := .regenerating } else s.tank k)
        ∧ u = { w with disc := u.disc, seq := { s.seq with tanks := u.seq.tanks }, notices := u.notices })
      ∧ ∀ q g c n, d.target = some (.pos q) → from_ = some q → d.requester = some (.discStep g) → d.fault = some (c, n) →
        d.mode = .manual → s.settings.user.soft.discMode = .manual →
        exec (.discRetry tag svc) s = retry (follow (faultGone c .none (requestDone .none tag 0x12 .done 0 { w with disc := { d with
          position := from_, retryTag := none, retriedFault := none, fault := none, state := .atPosition, target := none
          requester := none } }))) { status := .accepted })

/-! ### The Regeneration Sequencer (04_regeneration_sequencing.md) -/

/-- CHANGEOVER_BEGIN (R61, R62, R63): a due changeover begins when the other tank is READY, the disc free and the supply MAINS; a disc that
already stands at the changeover position brings the incoming tank into service at once. DWELL_END (R63): after the overlap the sequencer
asks for the move to the outgoing tank's HOLD position; a disc that is not free refuses it, and it stays to be asked for. The disc's arrival
at the changeover position begins the dwell with the incoming tank IN_SERVICE (R63), and at the HOLD position makes the outgoing tank
EXHAUSTED and ends the changeover (R64), its probe run count back at 0 (R33). A metering second of the dwell on MAINS adds one to the dwell
time, and ends the dwell when it reaches the overlap; on battery it is held (R63). An event whose condition does not stand has no effect of
its own (the model's choice, log entry 4). -/
def Obligations.ChangeoverBeginsAndDwells : Prop :=
  (∀ (c : Changeover) (s : State), s.stopped = false → s.seq.changeover = some c →
    (c.phase ≠ .dwell ∨ s.supply.state ≠ .mains ∨ c.dwell < s.settings.inst.overlap →
      exec .dwellEnd s = commit s (follow s))
    ∧ (c.phase = .dwell → s.supply.state = .mains → s.settings.inst.overlap ≤ c.dwell →
      (s.discFree = false → exec .dwellEnd s = commit s (follow { s with
        seq := { s.seq with changeover := some { c with phase := .toHold } } }))
      ∧ (s.discFree = true → s.disc.position ≠ some (holdPosition c.outgoing) → exec .dwellEnd s = commit s (follow { s with
        seq := { s.seq with changeover := some { c with phase := .toHold } }
        disc := ({ s.disc with target := some (.pos (holdPosition c.outgoing)), requester := some .sequencer } : Disc).start }))))
  ∧ (∀ (c : Changeover) (code : BitVec 4) (s : State), s.stopped = false → s.seq.changeover = some c →
    let out := c.outgoing
    (c.phase = .toChange → Arriving code (changePosition out) s → ∃ u, exec (.inPlaceSet code) s = commit s (follow u)
      ∧ u.disc = s.disc.arrived code (changePosition out) ∧ u.seq.changeover = some { c with phase := .dwell, dwell := 0 }
      ∧ u.tank out.other = { s.tank out.other with service := .inService, hours := 0, deferral := {}, urgent := .none }
      ∧ u.tank out = s.tank out
      ∧ u = { s with seq := { s.seq with tanks := u.seq.tanks, changeover := u.seq.changeover }, disc := u.disc, notices := u.notices })
    ∧ (c.phase = .toHold → Arriving code (holdPosition out) s → ∃ u, exec (.inPlaceSet code) s = commit s (follow u)
      ∧ u.disc = s.disc.arrived code (holdPosition out) ∧ u.seq.changeover = none
      ∧ u.tank out = { s.tank out with service := .exhausted, changeTag := none, urgent := (u.tank out).urgent }
      ∧ u.tank out.other = s.tank out.other ∧ u.cap = { s.cap with runs := s.cap.runs.set out 0 }
      ∧ u = { s with
          cap := u.cap, seq := { s.seq with tanks := u.seq.tanks, changeover := none }, disc := u.disc, notices := u.notices }))
  ∧ (∀ (c : Changeover) (x : SecondInputs) (s : State), s.stopped = false → s.seq.changeover = some c → c.phase = .dwell →
    ∃ t, exec (.meteringSecond x) s = .next t
      ∧ (s.supply.state ≠ .mains → t.seq.changeover = some c)
      ∧ (s.supply.state = .mains → c.dwell + 1 < s.settings.inst.overlap →
        t.seq.changeover = some { c with dwell := c.dwell + 1 })
      ∧ (s.supply.state = .mains → s.settings.inst.overlap ≤ c.dwell + 1 →
        s.discFree = false ∨ s.disc.position ≠ some (holdPosition c.outgoing) →
        t.seq.changeover = some { c with phase := .toHold, dwell := c.dwell + 1 }))
  ∧ ∀ (t : Tank) (s : State), s.stopped = false → s.seq.due = some t →
    ((s.tank t.other).service ≠ .ready ∨ s.discFree = false ∨ s.supply.state ≠ .mains ∨ s.seq.changeover ≠ none →
      exec .changeoverBegin s = commit s (follow s))
    ∧ ((s.tank t.other).service = .ready → s.discFree = true → s.supply.state = .mains → s.seq.changeover = none →
      (s.disc.position ≠ some (changePosition t) → exec .changeoverBegin s = commit s (follow { s with
        seq := { s.seq with changeover := some { outgoing := t, phase := .toChange, dwell := 0 }, due := none }
        disc := { s.disc with
          target := some (.pos (changePosition t)), requester := some .sequencer, legTime := 0, overcurrent := 0
          state := if s.disc.position = some (changePosition t - 1) ∨ s.disc.position = none then .creeping else .running } }))
      ∧ (s.disc.position = some (changePosition t) → ∃ u, exec .changeoverBegin s = commit s (follow u)
        ∧ u.seq.changeover = some { outgoing := t, phase := .dwell, dwell := 0 } ∧ u.seq.due = none
        ∧ u.tank t.other = { s.tank t.other with
            service := .inService, hours := 0, deferral := {}, urgent := .none }
        ∧ u.tank t = s.tank t ∧ u.disc = { s.disc with target := none, requester := none }
        ∧ u = { s with seq := u.seq, disc := u.disc, notices := u.notices }))

/-- CALENDAR_FALLBACK (R61, R62, R67, R68): under METER_LOSS a calendar count at the calendar days goes back to 0 and raises EXHAUSTED for
the tank in service; with the other tank not READY the changeover waits, CHANGEOVER_PENDING is posted, and an EXHAUSTED other tank is
FORCED; with it READY the changeover begins, at once or when the disc and the supply allow. The count grows in the second that reaches the
window hour at 00:00 under METER_LOSS, and the end of METER_LOSS puts it back at 0 (R68).
HOUR_CLOSE (R39 to R41, R61, R67, R68): a tank in service for more hours than its maximum of service days is exhausted; and in WINDOW timing
an EXHAUSTED tank that is not FORCED is marked PROJECTED by the verdict of the projection: urgent when the need until it is READY again
reaches what the tank in service has above its switch point. -/
def Obligations.CalendarRaisesExhaustion : Prop :=
  (∀ s : State, s.stopped = false → s.meter.cond.lossActive = true → s.settings.user.soft.calendarDays ≤ s.seq.calendar →
    (s.serviceTank = none → exec .calendarFallback s = commit s (follow { s with seq := { s.seq with calendar := 0 } }))
    ∧ ∀ t, s.serviceTank = some t → s.seq.changeover = none → s.seq.due = none → (s.tank t.other).service ≠ .ready →
        exec .calendarFallback s = commit s (follow
          (let v := post1 .changeoverPending (.tank t) (serviceCode (s.tank t.other).service)
            { s with seq := { s.seq with calendar := 0, due := some t } }
          if (s.tank t.other).service = .exhausted then v.withTank t.other { s.tank t.other with urgent := .forced } else v)))
  ∧ (∀ (t : Tank) (s : State), s.stopped = false → s.meter.cond.lossActive = true →
    s.settings.user.soft.calendarDays ≤ s.seq.calendar → s.serviceTank = some t → s.seq.changeover = none → s.seq.due = none →
    (s.tank t.other).service = .ready →
    (s.discFree = false ∨ s.supply.state ≠ .mains → exec .calendarFallback s = commit s (follow
      { s with seq := { s.seq with calendar := 0, due := some t } }))
    ∧ (s.discFree = true → s.supply.state = .mains → s.disc.position ≠ some (changePosition t) → exec .calendarFallback s
      = commit s (follow { s with
        seq := { s.seq with calendar := 0, changeover := some { outgoing := t, phase := .toChange, dwell := 0 } }
        disc := s.disc.moveTo (changePosition t) }))
    ∧ (s.discFree = true → s.supply.state = .mains → s.disc.position = some (changePosition t) → ∃ u,
      exec .calendarFallback s = commit s (follow u) ∧ u.seq.calendar = 0 ∧ u.seq.due = none
      ∧ u.seq.changeover = some { outgoing := t, phase := .dwell, dwell := 0 } ∧ (u.tank t.other).service = .inService
      ∧ u.tank t = s.tank t))
  ∧ (∀ (x : SecondInputs) (s : State), s.stopped = false → ∃ v, exec (.meteringSecond x) s = .next v ∧
      let c := s.settings.user.soft
      let lost := v.meter.cond.lossActive
      let reached : Prop := lost = true ∧ s.clock.advance.second = c.windowHour * 3600
      (¬ reached → v.seq.calendar = if s.meter.cond.lossActive = true ∧ lost = false then 0 else s.seq.calendar)
      ∧ (reached → s.seq.calendar + 1 < c.calendarDays → v.seq.calendar = s.seq.calendar + 1)
      ∧ (reached → c.calendarDays ≤ s.seq.calendar + 1 → v.seq.calendar = 0
        ∧ ∀ k, s.serviceTank = some k → s.seq.changeover = none → s.seq.due = none → (s.tank k.other).service ≠ .ready →
          (s.tank k.other).service ≠ .regenerating → v.seq.due = some k))
  ∧ ∀ (v : Tank) (s : State), s.stopped = false → s.clock.hourDue = true → s.serviceTank = some v → s.seq.changeover = none →
    let c := s.settings.user.soft
    let worn : Prop := c.maxServiceDays ≠ 0 ∧ c.maxServiceDays * 24 < min 65535 ((s.tank v).hours + 1)
    ∃ u, exec .hourClose s = commit s (follow u)
      ∧ (u.tank v).hours = min 65535 ((s.tank v).hours + 1)
      ∧ (¬ worn → u.seq.due = s.seq.due ∧ u.seq.changeover = none)
      ∧ (worn → s.seq.due = none →
        ((s.tank v.other).service ≠ .ready → u.seq.due = some v ∧ u.seq.changeover = none
          ∧ ((s.tank v.other).service = .exhausted → (u.tank v.other).urgent = .forced))
        ∧ ((s.tank v.other).service = .ready → s.discFree = true → s.supply.state = .mains →
          s.disc.position ≠ some (changePosition v) →
          u.seq.due = none ∧ u.seq.changeover = some { outgoing := v, phase := .toChange, dwell := 0 }))
      ∧ ((s.tank v.other).service = .exhausted → ¬ worn →
        let t := v.other
        let average := if s.meter.week = [] then c.designUse else s.meter.week.sum / s.meter.week.length
        let w := c.windowHour * 3600
        let toWindow := (if s.clock.second < w then w - s.clock.second else w + 86400 - s.clock.second) / 3600
        let refill := (c.dose * s.resin t * 100 + 359) / 360
        let hours := toWindow + (c.backwash + c.brine + c.rinse + (refill + 7) / 8 + 84 + 3599) / 3600
        let need : Nat := average * s.cap.hEff * hours / 24
        let r := s.record v
        let spare : Int := r.remaining - (r.credited * c.margin / 1000 : Nat)
        (u.tank t).urgent =
          if s.seq.timing = .immediate ∨ (s.tank t).urgent = .forced then (s.tank t).urgent
          else if spare ≤ (need : Int) then .projected else .none)

/-- REGEN_CLAIM (R66, R69, R70, R86): an EXHAUSTED tank whose conditions hold claims the line; on a free line it is granted at once, the
recipe is latched and the move to BACKWASH asked for. A line in use leaves the claim pending, and a supply other than MAINS, or a valve not
OPEN, puts its reason in the deferral set. A grant decision on a free line, with mains and the valve OPEN, chooses a continuation, then a
FLUSH at HIGH, then REGEN, then TEST, then any other FLUSH, and grants nothing otherwise (R86, R87). At the return of mains, and at the
valve's arrival at OPEN, the tank's claim stands in the table at the decision, ahead of a NORMAL flush that waited (section 5.5; DEDUCED,
log entry 44). -/
def Obligations.RegenerationClaimed : Prop :=
  (∀ s : State,
    (s.line.owner ≠ .none ∨ s.supply.state ≠ .mains ∨ s.valve.state ≠ .opened ∨ s.line = {} → grantDecision s = s)
    ∧ (s.line.owner = .none → s.supply.state = .mains → s.valve.state = .opened →
      let l := s.line
      let after := (grantDecision s).line
      let continues : Prop := ∃ e, l.regen = some e ∧ e.continuation = true
      let high : Prop := ∃ e, l.flush = some e ∧ e.high = true
      (∀ e, l.regen = some e → continues ∨ ¬ high →
        after.regen = some { e with granted := true } ∧ after.flush = l.flush ∧ after.test = l.test)
      ∧ (∀ e, l.flush = some e → ¬ continues → high ∨ l.regen = none ∧ l.test = none →
        after.flush = some { e with granted := true } ∧ after.regen = l.regen ∧ after.test = l.test)
      ∧ (l.regen = none → l.test ≠ none → ¬ high → s.leak.test.phase = .claiming →
        after.test = some { granted := true } ∧ after.flush = l.flush ∧ after.regen = none)))
  ∧ (∀ (t : Tank) (s : State), s.stopped = false → (s.tank t).service = .exhausted → (s.tank t.other).service ≠ .exhausted →
    s.seq.changeover = none → s.discFree = true → (s.tank t).halt = false → windowMet t s = true → (s.tank t).claim = .none →
    s.line = { flush := some { granted := false, high := false } } → s.valve.exercise ≠ .closeRun →
    let first (u : State) : Prop := (u.tank t).service = .regenerating
      ∧ u.line = { regen := some { granted := true, tank := t, continuation := false }, flush := s.line.flush }
    (s.supply.state ≠ .mains → s.valve.state = .opened → s.valve.reasons = {} →
      ∃ u, exec .mainsReturned s = commit s (follow u) ∧ first u)
    ∧ (s.supply.state = .mains → s.valve.state = .opening → s.valve.drive = .toOpen → s.pins.openEnd = false →
      s.pins.closedEnd = false → ∃ u, exec (.endSwitchArrival .openEnd) s = commit s (follow u) ∧ first u))
  ∧ ∀ (t : Tank) (s : State), s.stopped = false → (s.tank t).service = .exhausted → (s.tank t.other).service ≠ .exhausted →
    s.seq.changeover = none → s.disc.state = .atPosition → (s.tank t).claim = .none → s.line.regen = none →
    let c := s.settings.user.soft
    (s.supply.state = .mains → s.valve.state = .opened → s.disc.mode = .auto → (s.tank t).halt = false → windowMet t s = true →
      (s.line = {} → s.disc.position ≠ some (stepPosition t .backwash) → ∃ u, exec .regenClaim s = commit s (follow u)
        ∧ u.line = { regen := some { granted := true, tank := t, continuation := false } }
        ∧ u.tank t = { s.tank t with
            service := .regenerating, step := some .backwash, phase := some .toStep, elapsed := 0, elapsedMin := 0
            deferral := {}, urgent := .none, claim := .granted
            recipe := { dose := c.dose, vr := s.resin t, backwash := c.backwash, brine := c.brine, rinse := c.rinse,
                        refillLimit := c.refillLimit, refillML := (c.dose * s.resin t * 100 + 359) / 360 } }
        ∧ u.disc = ({ s.disc with target := some (.pos (stepPosition t .backwash)), requester := some .sequencer } : Disc).start
        ∧ u.tank t.other = s.tank t.other
        ∧ u = { s with line := u.line, seq := { s.seq with tanks := u.seq.tanks }, disc := u.disc, notices := u.notices })
      ∧ (s.line.owner ≠ .none → exec .regenClaim s = commit s (follow
        { s.withTank t { s.tank t with claim := .pending } with
          line := { s.line with regen := some { granted := false, tank := t, continuation := false } } })))
    ∧ (s.supply.state ≠ .mains → s.valve.state = .opened → s.disc.mode = .auto → (s.tank t).halt = false → windowMet t s = true →
      (s.tank t).deferral.onBattery = false → exec .regenClaim s = commit s (follow
        (let d := { (s.tank t).deferral with onBattery := true }
        post1 .regenDeferred (.tank t) (deferralCode d) (s.withTank t { s.tank t with deferral := d }))))
    ∧ (s.supply.state = .mains → s.valve.state ≠ .opened → s.disc.mode = .auto → (s.tank t).halt = false → windowMet t s = true →
      (s.tank t).deferral.shutoffClosed = false → exec .regenClaim s = commit s (follow
        (let d := { (s.tank t).deferral with shutoffClosed := true }
        post1 .regenDeferred (.tank t) (deferralCode d) (s.withTank t { s.tank t with deferral := d }))))

/-- The disc's arrival at the position of a step starts it (R71), and the Brine Monitor begins a BRINE's measurement (R94) or a REFILL's
count (R97). The step timer counts the seconds in which the grant, mains, the open valve and the disc stand, and is held otherwise (R72).
A tank IN_STEP is taken with the disc, where that is AT_POSITION in AUTO, at the position of its step, to which R71 brings it.
STEP_END (R73, R74, R79): a step whose time is up, or whose refill has reached its volume, ends; the phase becomes STEP_ENDED, or HALTED
with the HALT answered. The Brine Monitor takes a refill's volume and end time, and a refill short of its volume is REFILL_SHORT. The
model's choice (log entry 45): the FAULT of REFILL_SHORT comes before TANK_STATE, and TANK_STATE before the REQUEST_DONE of the HALT tag. An
event whose condition does not stand has no effect of its own (the model's choice, log entry 4). -/
def Obligations.StepsEnd : Prop :=
  (∀ (t : Tank) (k : Step) (code : BitVec 4) (s : State), s.stopped = false → Arriving code (stepPosition t k) s →
    s.seq.changeover = none → (s.tank t).service = .regenerating → (s.tank t.other).service ≠ .regenerating →
    (s.tank t).phase = some .toStep → (s.tank t).step = some k → ∃ u, exec (.inPlaceSet code) s = commit s (follow u)
      ∧ u.tank t = { s.tank t with phase := some .inStep } ∧ u.tank t.other = s.tank t.other
      ∧ u.disc = s.disc.arrived code (stepPosition t k)
      ∧ u.brine = (match k with
        | .refill => { s.brine with refill := some { tank := t, volume := 0 } }
        | .brine =>
          let dissolved := min 1000 (1000 * ((s.now - s.brine.refillEnd) / 60) / s.settings.user.soft.dissolveTime)
          { s.brine with
            refill := none
            measure := some
              { tank := t, start := s.brine.level, lowest := s.brine.level, planned := s.brine.lastRefill
                area := s.settings.inst.brineArea
                saturation := if s.brine.salt = .out then min 300 dissolved else dissolved } }
        | _ => s.brine)
      ∧ u = { s with seq := { s.seq with tanks := u.seq.tanks }, disc := u.disc, brine := u.brine, notices := u.notices })
  ∧ (∀ (t : Tank) (k : Step) (x : SecondInputs) (s : State), s.stopped = false → s.seq.changeover = none →
    (s.tank t).service = .regenerating → (s.tank t.other).service ≠ .regenerating → (s.tank t).step = some k →
    (s.tank t).phase = some .inStep →
    (s.disc.mode = .auto → s.disc.state = .atPosition → s.disc.position = some (stepPosition t k)) →
    ∃ v, exec (.meteringSecond x) s = .next v ∧ (v.tank t).service = .regenerating
      ∧ ((s.tank t).claim = .granted → s.line = { regen := some { granted := true, tank := t, continuation := false } } →
        s.supply.state = .mains → s.valve.state = .opened → s.discFree = true → k ≠ .refill →
        (s.tank t).elapsed + 1 < (s.tank t).recipe.duration k → (v.tank t).step = some k ∧ (v.tank t).phase = some .inStep
          ∧ (v.tank t).elapsed = (s.tank t).elapsed + 1 ∧ (v.tank t).elapsedMin = ((s.tank t).elapsed + 1) / 60)
      ∧ (s.supply.state ≠ .mains ∨ s.valve.state ≠ .opened ∨ s.discFree = false → (v.tank t).step = some k
          ∧ (v.tank t).phase = some .inStep ∧ (v.tank t).elapsed = (s.tank t).elapsed
          ∧ (v.tank t).elapsedMin = (s.tank t).elapsedMin))
  ∧ ∀ (t : Tank) (s : State), s.stopped = false → stepRuns t s = true → (s.tank t.other).service ≠ .regenerating →
    (∀ k, (s.tank t).step = some k → s.disc.position = some (stepPosition t k)) →
    let ended (v : State) : State := changeTank t { s.tank t with phase := some .stepEnded } v
    (stepOver t s = false → exec .stepEnd s = commit s (follow s))
    ∧ (∀ k, (s.tank t).step = some k → k = .backwash ∨ k = .rinse → (s.tank t).recipe.duration k ≤ (s.tank t).elapsed →
        ((s.tank t).halt = false → exec .stepEnd s = commit s (follow (ended s)))
        ∧ ((s.tank t).halt = true → (s.tank t).haltTag = none → exec .stepEnd s
            = commit s (follow (changeTank t { s.tank t with phase := some .halted } s)))
        ∧ (∀ tag, (s.tank t).halt = true → (s.tank t).haltTag = some tag → exec .stepEnd s = commit s (follow
            (requestDone (.tank t) tag 0x10 .done 0 (changeTank t { s.tank t with phase := some .halted, haltTag := none } s)))))
    ∧ (∀ c, (s.tank t).step = some .refill → (s.tank t).halt = false → s.brine.refill = some c →
        let filled (v : State) : State := { v with brine := { s.brine with
          lastRefill := c.volume, refillEnd := s.now, refill := none } }
        ((s.tank t).recipe.refillML ≤ c.volume → exec .stepEnd s
          = commit s (follow (ended (filled (faultGone .refillShort (.tank t) s)))))
        ∧ (c.volume < (s.tank t).recipe.refillML → (s.tank t).recipe.refillLimit ≤ (s.tank t).elapsed → exec .stepEnd s
          = commit s (follow (ended (filled (faultReport .refillShort (.tank t) (c.volume : Int) s))))))
    ∧ (∀ m, (s.tank t).step = some .brine → (s.tank t).halt = false → (s.tank t).recipe.brine ≤ (s.tank t).elapsed →
        s.brine.measure = some m → exec .stepEnd s = commit s (follow (ended { s with brine := { s.brine with
          measure := none
          draw := some { drawn := m.drawn, completeness := m.completeness, saturation := m.saturation } } })))

/-- BRINE_1200 (R73, R95): at 1200 seconds of BRINE the draw is judged once, a draw under a quarter of the planned volume being
BRINE_DRAW_FAIL, and any other reported gone; with nothing planned the test is not made. The level is sampled in each second of a
measurement or a refill count, at each whole minute, and first after a restart (R91): a sample within 0 to 800 mm is the level, lowers the
lowest level of the measurement (R95) and clears the fault mark; any other leaves the level and is reported as LEVEL_SENSOR once. An event
whose condition does not stand has no effect of its own (the model's choice, log entry 4). -/
def Obligations.BrineDrawIsJudged : Prop :=
  (∀ (t : Tank) (m : BrineMeasure) (s : State), s.stopped = false → stepRuns t s = true →
    (s.tank t.other).service ≠ .regenerating → (s.tank t).step = some .brine → s.brine.measure = some m →
    let v := (m.start - m.lowest) * m.area / 10
    let judged : State := { s with brine := { s.brine with measure := some { m with judged := true } } }
    ((s.tank t).elapsed ≠ 1200 ∨ m.judged = true → exec .brine1200 s = commit s (follow s))
    ∧ ((s.tank t).elapsed = 1200 → m.judged = false →
      (m.planned = 0 → exec .brine1200 s = commit s (follow judged))
      ∧ (4 * v < m.planned → exec .brine1200 s = commit s (follow (faultReport .brineDrawFail (.tank m.tank) v judged)))
      ∧ (m.planned ≠ 0 → m.planned ≤ 4 * v → exec .brine1200 s
        = commit s (follow (faultGone .brineDrawFail (.tank m.tank) judged)))))
  ∧ ∀ (x : SecondInputs) (s : State), s.stopped = false → ∃ t, exec (.meteringSecond x) s = .next t ∧
    let b := s.brine
    let n := t.brine
    let of (l : List FaultRecord) : List FaultRecord := l.filter fun f => f.code == .levelSensor && f.subject == .none
    let sampled : Prop := b.measure ≠ none ∨ b.refill ≠ none ∨ s.clock.advance.second % 60 = 0 ∨ b.restartLevel = true
    let good : Prop := 0 ≤ x.level ∧ x.level ≤ 800
    n.restartLevel = false
    ∧ (¬ sampled → n.level = b.level ∧ n.levelFault = b.levelFault ∧ of t.faults.records = of s.faults.records)
    ∧ (sampled → good → n.level = x.level.toNat ∧ n.levelFault = false
      ∧ (b.levelFault = true → ∀ f ∈ of t.faults.records, f.active = false))
    ∧ (sampled → ¬ good → n.level = b.level ∧ n.levelFault = true
      ∧ (b.levelFault = true → of t.faults.records = of s.faults.records)
      ∧ (b.levelFault = false → (∃ f ∈ of t.faults.records, f.active = true ∧ f.detail = x.level) ∨ t.faults.overflow = true))
    ∧ ∀ k m, s.seq.changeover = none → s.seq.due = none → (s.tank k).service = .regenerating →
      (s.tank k.other).service ≠ .regenerating → (s.tank k).step = some .brine → (s.tank k).phase = some .inStep →
      (s.tank k).elapsed + 1 < (s.tank k).recipe.brine → b.measure = some m →
      (good → ∃ j, n.measure = some { m with lowest := min m.lowest x.level.toNat, judged := j })
      ∧ (¬ good → ∃ j, n.measure = some { m with judged := j })

/-- SEQUENCER_MOVE_REQUEST (R62, R63, R70, R74): with the disc free, a changeover's move that waits is asked for; outside a changeover so is
a regeneration's first move, and from STEP_ENDED the move to the next step, or after REFILL to READY. -/
def Obligations.WaitingMovesAreAskedFor : Prop :=
  ∀ s : State, s.stopped = false → s.discFree = true →
    let moves (p : Pos) : Disc := ({ s.disc with target := some (.pos p), requester := some .sequencer } : Disc).start
    (∀ c, s.seq.changeover = some c → c.phase = .toChange → s.supply.state = .mains →
      s.disc.position ≠ some (changePosition c.outgoing) →
      exec .sequencerMoveRequest s = commit s (follow { s with disc := moves (changePosition c.outgoing) }))
    ∧ (∀ c, s.seq.changeover = some c → c.phase = .toHold → s.disc.position ≠ some (holdPosition c.outgoing) →
      exec .sequencerMoveRequest s = commit s (follow { s with disc := moves (holdPosition c.outgoing) }))
    ∧ ∀ t k, s.seq.changeover = none → (s.tank t).service = .regenerating → (s.tank t.other).service ≠ .regenerating →
      (s.tank t).step = some k →
      ((s.tank t).phase = some .toStep → s.disc.position ≠ some (stepPosition t k) →
        exec .sequencerMoveRequest s = commit s (follow { s with disc := moves (stepPosition t k) }))
      ∧ ((s.tank t).phase = some .stepEnded → lineConditions t s = true →
        (∀ n, nextStep k = some n → s.disc.position ≠ some (stepPosition t n) → exec .sequencerMoveRequest s = commit s (follow
          { changeTank t { s.tank t with step := some n, phase := some .toStep, elapsed := 0, elapsedMin := 0 } s with
            disc := moves (stepPosition t n) }))
        ∧ (k = .refill → s.disc.position ≠ some (readyPosition t) → exec .sequencerMoveRequest s = commit s (follow
          { changeTank t { s.tank t with phase := some .toReady } s with disc := moves (readyPosition t) })))

/-- The disc's arrival at READY ends a regeneration (R26, R75, R98): the tank is READY, its credit is floor(floor(rated × L / 1000) × B /
1000) from the latched recipe and the draw figures, the salt drawn leaves the inventory and joins the salt log, and the line is free. -/
def Obligations.RegenerationEnds : Prop :=
  ∀ (t : Tank) (code : BitVec 4) (s : State), s.stopped = false → s.disc.inPlace = false → s.disc.driven = true →
    codePosition code = some (readyPosition t) → s.disc.target = some (.pos (readyPosition t)) →
    s.disc.position = some (readyPosition t - 1) → s.disc.requester = some .sequencer → s.disc.retryTag = none →
    s.disc.retriedFault = none → s.disc.mode = .auto → s.settings.user.soft.discMode = .auto → s.seq.changeover = none →
    s.seq.due = none → (s.tank t).service = .regenerating → (s.tank t).phase = some .toReady → (s.tank t).claim = .granted →
    (s.tank t.other).service ≠ .regenerating →
    s.line = { regen := some { granted := true, tank := t, continuation := false } } →
    ∃ u, exec (.inPlaceSet code) s = commit s (follow u) ∧
      let r := s.record t
      let b : Nat := match s.brine.draw with | some d => min d.completeness d.saturation | none => 0
      let grams : Nat := match s.brine.draw with | some d => d.drawn * 360 * d.saturation / 1000000 | none => 0
      let c : Nat := ratedCapacity (s.tank t).recipe.dose (s.tank t).recipe.vr * r.learned / 1000 * b / 1000
      u.record t = { r with credited := c, remaining := c, consumed := 0, carry := 0, frontSeen := false,
                            hardPosted := false, exhaustionRaised := false }
      ∧ u.record t.other = s.record t.other ∧ u.cap.runs.get t = 0
      ∧ (u.tank t).service = .ready ∧ (u.tank t).step = none ∧ (u.tank t).phase = none ∧ (u.tank t).halt = false
      ∧ (u.tank t).claim = .none ∧ (u.tank t).regenTag = none ∧ u.tank t.other = s.tank t.other
      ∧ u.line = {} ∧ u.brine.draw = none ∧ u.brine.inventory = s.brine.inventory - grams
      ∧ u.brine.log.getLast? = some { grams := grams, stamp := s.now } ∧ u.brine.log.length ≤ max 4 s.brine.log.length
      ∧ u.brine.postDue = some (s.now + 1800) ∧ u.disc.state = .atPosition ∧ u.disc.position = some (readyPosition t)
      ∧ u.settings = s.settings ∧ u.meter = s.meter ∧ u.valve = s.valve ∧ u.filter = s.filter

/-- TANK_CMD REGEN and CHANGEOVER (R77, R78, R173): the tank byte is 0 or 1; REGEN of an EXHAUSTED tank holds its tag and makes it FORCED,
any other state refuses it; CHANGEOVER is refused in the order of its tests, and accepted it begins at once when it can. The model's choice
(log entry 19): the tank byte is judged before the sequencer's state, also while a changeover is under way. -/
def Obligations.TankRegenAndChangeover : Prop :=
  ∀ (svc : Bool) (tag : Byte) (s : State), s.free →
    let w := frameDropped (s.withSvc svc)
    (∀ b : Byte, 1 < b.toNat → exec (.tankCmdRegen tag b svc) s = answers (.tankCmd b 0) tag s w (declined .badValue)
      ∧ exec (.tankCmdChangeover tag b svc) s = answers (.tankCmd b 1) tag s w (declined .badValue))
    ∧ ∀ t : Tank,
      let regen := answers (.tankCmd (tankByte t) 0) tag s
      let change := answers (.tankCmd (tankByte t) 1) tag s
      exec (.tankCmdRegen tag (tankByte t) svc) s = (match (s.tank t).service with
        | .exhausted => if (s.tank t).regenTag.isSome then regen w { status := .busy }
          else regen (follow (w.withTank t { s.tank t with regenTag := some tag, urgent := .forced })) { status := .accepted }
        | .regenerating => regen w { status := .busy }
        | .inService => regen w (declined .inService)
        | .ready => regen w (declined .ready)
        | .faulted => regen w (declined .faulted)
        | .disabled => regen w (declined .disabled))
      ∧ (s.seq.changeover.isSome = true ∨ s.seq.due.isSome = true →
          exec (.tankCmdChangeover tag (tankByte t) svc) s = change w { status := .busy })
      ∧ (s.seq.changeover = none → s.seq.due = none → (s.tank t).service ≠ .inService →
          exec (.tankCmdChangeover tag (tankByte t) svc) s = change w (declined .notInService))
      ∧ (s.seq.changeover = none → s.seq.due = none → (s.tank t).service = .inService → (s.tank t.other).service ≠ .ready →
          exec (.tankCmdChangeover tag (tankByte t) svc) s = change w (declined .notReady))
      ∧ (s.seq.changeover = none → s.seq.due = none → (s.tank t).service = .inService → (s.tank t.other).service = .ready →
          let v := w.withTank t { s.tank t with changeTag := some tag }
          (s.discFree = false ∨ s.supply.state ≠ .mains → exec (.tankCmdChangeover tag (tankByte t) svc) s
            = change (follow { v with seq := { v.seq with due := some t } }) { status := .accepted })
          ∧ (s.discFree = true → s.supply.state = .mains → s.disc.position ≠ some (changePosition t) →
            exec (.tankCmdChangeover tag (tankByte t) svc) s = change (follow { v with
              seq := { v.seq with changeover := some { outgoing := t, phase := .toChange, dwell := 0 } }
              disc := ({ s.disc with target := some (.pos (changePosition t)), requester := some .sequencer } : Disc).start })
              { status := .accepted }))

/-- TANK_CMD HALT, RESUME and SKIP (R79, R80, R173), each by the tank's state and phase; a refusal changes nothing. The model's choice (log
entry 42): where two rows of HALT's table apply, the first is taken, so that a FAULTED tank with its halt request set is BUSY. The model's
choice (log entry 45): a HALT that takes effect at once posts TANK_STATE before its REQUEST_DONE. -/
def Obligations.TankHaltResumeSkip : Prop :=
  ∀ (svc : Bool) (tag : Byte) (s : State), s.free →
    let w := frameDropped (s.withSvc svc)
    (∀ b : Byte, 1 < b.toNat → exec (.tankCmdHalt tag b svc) s = answers (.tankCmd b 2) tag s w (declined .badValue)
      ∧ exec (.tankCmdResume tag b svc) s = answers (.tankCmd b 3) tag s w (declined .badValue)
      ∧ exec (.tankCmdSkip tag b svc) s = answers (.tankCmd b 4) tag s w (declined .badValue))
    ∧ ∀ t : Tank,
      let r := s.tank t
      let halt := answers (.tankCmd (tankByte t) 2) tag s
      let resume := answers (.tankCmd (tankByte t) 3) tag s
      let skip := answers (.tankCmd (tankByte t) 4) tag s
      (r.service = .exhausted → r.halt = false → exec (.tankCmdHalt tag (tankByte t) svc) s = halt (follow
          (requestDone (.tank t) tag 0x10 .done 0 (w.withTank t { r with halt := true }))) { status := .accepted })
      ∧ (r.service = .regenerating → r.phase = some .toStep ∨ r.phase = some .inStep → r.halt = false →
          exec (.tankCmdHalt tag (tankByte t) svc) s
            = halt (follow (w.withTank t { r with halt := true, haltTag := some tag })) { status := .accepted })
      ∧ (r.service = .regenerating → r.phase = some .stepEnded → exec (.tankCmdHalt tag (tankByte t) svc) s = halt (follow
          (requestDone (.tank t) tag 0x10 .done 0 (changeTank t { r with halt := true, phase := some .halted } w)))
          { status := .accepted })
      ∧ (r.service = .regenerating → r.phase = some .toReady →
          exec (.tankCmdHalt tag (tankByte t) svc) s = halt w (declined .ending))
      ∧ (r.service ≠ .exhausted → r.service ≠ .regenerating → r.halt = false → r.phase ≠ some .halted →
          exec (.tankCmdHalt tag (tankByte t) svc) s
            = halt w (if r.service = .faulted then declined .faulted else declined .notRegenerating))
      ∧ (r.service = .exhausted ∧ r.halt = true ∨ r.service = .regenerating ∧ (r.phase = some .halted
          ∨ r.halt = true ∧ (r.phase = some .toStep ∨ r.phase = some .inStep))
          ∨ r.service ≠ .exhausted ∧ r.service ≠ .regenerating ∧ (r.halt = true ∨ r.phase = some .halted) →
          exec (.tankCmdHalt tag (tankByte t) svc) s = halt w { status := .busy })
      ∧ (r.phase = some .halted → exec (.tankCmdResume tag (tankByte t) svc) s
          = resume (follow (changeTank t { r with halt := false, phase := some .stepEnded } w)) { status := .ok })
      ∧ (r.phase ≠ some .halted → r.halt = true → exec (.tankCmdResume tag (tankByte t) svc) s
          = resume (follow (requestDoneIf (.tank t) r.haltTag 0x10 .cancelled 0
              (w.withTank t { r with halt := false, haltTag := none }))) { status := .ok })
      ∧ (r.phase ≠ some .halted → r.halt = false →
          exec (.tankCmdResume tag (tankByte t) svc) s = resume w (declined .notHalted))
      ∧ (r.service = .regenerating → r.phase = some .inStep → exec (.tankCmdSkip tag (tankByte t) svc) s
          = skip (follow (phaseAfter t (stepReported r.step w))) { status := .accepted })
      ∧ (r.service = .regenerating → r.phase = some .inStep → r.step = some .backwash ∨ r.step = some .rinse → r.halt = false →
          exec (.tankCmdSkip tag (tankByte t) svc) s
            = skip (follow (changeTank t { r with phase := some .stepEnded } w)) { status := .accepted })
      ∧ (r.service = .regenerating → r.phase = some .halted →
          exec (.tankCmdSkip tag (tankByte t) svc) s = skip w (declined .halted))
      ∧ (r.service = .regenerating → r.phase ≠ some .halted → r.phase ≠ some .inStep →
          exec (.tankCmdSkip tag (tankByte t) svc) s = skip w { status := .busy })
      ∧ (r.service ≠ .regenerating → exec (.tankCmdSkip tag (tankByte t) svc) s
          = skip w (if r.service = .faulted then declined .faulted else declined .notRegenerating))

/-! ### The brine tank and salt (06_brine_tank_and_salt.md) -/

/-- POST_REGEN_READING (R92, R93, R100, R101, R103, R106): at its due time, with mains present and no brine step under way, a distance of 50
to 1200 mm gives the height and clears the fault mark, and the reading is no longer due; any other distance is SALT_SENSOR, reported once,
and it is tried but still due. A first height, or one 50 mm higher, takes the measured mass as the inventory, and the higher one is
SALT_FILL_SEEN. The bridge reference follows a fall of 10 mm, and 3000 g used since it is SALT_BRIDGE_SUSPECT. The salt state goes by its
table, and a state that has become worse brings a reminder. -/
def Obligations.PostRegenerationReading : Prop :=
  ∀ (x : Int) (d : Nat) (s : State), s.stopped = false → s.supply.state = .mains → s.brine.measure = none →
    s.brine.refill = none → s.brine.postDue = some d → d ≤ s.now → s.brine.postTried = false →
    s.settings.inst.sensorFitted = true →
    let b := s.brine
    (x < 50 ∨ 1200 < x →
      (b.saltFault = true → exec (.postRegenReading x) s = commit s (follow { s with brine := { b with postTried := true } }))
      ∧ (b.saltFault = false → exec (.postRegenReading x) s = commit s (follow (faultReport .saltSensor .none x
        { s with brine := { b with postTried := true, saltFault := true } }))))
    ∧ (50 ≤ x → x ≤ 1200 → ∃ u, exec (.postRegenReading x) s = commit s (follow u) ∧
      let i := s.settings.inst
      let n := u.brine
      let h := i.tankDepth - x.toNat
      let mass := min (i.saltCapacity * 1000) (h * i.brineArea * i.saltDensity / 10000)
      let low := s.settings.user.salt.lowMark
      n.height = some h ∧ n.postDue = none ∧ n.postTried = false ∧ n.saltFault = false
      ∧ u.faults = (if b.saltFault = true then s.faults.gone .saltSensor .none else s.faults)
      ∧ (b.height = none → n.inventory = mass ∧ n.bridge = some { height := h, inventory := mass } ∧ n.bridgePosted = b.bridgePosted)
      ∧ (∀ old, b.height = some old → old + 50 ≤ h → n.inventory = mass ∧ n.bridge = some { height := h, inventory := mass }
        ∧ n.bridgePosted = false ∧ Told .saltFillSeen (mass : Nat) (old : Nat) (h : Nat) s u)
      ∧ (∀ old, b.height = some old → h < old + 50 → n.inventory = b.inventory ∧ n.forecastArmed = b.forecastArmed
        ∧ (b.bridge = none → n.bridge = some { height := h, inventory := b.inventory } ∧ n.bridgePosted = b.bridgePosted)
        ∧ (∀ r, b.bridge = some r → h + 10 ≤ r.height →
          n.bridge = some { height := h, inventory := b.inventory } ∧ n.bridgePosted = false)
        ∧ ∀ r, b.bridge = some r → r.height < h + 10 → n.bridge = some r
          ∧ n.bridgePosted = (b.bridgePosted || decide (b.inventory + 3000 ≤ r.inventory))
          ∧ (b.bridgePosted = false → b.inventory + 3000 ≤ r.inventory →
            Told .saltBridgeSuspect (r.inventory - b.inventory : Nat) (r.height : Nat) (h : Nat) s u))
      ∧ n.salt = (match b.salt with
        | .ok => if h ≤ b.level + 10 then .out else if h ≤ low then .low else .ok
        | .low => if h ≤ b.level + 10 then .out else if low + 40 ≤ h then .ok else .low
        | .out => if b.level + 50 ≤ h ∧ low + 40 ≤ h then .ok else if b.level + 50 ≤ h then .low else .out)
      ∧ (n.salt ≠ b.salt → Told .saltState (saltCode n.salt) (h : Nat) (n.inventory : Nat) s u)
      ∧ (saltCode b.salt < saltCode n.salt → n.lastReminder = s.clock.day
        ∧ Told .saltReminder 0 (saltCode n.salt) (forecastDays (forecast u)) s u)
      ∧ u = { s with brine := u.brine, faults := u.faults, notices := u.notices })

/-- SALT_FILLED (R99): the inventory grows by the grams given, or with all bits set becomes the salt capacity, and never exceeds it; the
bridge reference is taken anew from the last height, also without the sensor, and is none without a height (the model's choice where R99 and
R106 differ, log entry 29). The reply's body is the inventory. With the sensor a reading is owed; without it the salt state goes by its
table of masses (R102), and a state that has become worse brings a reminder (R103). The forecast reminder is armed, and a changed inventory
has the forecast evaluated (R105). The model's choice (log entry 5): it is evaluated after it has been armed, so a forecast within its days
posts the reminder and disarms it, whatever the arming was before. The forecast is the days that the inventory lasts at the use of the salt
log (R104). -/
def Obligations.SaltFilled : Prop :=
  (∀ (svc : Bool) (tag : Byte) (g : BitVec 32) (s : State), s.free → ∃ u,
    exec (.saltFilled tag g svc) s
      = answers (.saltFilled g) tag s (follow u) { status := .ok, body := unsignedField 4 (follow u).brine.inventory } ∧
    let b := s.brine
    let n := u.brine
    let cap := s.settings.inst.saltCapacity * 1000
    let total := if g = 0xFFFFFFFF then cap else min cap (b.inventory + g.toNat)
    let kg := s.settings.user.salt.lowKg
    let ahead := s.settings.user.salt.forecastDays
    n.inventory = total ∧ n.bridge = b.height.map (fun h => { height := h, inventory := total }) ∧ n.bridgePosted = false
    ∧ (s.settings.inst.sensorFitted = true → n.filledReading = true ∧ n.salt = b.salt)
    ∧ (s.settings.inst.sensorFitted = false → n.filledReading = b.filledReading
      ∧ n.salt = (match b.salt with
        | .ok => if total ≤ 1000 then .out else if total ≤ kg * 1000 then .low else .ok
        | .low => if total ≤ 1000 then .out else if (kg + 3) * 1000 ≤ total then .ok else .low
        | .out => if 3000 ≤ total ∧ (kg + 3) * 1000 ≤ total then .ok else if 3000 ≤ total then .low else .out))
    ∧ (saltCode b.salt < saltCode n.salt → n.lastReminder = s.clock.day
      ∧ Told .saltReminder 0 (saltCode n.salt) (forecastDays (forecast u)) s u)
    ∧ (total = b.inventory ∨ ahead = 0 ∨ (∀ d, forecast u = some d → ahead < d) → n.forecastArmed = true)
    ∧ (∀ d, total ≠ b.inventory → ahead ≠ 0 → forecast u = some d → d ≤ ahead →
      n.forecastArmed = false ∧ Told .saltReminder 2 (saltCode n.salt) d s u)
    ∧ u = { frameDropped (s.withSvc svc) with brine := u.brine, notices := u.notices })
  ∧ ∀ s : State, (s.brine.log.length < 2 → forecast s = none)
    ∧ ∀ oldest second rest, s.brine.log = oldest :: second :: rest →
      let used := (s.brine.log.map SaltEntry.grams).sum
      (s.now ≤ oldest.stamp → forecast s = none)
      ∧ (oldest.stamp < s.now → used = 0 → forecast s = some 999)
      ∧ (oldest.stamp < s.now → used ≠ 0 →
        forecast s = some (min 999 (s.brine.inventory * (s.now - oldest.stamp) / (used * 86400))))

/-! ### Filtration (07_filtration.md) -/

/-- Each second samples the three pressure sensors, of which one out of range holds its reading (R108); from the 30th second in a row of
enough inlet flow the index takes a quarter or a sixteenth of the way to the resistance, the acquisition count grows to 60, which sets the
baseline, and the filter state follows (R109, R110, R111). BASELINE_SET (R110, R111, R118) and FLUSH_VOLUME_REACHED (R112): at the end of
acquisition the baseline is the index, the filter state is evaluated and the cartridge's INDEX test made; the second that takes the screen's
volume to the limit puts VOLUME in the due set. Each second adds its treated volume to the screen's and the cartridge's volumes (R112, R118),
moves the quiet count by the house flow (R113), and in FLUSHING adds its process volume and one second to the flush record (R115); a
completed flush clears the screen's volume (R116). CARTRIDGE_DUE is posted once, with reason VOLUME at the second and AGE at the midnight
that find their condition (R118), and MIDNIGHT puts the reasons in the due set that hold at it (R112). An event whose condition does not
stand has no effect of its own (the model's choice, log entry 4). -/
def Obligations.BaselineAndFlushVolume : Prop :=
  (∀ (x : SecondInputs) (s : State), s.stopped = false → ∃ t, exec (.meteringSecond x) s = .next t
    ∧ (let sampled (v : Int) (old : Sensor) : Sensor :=
        if 0 ≤ v ∧ v ≤ 1000 then { reading := v.toNat, held := false } else { old with held := true }
      t.filter.p1 = sampled x.p1 s.filter.p1 ∧ t.filter.p2 = sampled x.p2 s.filter.p2 ∧ t.filter.p3 = sampled x.p3 s.filter.p3)
    ∧ (s.filter.state ≠ .flushing → s.line.flush = none →
      let c := s.settings.user.filter
      let q := t.meter.now.vIn
      let hold := if c.qMin ≤ q ∧ t.filter.p1.held = false ∧ t.filter.p2.held = false then min 30 (s.filter.flowHold + 1) else 0
      let r : Nat := min 999 ((t.filter.p1.reading - t.filter.p2.reading) * s.settings.inst.qRef * s.settings.inst.qRef / (q * q))
      let toward : Int := (s.filter.rs10 : Int)
        + ((10 * r : Nat) - (s.filter.rs10 : Int)).tdiv (if s.filter.acq < 60 then 4 else 16)
      (hold < 30 → t.filter.rs10 = s.filter.rs10 ∧ t.filter.acq = s.filter.acq)
      ∧ (hold = 30 → t.filter.rs10 = toward.toNat ∧ t.filter.acq = (if s.filter.acq < 60 then s.filter.acq + 1 else s.filter.acq)
        ∧ (s.filter.acq = 59 → t.filter.baseline = t.filter.rs10 / 10)
        ∧ (t.filter.state ≠ .flushing → t.filter.state =
          if t.filter.acq < 60 then .clean else if c.blockIndex ≤ t.filter.rs10 / 10 then .blocked
          else if c.flushIndex ≤ t.filter.rs10 / 10 then .loaded else .clean))
      ∧ (t.filter.state ≠ .flushing → t.filter.flowHold = hold))
    ∧ (let f := s.filter
      let g := t.filter
      let m := t.meter.now
      let c := s.settings.user.filter
      let volume := min 4294967295 (f.volume + m.vTr)
      g.cartVolume = min 4294967295 (f.cartVolume + m.vTr)
      ∧ g.quiet = (if m.vH < c.qMin then min 60 (f.quiet + 1) else 0)
      ∧ (f.state ≠ .flushing → g.volume = volume)
      ∧ (f.state = .flushing → s.line.flushGranted = true → f.flush.elapsed + 1 < f.flush.time → g.volume = volume
        ∧ g.flush = { f.flush with elapsed := f.flush.elapsed + 1, volume := f.flush.volume + m.vProc })
      ∧ (f.state = .flushing → f.flush.time ≤ f.flush.elapsed + 1 →
        g.volume = if 1000 ≤ f.flush.volume + m.vProc then 0 else volume)
      ∧ (c.cartVolume ≠ 0 → c.cartVolume * 1000 ≤ g.cartVolume → g.cartDue = true)))
  ∧ (∀ (v q : Nat) (s : State), let limit := s.settings.user.filter.cartVolume
    let n := min 4294967295 (s.filter.cartVolume + v)
    limit ≠ 0 → limit * 1000 ≤ n → s.filter.cartDue = false →
      Told .cartridgeDue 0 (n / 1000 : Nat) (s.filter.cartDays / 30 : Nat) s (screenSecond v q s))
  ∧ (∀ s : State, s.stopped = false → s.clock.midnightDue = true → ∃ u, exec .midnight s = commit s (follow u) ∧
    let c := s.settings.user.filter
    let d := s.filter.due
    let months := min 65535 (s.filter.cartDays + 1) / 30
    let aged : Prop := c.cartMonths ≠ 0 ∧ c.cartMonths ≤ months
    u.filter.cartDue = (s.filter.cartDue || decide aged)
    ∧ (aged → s.filter.cartDue = false → Told .cartridgeDue 1 (s.filter.cartVolume / 1000 : Nat) (months : Nat) s u)
    ∧ u.filter.due = { d with
        loaded := d.loaded || s.filter.state == .loaded
        blocked := d.blocked || s.filter.state == .blocked
        volume := d.volume || decide (c.flushVolume ≠ 0 ∧ c.flushVolume * 1000 ≤ s.filter.volume)
        days := d.days || decide (c.flushDays ≠ 0 ∧ c.flushDays ≤ min 65535 (s.filter.days + 1)) })
  ∧ ∀ s : State, s.stopped = false →
    (s.filter.baselineDue = false → exec .baselineSet s = commit s (follow s))
    ∧ (s.filter.baselineDue = true → s.filter.state ≠ .flushing → ∃ u, exec .baselineSet s = commit s (follow u)
        ∧ (let c := s.settings.user.filter
          let n : FilterState := if s.filter.acq < 60 then .clean else if c.blockIndex ≤ s.filter.rs10 / 10 then .blocked
            else if c.flushIndex ≤ s.filter.rs10 / 10 then .loaded else .clean
          u.filter = { s.filter with
            baseline := s.filter.rs10 / 10, baselineDue := false, state := n
            due := if n = s.filter.state then s.filter.due else { s.filter.due with
              loaded := s.filter.due.loaded || n == .loaded, blocked := s.filter.due.blocked || n == .blocked }
            cartDue := s.filter.cartDue || decide (c.cartIndex ≤ s.filter.rs10 / 10) })
        ∧ u = { s with filter := u.filter, notices := u.notices })
    ∧ (let l := s.settings.user.filter.flushVolume * 1000
      (l = 0 ∨ s.filter.volume < l ∨ l + s.meter.now.vTr ≤ s.filter.volume → exec .flushVolumeReached s = commit s (follow s))
      ∧ (l ≠ 0 → l ≤ s.filter.volume → s.filter.volume < l + s.meter.now.vTr → exec .flushVolumeReached s
        = commit s (follow { s with filter := { s.filter with due := { s.filter.due with volume := true } } })))

/-- FLUSH_CLAIM (R84, R113, R115): BLOCKED or HOST claims the line at once, any other reason after 60 quiet seconds; a free line grants it,
the solenoid opens and the flush begins; BLOCKED raises a pending claim to HIGH. An event whose condition does not stand has no effect of
its own (the model's choice, log entry 4). -/
def Obligations.FlushClaimed : Prop :=
  ∀ s : State, s.stopped = false →
    let d := s.filter.due
    (s.line.flush = none → s.filter.state ≠ .flushing → d.blocked = false → d.host = false → s.filter.quiet ≠ 60 →
      exec .flushClaim s = commit s (follow s))
    ∧ (s.line.flush = none → s.filter.state ≠ .flushing →
      d.blocked = true ∨ d.host = true ∨ (d.loaded = true ∨ d.volume = true ∨ d.days = true) ∧ s.filter.quiet = 60 →
      (s.line = {} → s.supply.state = .mains → s.valve.state = .opened → ∃ u, exec .flushClaim s = commit s (follow u)
        ∧ u.line = { flush := some { granted := true, high := d.blocked } }
        ∧ u.filter = { s.filter with
            state := .flushing, solenoid := true, flowHold := 0
            flush := { elapsed := 0, volume := 0, time := s.settings.user.filter.flushTime, startIndex := s.filter.rs10 / 10 } }
        ∧ u = { s with line := u.line, filter := u.filter, notices := u.notices })
      ∧ (s.line.owner ≠ .none → exec .flushClaim s
        = commit s (follow { s with line := { s.line with flush := some { granted := false, high := d.blocked } } })))
    ∧ (s.line.flush = some { granted := false, high := false } → s.line.owner ≠ .none →
        exec .flushClaim s = commit s (follow (if d.blocked = true then
          { s with line := { s.line with flush := some { granted := false, high := true } } } else s)))

/-- FLUSH_END (R116): a flush at its time ends DONE with at least 1000 mL, which clears the screen's counts, the due set and the acquisition
count, and otherwise NO_FLOW with its fault; the solenoid closes and the line is released either way. A flush is cut when the supply leaves
MAINS or the valve leaves OPEN (R117): the solenoid closes, the filter state is evaluated, the counts and the due set stay, and the line is
free. An event whose condition does not stand has no effect of its own (the model's choice, log entry 4). -/
def Obligations.FlushEnds : Prop :=
  ∀ (hi : Bool) (s : State), s.stopped = false → s.filter.state = .flushing →
    s.line = { flush := some { granted := true, high := hi } } →
    (s.filter.flush.elapsed < s.filter.flush.time → exec .flushEnd s = commit s (follow s))
    ∧ (s.filter.flush.time ≤ s.filter.flush.elapsed → ∃ u, exec .flushEnd s = commit s (follow u) ∧ u.line = {}
      ∧ (1000 ≤ s.filter.flush.volume → u.faults = s.faults.gone .flushNoFlow .none
        ∧ u.filter = { s.filter with
            solenoid := false, volume := 0, days := 0, due := {}, acq := 0, baselineDue := false, state := .clean, tag := none })
      ∧ (s.filter.flush.volume < 1000 → u.faults = s.faults.report .flushNoFlow .none (s.filter.flush.volume : Int) s.now
        ∧ u.filter = { s.filter with
            solenoid := false, due := {}, tag := none, state := evaluatedState s.filter s.settings.user.filter })
      ∧ u = { s with line := u.line, filter := u.filter, faults := u.faults, notices := u.notices })
    ∧ (let cut : Filter := { s.filter with solenoid := false, state := evaluatedState s.filter s.settings.user.filter }
      (s.supply.state = .mains → s.supply.below105 < 10 → s.supply.below114 < 10 → s.leak.test.phase.closes = false →
        ∃ u, exec .mainsLost s = commit s (follow u) ∧ u.supply.state = .battery ∧ u.filter = cut ∧ u.line = {})
      ∧ ∀ (svc : Bool) (tag : Byte), s.free → s.valve.reasons = {} → s.valve.state = .opened → s.pins.closedEnd = false →
        ∃ u, exec (.shutoffCmdClose tag svc) s = answers (.shutoffCmd 0) tag s (follow u)
            { status := .ok, body := unsignedField 1 (reasonsCode (follow u).valve.reasons) }
          ∧ u.valve.state = .closing ∧ u.filter = cut ∧ u.line = {})

/-- FLUSH_CMD (R114) is BUSY while a flush runs or a tag is held, and otherwise holds its tag and puts HOST in the due set; CARTRIDGE_FITTED
(R119) brings the cartridge's counts and the acquisition back to 0. -/
def Obligations.FilterRequests : Prop :=
  ∀ (svc : Bool) (tag : Byte) (s : State), s.free →
    let w := frameDropped (s.withSvc svc)
    exec (.flushCmd tag svc) s = (if s.filter.state = .flushing ∨ s.filter.tag.isSome = true then
        answers .flushCmd tag s w { status := .busy }
      else answers .flushCmd tag s (follow { w with filter := { s.filter with
        tag := some tag, due := { s.filter.due with host := true } } }) { status := .accepted })
    ∧ ∃ u, exec (.cartridgeFitted tag svc) s = answers .cartridgeFitted tag s (follow u) { status := .ok }
      ∧ u.filter = { s.filter with
          cartVolume := 0, cartDays := 0, cartDue := false, acq := 0, baselineDue := false
          state := if s.filter.state = .flushing then .flushing else .clean }
      ∧ u = { w with filter := u.filter, notices := u.notices }

/-! ### Leak detection (08_leak_detection.md) -/

/-- A second's house volume at or above the trickle rate raises the rising count of a QUIET detector, and any other clears it (R122); in an
event it counts seconds and burst seconds, or the gap (R123); a valve that is not OPEN holds the detector QUIET (R125). EVENT_BEGIN and
EVENT_END (R122, R123, R124): three rising seconds begin an event with the threshold set of the leak mode, 3 seconds and the risen volume; a
gap as long as the quiet gap ends it. The trip tests are held back under METER_LOSS. An event whose condition does not stand has no effect
of its own (the model's choice, log entry 4). -/
def Obligations.FlowEventsBeginAndEnd : Prop :=
  (∀ (x : SecondInputs) (s : State), s.stopped = false → ∃ t, exec (.meteringSecond x) s = .next t ∧
    let d := s.leak.detector
    let v := t.meter.now.vH
    let set := thresholdSet s.settings.user.leak
    (s.valve.state ≠ .opened → t.leak.detector = { quiet := min 65535 (d.quiet + 1) })
    ∧ (s.valve.state = .opened → s.valve.exercise = .none → s.line.test = none →
      (d.active = none → v < set.trickle →
        t.leak.detector = { d with quiet := min 65535 (d.quiet + 1), rising := 0, risingVolume := 0 })
      ∧ (d.active = none → set.trickle ≤ v → d.rising < 2 → t.leak.detector
        = { d with quiet := min 65535 (d.quiet + 1), rising := d.rising + 1, risingVolume := d.risingVolume + v })
      ∧ (d.active = none → set.trickle ≤ v → 2 ≤ d.rising →
        t.leak.detector = { active := some set, seconds := 3, volume := d.risingVolume + v })
      ∧ ∀ on, d.active = some on →
        let flow : Detector := { d with
          volume := min 4294967295 (d.volume + v), burst := if on.burstRate ≤ v then min 65535 (d.burst + 1) else 0 }
        (on.trickle ≤ v → 0 < s.settings.user.leak.quietGap →
          t.leak.detector = { flow with seconds := min 65535 (d.seconds + 1), gap := 0 })
        ∧ (v < on.trickle → t.leak.detector = if s.settings.user.leak.quietGap ≤ min 300 (d.gap + 1) then {}
          else { flow with gap := min 300 (d.gap + 1) })))
  ∧ ∀ s : State, s.stopped = false →
    let d := s.leak.detector
    let set := thresholdSet s.settings.user.leak
    let begun : State := { s with leak := { s.leak with detector :=
      { active := some set, seconds := 3, volume := d.risingVolume } } }
    (d.active ≠ none ∨ d.rising < 3 → exec .eventBegin s = commit s (follow s))
    ∧ (d.active = none → 3 ≤ d.rising → s.meter.cond.lossActive = true → exec .eventBegin s = commit s (follow begun))
    ∧ (d.active = none → 3 ≤ d.rising → s.meter.cond.lossActive = false → 3 < set.continuous →
        d.risingVolume / 1000 < set.volume → 0 < set.burstTime → exec .eventBegin s = commit s (follow begun))
    ∧ (d.active = none ∨ d.gap < s.settings.user.leak.quietGap → exec .eventEnd s = commit s (follow s))
    ∧ (d.active ≠ none → s.settings.user.leak.quietGap ≤ d.gap → exec .eventEnd s
        = commit s (follow { s with leak := { s.leak with detector := {} } }))

/-- FLOW_TRIP (R124, R128, R129): a flow event as long as CONTINUOUS allows, of the VOLUME, or with a BURST as long as allowed, latches that
cause with its time, detail and litres; a second cause joins the latch, and causes of one second are latched in that order; under the leak
action CLOSE a first cause closes the valve, and under NOTIFY it does not. An event whose condition does not stand has no effect of its own
(the model's choice, log entry 4). -/
def Obligations.FlowTripLatches : Prop :=
  ∀ (set : Thresholds) (s : State), s.stopped = false → s.leak.detector.active = some set → s.leak.test.phase = .idle →
    let d := s.leak.detector
    let long := set.continuous ≤ d.seconds
    let large := set.volume ≤ d.volume / 1000
    let fast := set.burstTime ≤ d.burst
    (s.meter.cond.lossActive = true ∨ ¬ long ∧ ¬ large ∧ ¬ fast → exec .flowTrip s = commit s (follow s))
    ∧ (∀ (c : Cause) (detail : Nat), s.meter.cond.lossActive = false →
      c = .continuous ∧ detail = d.seconds ∧ long ∧ ¬ large ∧ ¬ fast
        ∨ c = .volume ∧ detail = d.volume / 1000 ∧ ¬ long ∧ large ∧ ¬ fast
        ∨ c = .burst ∧ detail = d.burst ∧ ¬ long ∧ ¬ large ∧ fast →
      (s.leak.latch = none →
        let trip : Trip := { first := c, time := s.now, detail := detail, further := [], litres := d.volume / 1000 }
        let told := post .leakTrip .none (causeCode c) detail (d.volume / 1000 : Nat)
          { s with leak := { s.leak with latch := some trip } }
        (s.settings.user.leak.action = .notify → exec .flowTrip s = commit s (follow told))
        ∧ (s.settings.user.leak.action = .close → s.valve.reasons = {} → s.valve.state = .opened → s.pins.closedEnd = false →
          ∃ u, exec .flowTrip s = commit s (follow u) ∧ u.leak = told.leak ∧ u.valve.reasons = { trip := true }
            ∧ u.valve.state = .closing ∧ u.valve.drive = .toClosed ∧ u.pins = s.pins
            ∧ u.settings = s.settings ∧ u.meter = s.meter ∧ u.seq = s.seq ∧ u.disc = s.disc))
      ∧ (∀ l, s.leak.latch = some l → l.first ≠ c → c ∉ l.further → exec .flowTrip s = commit s (follow
          (post .leakTrip .none (causeCode c) detail l.litres { s with leak := { s.leak with
            latch := some { l with further := l.further ++ [c] } } })))
      ∧ (∀ l, s.leak.latch = some l → l.first = c ∨ c ∈ l.further → exec .flowTrip s = commit s (follow s)))
    ∧ (s.meter.cond.lossActive = false → long → large → fast → s.leak.latch = none → ∃ u, exec .flowTrip s = commit s (follow u)
      ∧ u.leak.latch = some
        { first := .continuous, time := s.now, detail := d.seconds, further := [.volume, .burst], litres := d.volume / 1000 })

/-- TEST_DUE (R132, R134, R135, R138): the nightly test is SKIPPED by the first of its preconditions that fails, NOT_QUIET within 1800
seconds of an event, TRIP, ON_BATTERY or SHUTOFF_CLOSED, and TEST_RESULT says so; otherwise it claims the line, and on a free line the valve
begins to close under TEST. An event whose condition does not stand has no effect of its own (the model's choice, log entry 4). -/
def Obligations.NightlyTestIsDue : Prop :=
  ∀ s : State, s.stopped = false →
    (s.leak.testDue = false → exec .testDue s = commit s (follow s))
    ∧ (s.leak.testDue = true → s.leak.test.phase ≠ .idle →
        exec .testDue s = commit s (follow { s with leak := { s.leak with testDue := false } }))
    ∧ (s.leak.testDue = true → s.leak.test.phase = .idle →
      let loud : Prop := s.leak.detector.active.isSome = true ∨ s.leak.detector.quiet < 1800
      let failed (n : Nat) : Prop :=
        loud ∧ n = 0 ∨ ¬ loud ∧ s.leak.latch ≠ none ∧ n = 1
        ∨ ¬ loud ∧ s.leak.latch = none ∧ s.supply.state ≠ .mains ∧ n = 2
        ∨ ¬ loud ∧ s.leak.latch = none ∧ s.supply.state = .mains ∧ s.valve.state ≠ .opened ∧ n = 3
      (∀ n, failed n → ∃ u, exec .testDue s = commit s (follow u)
        ∧ u.leak = { s.leak with
            testDue := false, test := {}, record := { s.leak.record with
              result := some .skipped, time := s.now, p0 := 0, decay := 0 } }
        ∧ u.line = s.line ∧ u.valve.state = s.valve.state ∧ u.valve.reasons = s.valve.reasons
        ∧ Told .testResult 2 (n : Nat) 0 s u)
      ∧ (¬ loud → s.leak.latch = none → s.supply.state = .mains → s.valve.state = .opened →
        (s.line = {} → s.valve.reasons = {} → s.pins.closedEnd = false → ∃ u, exec .testDue s = commit s (follow u)
          ∧ (let c := s.settings.user.leak
            u.leak = { s.leak with
              testDue := false, test := { phase := .closing, duration := c.testDuration, decay := c.testDecay, draw := c.drawDrop } })
          ∧ u.line = { test := some { granted := true } } ∧ u.valve.reasons = { test := true }
          ∧ u.valve.state = .closing ∧ u.valve.drive = .toClosed)
        ∧ (s.line.owner ≠ .none → s.line.test = none → exec .testDue s = commit s (follow { s with
          leak := { s.leak with testDue := false, test := { phase := .claiming } }
          line := { s.line with test := some { granted := false } } }))))

/-- CLAIM_WAIT_EXPIRY, TEST_SETTLE, HOLD_BEGIN and HOLD_END (R134 to R139): 1800 seconds of waiting skip the test; a CLOSED valve settles
it; ten seconds later it holds from P3, or is abandoned on a held sensor; and at its duration the decay makes it PASS or MICROLEAK, with the
count of microleaks back at 0 or one more. A second of HOLD takes P3 into the window of 21 readings; a sample out of range abandons the test
with SENSOR, and a fall in the window of more than the draw drop with DRAW (R108, R136, R137). A cause latched in any phase abandons the
test with TRIP, as POD_LOST does under its action CLOSE; in CLOSING, SETTLE and HOLD a supply that leaves MAINS does with SUPPLY, and a
valve that becomes STUCK with VALVE (R137). Each result is told by TEST_RESULT (R138). From the third MICROLEAK on the MICROLEAK notice is
posted, and under the microleak action CLOSE the cause is latched (R139, R128). The model's choice (log entry 43): a test abandoned in HOLD
records its P0, with a decay of 0. An event whose condition does not stand has no effect of its own (the model's choice, log entry 4). -/
def Obligations.PressureTestPhases : Prop :=
  (∀ s : State, s.stopped = false →
    let t := s.leak.test
    (t.phase = .claiming → 1800 ≤ t.wait → s.line.test = some { granted := false } →
        ∃ u, exec .claimWaitExpiry s = commit s (follow u) ∧ u.leak.test = {} ∧ u.line = { s.line with test := none }
          ∧ u.leak.record = { s.leak.record with result := some .skipped, time := s.now, p0 := t.p0, decay := 0 }
          ∧ u.leak.latch = s.leak.latch ∧ u.valve.reasons = s.valve.reasons ∧ u.valve.state = s.valve.state
          ∧ Told .testResult 2 4 (t.p0 : Nat) s u)
    ∧ (t.phase ≠ .claiming ∨ t.wait < 1800 → exec .claimWaitExpiry s = commit s (follow s))
    ∧ (t.phase = .closing → s.valve.state = .closed → exec .testSettle s
        = commit s (follow { s with leak := { s.leak with test := { t with phase := .settle, settle := 0 } } }))
    ∧ (t.phase ≠ .closing ∨ s.valve.state ≠ .closed → exec .testSettle s = commit s (follow s))
    ∧ (t.phase = .settle → 10 ≤ t.settle → s.filter.p3.held = false → exec .holdBegin s
        = commit s (follow { s with leak := { s.leak with test := { t with
            phase := .hold, hold := 0, p0 := s.filter.p3.reading, window := [s.filter.p3.reading] } } }))
    ∧ (t.phase = .settle → 10 ≤ t.settle → s.filter.p3.held = true → ∃ u, exec .holdBegin s = commit s (follow u)
        ∧ u.leak.test = {} ∧ u.valve.reasons = { s.valve.reasons with test := false }
        ∧ u.leak.record = { s.leak.record with result := some .abandoned, time := s.now, p0 := t.p0, decay := 0 })
    ∧ (t.phase ≠ .settle ∨ t.settle < 10 → exec .holdBegin s = commit s (follow s))
    ∧ (t.phase = .hold → t.duration ≤ t.hold → ∃ u, exec .holdEnd s = commit s (follow u)
        ∧ (let decay : Int := (t.p0 : Int) - (t.window.getLast?.getD t.p0 : Nat)
          u.leak.test = {} ∧ u.valve.reasons.test = false
          ∧ u.leak.record = (if (t.decay : Int) ≤ decay then
              { result := some .microleak, time := s.now, p0 := t.p0, decay := decay,
                microleaks := min 255 (s.leak.record.microleaks + 1) }
            else { result := some .pass, time := s.now, p0 := t.p0, decay := decay, microleaks := 0 })
          ∧ Told .testResult (if (t.decay : Int) ≤ decay then 1 else 0) decay (t.p0 : Nat) s u
          ∧ (let n := min 255 (s.leak.record.microleaks + 1)
            let leak : Prop := (t.decay : Int) ≤ decay ∧ 3 ≤ n
            let c := s.settings.user.leak
            (leak → Told .microleak (n : Nat) decay (t.p0 : Nat) s u)
            ∧ (¬ leak ∨ c.microleakAction ≠ .close → u.leak.latch = s.leak.latch)
            ∧ (leak → c.microleakAction = .close →
              (s.leak.latch = none → u.leak.latch = some {
                first := .microleak, time := s.now, detail := decay, further := []
                litres := if s.leak.detector.active.isSome then s.leak.detector.volume / 1000 else 0 }
                ∧ (c.action = .close → u.valve.reasons.trip = true))
              ∧ (∀ l, s.leak.latch = some l → u.leak.latch =
                some (if l.first = .microleak ∨ .microleak ∈ l.further then l else { l with further := l.further ++ [.microleak] }))))))
    ∧ (t.phase ≠ .hold ∨ t.hold < t.duration → exec .holdEnd s = commit s (follow s)))
  ∧ (∀ (x : SecondInputs) (s : State), s.stopped = false → s.leak.test.phase = .hold → s.valve.state = .closed →
    s.pins.openEnd = false → s.supply.state = .mains →
    s.settings.user.leak.testMinute = 1440 ∨ s.clock.advance.second ≠ s.settings.user.leak.testMinute * 60 →
    ∃ t, exec (.meteringSecond x) s = .next t ∧
      let r := s.leak.test
      let window := r.window.drop (r.window.length - 20) ++ [x.p3.toNat]
      let abandoned : Prop := t.leak.test = {} ∧ t.valve.reasons.test = false
        ∧ t.leak.record = { s.leak.record with result := some .abandoned, time := t.now, p0 := r.p0, decay := 0 }
      (x.p3 < 0 ∨ 1000 < x.p3 → abandoned)
      ∧ (0 ≤ x.p3 → x.p3 ≤ 1000 →
        ((∃ p ∈ window, r.draw + x.p3.toNat < p) → abandoned)
        ∧ ((∀ p ∈ window, p ≤ r.draw + x.p3.toNat) → r.hold + 1 < r.duration →
          t.leak.test = { r with window := window, hold := r.hold + 1 } ∧ t.leak.record = s.leak.record)))
  ∧ (∀ s : State, s.stopped = false → s.leak.test.phase ≠ .idle →
    let r := s.leak.test
    let abandoned (n : Nat) (u : State) : Prop := u.leak.test = {} ∧ (r.phase.closes = true → u.valve.reasons.test = false)
      ∧ u.leak.record = { s.leak.record with result := some .abandoned, time := s.now, p0 := r.p0, decay := 0 }
      ∧ Told .testResult 3 n (r.p0 : Nat) s u
    (∀ c detail, latched c s = false → abandoned 1 (latchCause c detail s))
    ∧ (∀ n, (s.slot n).state = .active ∨ (s.slot n).state = .missing → 10 ≤ (s.slot n).missed →
        s.settings.user.leak.podLostAction = .close → latched (.podLost n) s = false →
        ∃ u, exec (.podLost n) s = commit s (follow u) ∧ abandoned 1 u)
    ∧ (r.phase.closes = true → s.supply.state = .mains → s.supply.below105 < 10 →
        ∃ u, exec .mainsLost s = commit s (follow u) ∧ abandoned 5 u)
    ∧ (r.phase.closes = true → s.pins.bothMade = false →
        ∃ u, exec .shutoffSwitch s = commit s (follow u) ∧ abandoned 6 u ∧ u.valve.state = .stuck)
    ∧ (∀ e, r.phase.closes = true → s.valve.drive = driveTo e → s.valve.second = true → s.valve.exercise ≠ .closeRun →
        (∃ u, exec .valveTravelLimit s = commit s (follow u) ∧ abandoned 6 u ∧ u.valve.state = .stuck)
        ∧ ∃ u, exec .valveOvercurrent s = commit s (follow u) ∧ abandoned 6 u ∧ u.valve.state = .stuck))
  ∧ ∀ s : State, s.leak.test.phase = .hold → s.valve.state = .closed → s.pins.openEnd = false →
    let r := s.leak.test
    (s.filter.p3.held = true → Told .testResult 3 7 (r.p0 : Nat) s (testSecond s))
    ∧ (s.filter.p3.held = false → (∃ p ∈ r.window.drop (r.window.length - 20), r.draw + s.filter.p3.reading < p) →
      Told .testResult 3 8 (r.p0 : Nat) s (testSecond s))

/-- LEAK_RESET (R130) and PRESSURE_TEST (R133), with the refusals in their order; an accepted reset clears the latch and the detector and
takes TRIP from the close-reason set, and KEEP_CLOSED puts HOST there. The model's choice (log entry 19): an option byte above 1 is
BAD_VALUE before the tests of STILL_WET and NO_TRIP. -/
def Obligations.LeakRequests : Prop :=
  ∀ (svc : Bool) (tag o : Byte) (s : State), s.free →
    let w := frameDropped (s.withSvc svc)
    (1 < o.toNat → exec (.leakReset tag o svc) s = answers (.leakReset o) tag s w (declined .badValue))
    ∧ (o.toNat ≤ 1 → anyWetGuarded s = true → exec (.leakReset tag o svc) s = answers (.leakReset o) tag s w (declined .stillWet))
    ∧ (o.toNat ≤ 1 → anyWetGuarded s = false → s.leak.latch = none →
        exec (.leakReset tag o svc) s = answers (.leakReset o) tag s w (declined .noTrip))
    ∧ (∀ l, o.toNat ≤ 1 → anyWetGuarded s = false → s.leak.latch = some l →
        ∃ u, exec (.leakReset tag o svc) s = answers (.leakReset o) tag s (follow u) { status := .ok }
          ∧ u.leak.latch = none ∧ u.leak.detector = {} ∧ u.valve.reasons.trip = false
          ∧ u.valve.reasons.host = (s.valve.reasons.host || o.toNat == 1)
          ∧ u.settings = s.settings ∧ u.meter = s.meter ∧ u.supply = s.supply ∧ u.pods = s.pods)
    ∧ (s.leak.test.phase ≠ .idle → exec (.pressureTest tag svc) s = answers .pressureTest tag s w { status := .busy })
    ∧ (s.leak.test.phase = .idle → s.leak.latch ≠ none → exec (.pressureTest tag svc) s = answers .pressureTest tag s w (declined .trip))
    ∧ (s.leak.test.phase = .idle → s.leak.latch = none → s.supply.state ≠ .mains →
        exec (.pressureTest tag svc) s = answers .pressureTest tag s w (declined .onBattery))
    ∧ (s.leak.test.phase = .idle → s.leak.latch = none → s.supply.state = .mains → s.valve.state ≠ .opened →
        exec (.pressureTest tag svc) s = answers .pressureTest tag s w (declined .shutoffClosed))
    ∧ (s.leak.test.phase = .idle → s.leak.latch = none → s.supply.state = .mains → s.valve.state = .opened →
        s.line.owner ≠ .none → s.line.test = none → exec (.pressureTest tag svc) s = answers .pressureTest tag s (follow { w with
          leak := { s.leak with test := { phase := .claiming, tag := some tag } }
          line := { s.line with test := some { granted := false } } }) { status := .accepted })

/-! ### The shutoff valve (09_shutoff_valve_and_backup_supply.md) -/

/-- END_SWITCH_ARRIVAL (R143, R148): the switch of the end a travel is driven toward ends it: the motor stops, the valve is OPEN or CLOSED,
and a SHUTOFF_CMD tag is no longer held at the target's end. A SHUTOFF_STUCK record is reported gone after a second attempt, or when the
valve had been STUCK before a RETRY. An arrival at OPEN brings the arbiter's decision (R86), the sequencer's claim entered before it (log
entry 44). A switch that no drive reaches for only makes its level, or with the other switch made is SHUTOFF_SWITCH (R146). The model's
choice (log entry 21): by the arrival the switch of the other end is open. -/
def Obligations.TravelArrives : Prop :=
  ∀ (e : ValveEnd) (s : State), s.stopped = false → s.pins.switch e = false →
    (driveEnd s.valve.drive ≠ some e ∨ s.valve.exercise = .closeRun →
      (s.pins.switch (otherEnd e) = false →
        exec (.endSwitchArrival e) s = commit s (follow { s with pins := s.pins.withSwitch e true }))
      ∧ (s.pins.switch (otherEnd e) = true → exec (.endSwitchArrival e) s = exec .shutoffSwitch s))
    ∧ (driveEnd s.valve.drive = some e → s.valve.exercise ≠ .closeRun → s.valve.state = travelState e →
      ∃ u, exec (.endSwitchArrival e) s = commit s (follow (if e = .openEnd then changeDecision u else u))
        ∧ u.valve.state = restState e ∧ u.valve.drive = .stopped ∧ u.valve.pause = .none ∧ u.valve.second = false
        ∧ u.valve.retried = false ∧ u.pins = (s.pins.withSwitch e true).withSwitch (otherEnd e) false
        ∧ u.valve.reasons = s.valve.reasons
        ∧ u.valve.tag = (if s.targetEnd = e then none else s.valve.tag)
        ∧ u.faults = (if s.valve.second || s.valve.retried then s.faults.gone .shutoffStuck .none else s.faults)
        ∧ u = { s with valve := u.valve, pins := u.pins, faults := u.faults, notices := u.notices })

/-- VALVE_TRAVEL_LIMIT and VALVE_OVERCURRENT (R144): a first attempt that fails stops the motor and waits the retry pause; a second one
leaves the valve STUCK with SHUTOFF_STUCK, whose detail names the direction and the failure. An event whose condition does not stand has no
effect of its own (the model's choice, log entry 4). -/
def Obligations.AttemptsFail : Prop :=
  ∀ (e : ValveEnd) (s : State), s.stopped = false → s.valve.exercise ≠ .closeRun →
    (s.valve.drive = .stopped → exec .valveTravelLimit s = commit s (follow s) ∧ exec .valveOvercurrent s = commit s (follow s))
    ∧ (s.valve.drive = driveTo e → s.valve.second = false →
      exec .valveTravelLimit s = commit s (follow { s with valve := { s.valve with
        travel := s.settings.inst.travelLimit, second := true, drive := .stopped, pause := .retry } })
      ∧ exec .valveOvercurrent s = commit s (follow { s with valve := { s.valve with
        overcurrent := 500, second := true, drive := .stopped, pause := .retry } }))
    ∧ (s.valve.drive = driveTo e → s.valve.second = true → s.valve.state = travelState e → s.leak.test.phase.closes = false →
      let base : Nat := match e with | .closedEnd => 1 | .openEnd => 3
      (∃ u, exec .valveTravelLimit s = commit s (follow u)
        ∧ u.valve.state = .stuck ∧ u.valve.stuck = some (.stuck base) ∧ u.valve.drive = .stopped ∧ u.valve.second = false
        ∧ u.valve.tag = none ∧ u.valve.reasons = s.valve.reasons
        ∧ u.faults = s.faults.report .shutoffStuck .none (base : Int) s.now
        ∧ u = { s with valve := u.valve, faults := u.faults, notices := u.notices })
      ∧ (∃ u, exec .valveOvercurrent s = commit s (follow u)
        ∧ u.valve.state = .stuck ∧ u.valve.stuck = some (.stuck (base + 1)) ∧ u.valve.drive = .stopped ∧ u.valve.second = false
        ∧ u.valve.tag = none ∧ u.valve.reasons = s.valve.reasons
        ∧ u.faults = s.faults.report .shutoffStuck .none ((base + 1 : Nat) : Int) s.now
        ∧ u = { s with valve := u.valve, faults := u.faults, notices := u.notices }))

/-- VALVE_PAUSE_END (R143, R144, R145, R150): after a pause the motor is driven toward the target, its times from 0; at a switch already made
the travel arrives at once without being driven. An event whose condition does not stand has no effect of its own (the model's choice, log
entry 4). -/
def Obligations.PausesEnd : Prop :=
  ∀ s : State, s.stopped = false →
    let e := s.targetEnd
    (s.valve.pause = .none → exec .valvePauseEnd s = commit s (follow s))
    ∧ (s.valve.pause ≠ .none → s.pins.switch e = false → s.valve.state ≠ .opened → ∃ u,
        exec .valvePauseEnd s = commit s (follow u)
        ∧ u.valve = { s.valve with
            state := travelState e, drive := driveTo e, pause := .none, travel := 0, overcurrent := 0 }
        ∧ u = { s with valve := u.valve, notices := u.notices })
    ∧ (s.valve.pause ≠ .none → s.pins.switch e = true → s.valve.state = travelState e → s.line = {} → ∃ u,
        exec .valvePauseEnd s = commit s (follow u)
        ∧ u.valve.state = restState e ∧ u.valve.drive = .stopped ∧ u.valve.pause = .none ∧ u.valve.second = false
        ∧ u.valve.tag = none ∧ u.valve.reasons = s.valve.reasons ∧ u.pins = s.pins)

/-- SHUTOFF_SWITCH and END_SWITCH_RELEASE (R146, R143): both end switches made leave the valve STUCK with the state before the fault as its
detail; the release of a resting valve's own switch, the other one open, starts a travel to the target. An event whose condition does not
stand has no effect of its own (the model's choice, log entry 4). -/
def Obligations.EndSwitchesDisagree : Prop :=
  ∀ s : State, s.stopped = false →
    (s.pins.openEnd = true → s.pins.closedEnd = true → exec .shutoffSwitch s = commit s (follow s))
    ∧ (s.pins.bothMade = false → s.leak.test.phase.closes = false →
      ∃ u, exec .shutoffSwitch s = commit s (follow u)
        ∧ u.valve.state = .stuck ∧ u.valve.stuck = some .switch ∧ u.valve.drive = .stopped ∧ u.valve.pause = .none
        ∧ u.valve.tag = none ∧ u.pins = { s.pins with openEnd := true, closedEnd := true }
        ∧ u.faults = s.faults.report .shutoffSwitch .none (valveCode s.valve.state : Int) s.now
        ∧ u = { s with
            valve := u.valve, pins := u.pins, faults := u.faults, notices := u.notices, filter := u.filter, line := u.line })
    ∧ ∀ e : ValveEnd, s.valve.exercise ≠ .closeRun →
      (s.valve.state ≠ restState e ∨ s.pins.switch (otherEnd e) = true → exec (.endSwitchRelease e) s
        = commit s (follow { s with pins := s.pins.withSwitch e false }))
      ∧ (s.valve.state = restState e → s.pins.switch (otherEnd e) = false → ∃ u, exec (.endSwitchRelease e) s = commit s (follow u)
        ∧ u.valve = { s.valve with
            state := travelState s.targetEnd, drive := driveTo s.targetEnd, pause := .none, second := false, retried := false
            travel := 0, overcurrent := 0 }
        ∧ u.pins = { s.pins with openEnd := false, closedEnd := false })

/-- EXERCISE_CUE, EXERCISE_START, EXERCISE_ARMED_EXPIRY, CLOSE_RUN_END and OPEN_END_RELEASE_IN_RUN (R149, R150): the due exercise is armed,
starts a CLOSE_RUN when its conditions hold, is given up after 1800 seconds, notes the release of OPEN_END, and at the end of the run has
passed, or is SHUTOFF_SEIZED with the drive time as detail; the OPEN_RUN waits the reversal pause. An event whose condition does not stand
has no effect of its own (the model's choice, log entry 4). -/
def Obligations.ExerciseRuns : Prop :=
  ∀ (ms : Nat) (s : State), s.stopped = false →
    let v := s.valve
    (v.exercise = .none → s.settings.user.leak.exerciseDays ≠ 0 → s.settings.user.leak.exerciseDays ≤ v.exerciseDays →
      exec .exerciseCue s = commit s (follow { s with valve := { v with exercise := .armed, exerciseTime := 0 } }))
    ∧ (v.exercise ≠ .none ∨ s.settings.user.leak.exerciseDays = 0 ∨ v.exerciseDays < s.settings.user.leak.exerciseDays →
      exec .exerciseCue s = commit s (follow s))
    ∧ (v.exercise ≠ .armed → exec .exerciseStart s = commit s (follow s) ∧ exec .exerciseArmedExpiry s = commit s (follow s))
    ∧ (v.exercise = .armed → s.settings.user.leak.exerciseDays ≠ 0 → s.settings.user.leak.exerciseDays ≤ v.exerciseDays →
      v.state = .opened → v.reasons = {} → s.meter.now.vIn = 0 → s.supply.state = .mains → s.filter.state ≠ .flushing →
      ∃ u, exec .exerciseStart s = commit s (follow u)
        ∧ u.valve = { v with
            state := .closing, exercise := .closeRun, exerciseTime := 0, released := false, drive := .toClosed, pause := .none
            second := false, travel := 0, overcurrent := 0 }
        ∧ u = { s with valve := u.valve, notices := u.notices })
    ∧ (v.exercise = .armed → 1800 ≤ v.exerciseTime →
      exec .exerciseArmedExpiry s = commit s (follow { s with valve := { v with exercise := .none } }))
    ∧ (v.exercise ≠ .closeRun → exec (.closeRunEnd ms) s = commit s (follow s) ∧ exec .openEndReleaseInRun s = commit s (follow s))
    ∧ (v.exercise = .closeRun →
      let run : Valve := { v with
        drive := .stopped, pause := .reversal, second := false, exercise := .openRun, exerciseTime := ms }
      exec .openEndReleaseInRun s
        = commit s (follow { s with pins := { s.pins with openEnd := false }, valve := { v with released := true } })
      ∧ (v.released = true → exec (.closeRunEnd ms) s = commit s (follow
          (faultGone .shutoffSeized .none { s with valve := { run with exerciseDays := 0 } })))
      ∧ (v.released = false → exec (.closeRunEnd ms) s = commit s (follow
          (faultReport .shutoffSeized .none ms { s with valve := run }))))

/-- SHUTOFF_CMD (R142, R143, R147, R148): CLOSE puts HOST in the close-reason set and an OPEN valve begins to close; OPEN takes HOST from it
and a CLOSED valve with no reason left begins to open; RETRY is for a STUCK valve, which makes one attempt. The reply's body is the set. -/
def Obligations.ShutoffRequests : Prop :=
  ∀ (svc : Bool) (tag : Byte) (s : State), s.free →
    (∃ u, exec (.shutoffCmdClose tag svc) s
        = answers (.shutoffCmd 0) tag s (follow u) { status := .ok, body := unsignedField 1 (reasonsCode (follow u).valve.reasons) }
      ∧ u.valve.reasons = { s.valve.reasons with host := true }
      ∧ (s.valve.reasons = {} → s.valve.state = .opened → s.pins.closedEnd = false →
          u.valve.state = .closing ∧ u.valve.drive = .toClosed ∧ u.valve.tag = some tag ∧ u.pins = { s.pins with svc := svc })
      ∧ (s.valve.state = .closed → u.valve.state = .closed ∧ u.valve.tag = none))
    ∧ (∃ u, exec (.shutoffCmdOpen tag svc) s
        = answers (.shutoffCmd 1) tag s (follow u) { status := .ok, body := unsignedField 1 (reasonsCode (follow u).valve.reasons) }
      ∧ u.valve.reasons.host = false
      ∧ (s.valve.reasons = { host := true } → s.valve.state = .closed → s.pins.openEnd = false →
          u.valve.state = .opening ∧ u.valve.drive = .toOpen ∧ u.valve.tag = some tag ∧ u.pins = { s.pins with svc := svc })
      ∧ (s.valve.reasons = { host := true, trip := true } → s.valve.state = .closed → u.valve.state = .closed))
    ∧ (s.valve.state ≠ .stuck →
        exec (.shutoffCmdRetry tag svc) s = answers (.shutoffCmd 2) tag s (frameDropped (s.withSvc svc)) (declined .notStuck))
    ∧ (s.valve.state = .stuck → s.pins.switch s.targetEnd = false →
        ∃ u, exec (.shutoffCmdRetry tag svc) s = answers (.shutoffCmd 2) tag s (follow u) { status := .accepted }
          ∧ u.valve = { s.valve with
              state := travelState s.targetEnd, drive := driveTo s.targetEnd, second := true, retried := true, stuck := none, pause := .none
              travel := 0, overcurrent := 0, tag := some tag }
          ∧ u = { frameDropped (s.withSvc svc) with valve := u.valve, notices := u.notices })

/-! ### The supply (09_shutoff_valve_and_backup_supply.md, section 9.5) -/

/-- MAINS_LOST and MAINS_RETURNED (R151, R152, R153): the loss goes to BATTERY, BATTERY_LOW or SHUTDOWN by the steady voltage; the return of
mains goes to MAINS, and LOW_BATTERY leaves the close-reason set. -/
def Obligations.MainsComesAndGoes : Prop :=
  ∀ s : State, s.stopped = false →
    (s.supply.state ≠ .mains →
      exec .mainsLost s = commit s (follow { s with pins := { s.pins with mains := false } }))
    ∧ (s.supply.state = .mains → ∃ u, exec .mainsLost s = commit s (follow u)
        ∧ (let n : SupplyState := if 10 ≤ s.supply.below105 then .shutdown else if 10 ≤ s.supply.below114 then .batteryLow
            else .battery
          u.supply = { s.supply with state := n } ∧ (n = .shutdown → u.valve.drive = .stopped ∧ u.filter.solenoid = false
            ∧ u.notices = {} ∧ u.attention = false ∧ u.discMotor = .off))
        ∧ u.pins.mains = false ∧ u.settings = s.settings ∧ u.meter = s.meter ∧ u.seq = s.seq ∧ u.disc = s.disc
        ∧ u.leak.latch = s.leak.latch ∧ u.clock = s.clock)
    ∧ (s.supply.state = .mains →
        exec .mainsReturned s = commit s (follow { s with pins := { s.pins with mains := true } }))
    ∧ (s.supply.state ≠ .mains → ∃ u, exec .mainsReturned s = commit s (follow u)
        ∧ u.supply = { s.supply with state := .mains } ∧ u.pins.mains = true ∧ u.valve.reasons.lowBattery = false
        ∧ u.settings = s.settings ∧ u.meter = s.meter ∧ u.leak.latch = s.leak.latch ∧ u.clock = s.clock)

/-- VOLTAGE_STEADY (R151, R152, R153): on battery, ten seconds below 11.4 V are BATTERY_LOW, which by the low-battery action closes the
valve; ten seconds at or above 11.9 V are BATTERY again; ten below 10.5 V stop the part with every output released. The model's choice (log
entry 45): SUPPLY_STATE comes before the FAULT of BATTERY_LOW. An event whose condition does not stand has no effect of its own (the model's
choice, log entry 4). -/
def Obligations.SteadyVoltageDecides : Prop :=
  ∀ s : State, s.stopped = false →
    let p := s.supply
    let told (n : SupplyState) (v : State) : State :=
      post2 .supplyState .none (supplyCode n) p.battery { v with supply := { p with state := n } }
    (p.state = .mains → exec .voltageSteady s = commit s (follow s))
    ∧ (p.state = .battery → p.below105 < 10 → p.below114 < 10 → exec .voltageSteady s = commit s (follow s))
    ∧ (p.state = .batteryLow → p.below105 < 10 → p.above119 < 10 → exec .voltageSteady s = commit s (follow s))
    ∧ (p.state = .battery → p.below105 < 10 → 10 ≤ p.below114 → s.settings.user.leak.lowBatteryAction = .hold →
        exec .voltageSteady s = commit s (follow (faultReport .batteryLow .none p.battery (told .batteryLow s))))
    ∧ (p.state = .battery → p.below105 < 10 → 10 ≤ p.below114 → s.settings.user.leak.lowBatteryAction = .close →
        ∃ u, exec .voltageSteady s = commit s (follow u) ∧ u.supply = { p with state := .batteryLow }
          ∧ u.valve.reasons = { s.valve.reasons with lowBattery := true }
          ∧ (s.valve.reasons = {} → s.valve.state = .opened → s.pins.closedEnd = false → u.valve.state = .closing))
    ∧ (p.state = .batteryLow → p.below105 < 10 → 10 ≤ p.above119 →
        exec .voltageSteady s = commit s (follow (faultGone .batteryLow .none (told .battery s))))
    ∧ (p.state ≠ .mains → 10 ≤ p.below105 → ∃ u, exec .voltageSteady s = commit s u ∧ u.supply = { p with state := .shutdown }
        ∧ u.valve = { s.valve with drive := .stopped, pause := .none } ∧ u.filter = { s.filter with solenoid := false }
        ∧ u.pods = { s.pods with out := none, awaiting := none, calling := false }
        ∧ u.notices = {} ∧ u.attention = false ∧ u.discMotor = .off
        ∧ u = { s with
            supply := u.supply, valve := u.valve, filter := u.filter, pods := u.pods, notices := u.notices, faults := u.faults })

/-! ### Moisture pods (10_moisture_pods.md) -/

/-- POLL and POLL_ANSWER (R156, R157, R159, R161): a poll goes to the next enrolled slot with the sequence byte; a good answer makes the
slot ACTIVE with the answered flags and temperature, and wet changes only when two answers agree; an answer with a bad sum, slot, sequence
or temperature counts as missed. A guarded pod that becomes wet latches ZONE with its temperature (R127, R161). The model's choice (log
entry 30): a poll carries the sequence byte before it grows, a poll sent while one is open takes its place, and the first answer ends the
exchange, so that a second one within the same 40 ms has no effect of its own. An event whose condition does not stand has no effect of its
own (the model's choice, log entry 4). -/
def Obligations.PollsAndAnswers : Prop :=
  ∀ s : State, s.stopped = false →
    ((∀ n, (s.slot n).state = .empty) → exec .poll s = .next s)
    ∧ (let ahead (m : Fin 8) : Nat := match s.pods.position with | none => m.val | some p => (m.val + 7 - p.val) % 8
      ∀ n, (s.slot n).state ≠ .empty → (∀ m, (s.slot m).state ≠ .empty → ahead n ≤ ahead m) →
        exec .poll s = commit s { s with pods := { s.pods with
        position := some n, seq := s.pods.seq + 1, awaiting := some (n, s.pods.seq), calling := false,
        out := some (.poll n s.pods.seq) } })
    ∧ (∀ sl sq w b t temp good, s.pods.awaiting = none → exec (.pollAnswer sl sq w b t temp good) s = commit s (follow s))
    ∧ (∀ n q sl sq w b t temp good, s.pods.awaiting = some (n, q) → (s.slot n).state = .empty →
        exec (.pollAnswer sl sq w b t temp good) s = commit s (follow { s with pods := { s.pods with awaiting := none } }))
    ∧ (∀ n q w b t temp, s.pods.awaiting = some (n, q) → (s.slot n).state ≠ .empty →
        -40 ≤ temp → temp ≤ 85 → ((s.slot n).candidate ≠ some w ∨ (s.slot n).wet = w ∨ w = false ∨ (s.slot n).shutoff = false) →
        ∃ u, exec (.pollAnswer (BitVec.ofNat 8 n.val) q w b t temp true) s = commit s (follow u)
          ∧ (let p := s.slot n
            let agreed := p.candidate = some w
            u.slot n = { p with
              missed := 0, state := .active, batteryLow := b, tamper := t, temperature := temp, candidate := some w
              wet := if agreed then w else p.wet
              wetSince := if agreed ∧ p.wet ≠ w then (if w then some s.now else none) else p.wetSince
              freeze := if temp ≤ s.settings.user.leak.freeze then true
                else if s.settings.user.leak.freeze + 2 ≤ temp then false else p.freeze })
          ∧ (∀ m, m ≠ n → u.slot m = s.slot m) ∧ u.pods.awaiting = none
          ∧ u.faults = (if (s.slot n).state = .lost then s.faults.gone .podLost (.slot n) else s.faults)
          ∧ u = { s with pods := u.pods, faults := u.faults, notices := u.notices })
    ∧ (∀ n q b t temp, s.pods.awaiting = some (n, q) → (s.slot n).state ≠ .empty → -40 ≤ temp → temp ≤ 85 →
        (s.slot n).candidate = some true → (s.slot n).wet = false → (s.slot n).shutoff = true → s.leak.test.phase = .idle →
        ∃ u, exec (.pollAnswer (BitVec.ofNat 8 n.val) q true b t temp true) s = commit s (follow u)
          ∧ (u.slot n).wet = true ∧ (u.slot n).wetSince = some s.now ∧ (u.slot n).state = .active
          ∧ (s.leak.latch = none → u.leak.latch = some {
              first := .zone n, time := s.now, detail := temp, further := []
              litres := if s.leak.detector.active.isSome then s.leak.detector.volume / 1000 else 0 })
          ∧ (∀ l, s.leak.latch = some l → u.leak.latch =
              some (if l.first = .zone n ∨ .zone n ∈ l.further then l else { l with further := l.further ++ [.zone n] }))
          ∧ (s.leak.latch = none → s.settings.user.leak.action = .close → u.valve.reasons.trip = true))
    ∧ (∀ n q sl sq w b t temp good, s.pods.awaiting = some (n, q) → (s.slot n).state ≠ .empty → (s.slot n).missed < 2 →
        good = false ∨ sl.toNat ≠ n.val ∨ sq ≠ q ∨ temp < -40 ∨ 85 < temp →
        exec (.pollAnswer sl sq w b t temp good) s = commit s (follow ({ s with pods := { s.pods with awaiting := none } }.withSlot n
          { s.slot n with missed := (s.slot n).missed + 1 })))

/-- POLL_ANSWER_MISSED, POD_MISSING and POD_LOST (R127, R160): each missed answer counts, to 255; the third makes an ACTIVE pod MISSING; the
tenth makes an ACTIVE or a MISSING one LOST in that same event, dry, with POD_LOST, and by the pod-lost action latches a trip; a slot that
has become EMPTY counts nothing (R157). The model's choice (log entry 45): POD_STATE comes before the FAULT of POD_LOST. An event whose
condition does not stand has no effect of its own (the model's choice, log entry 4). -/
def Obligations.PodsGoMissingAndLost : Prop :=
  ∀ (n : Fin 8) (s : State), s.stopped = false →
    let p := s.slot n
    let w : State := { s with pods := { s.pods with awaiting := none } }
    let counted : PodSlot := { p with missed := min 255 (p.missed + 1) }
    let lost (x : PodSlot) : PodSlot := { x with state := .lost, wet := false, wetSince := none, candidate := none }
    let trips (c : Instr) (x : PodSlot) : Prop := ∃ u, exec c s = commit s (follow u) ∧ u.slot n = x
      ∧ (s.leak.latch = none → u.leak.latch = some {
          first := .podLost n, time := s.now, detail := p.temperature, further := []
          litres := if s.leak.detector.active.isSome then s.leak.detector.volume / 1000 else 0 })
      ∧ (∀ t, s.leak.latch = some t → u.leak.latch =
          some (if t.first = .podLost n ∨ .podLost n ∈ t.further then t else { t with further := t.further ++ [.podLost n] }))
      ∧ u.settings = s.settings ∧ u.meter = s.meter
    (s.pods.awaiting = none → exec .pollAnswerMissed s = commit s (follow s))
    ∧ (∀ q, s.pods.awaiting = some (n, q) →
      (p.state = .empty → exec .pollAnswerMissed s = commit s (follow w))
      ∧ (p.state ≠ .empty → p.missed < 2 → exec .pollAnswerMissed s = commit s (follow (w.withSlot n counted)))
      ∧ (p.state = .missing → p.missed < 9 → exec .pollAnswerMissed s = commit s (follow (w.withSlot n counted)))
      ∧ (p.state = .lost → exec .pollAnswerMissed s = commit s (follow (w.withSlot n counted)))
      ∧ (p.state = .active → 2 ≤ p.missed → p.missed < 9 → exec .pollAnswerMissed s
        = commit s (follow (postPod n (w.withSlot n { counted with state := .missing }))))
      ∧ (p.state = .missing → 9 ≤ p.missed → s.settings.user.leak.podLostAction = .notify → exec .pollAnswerMissed s
        = commit s (follow (faultReport .podLost (.slot n) p.serialNat (postPod n (w.withSlot n (lost counted))))))
      ∧ (p.state = .active → 9 ≤ p.missed → ∃ u, exec .pollAnswerMissed s = commit s (follow u) ∧ u.slot n = lost counted)
      ∧ (p.state = .active ∨ p.state = .missing → 9 ≤ p.missed → s.settings.user.leak.podLostAction = .close →
        trips .pollAnswerMissed (lost counted)))
    ∧ (p.state = .active → 3 ≤ p.missed →
        exec (.podMissing n) s = commit s (follow (postPod n (s.withSlot n { p with state := .missing }))))
    ∧ (p.state ≠ .active ∨ p.missed < 3 → exec (.podMissing n) s = commit s (follow s))
    ∧ (p.state = .empty ∨ p.state = .lost ∨ p.missed < 10 → exec (.podLost n) s = commit s (follow s))
    ∧ (p.state = .active ∨ p.state = .missing → 10 ≤ p.missed →
        (s.settings.user.leak.podLostAction = .notify → exec (.podLost n) s = commit s (follow
          (faultReport .podLost (.slot n) p.serialNat (postPod n (s.withSlot n (lost p))))))
        ∧ (s.settings.user.leak.podLostAction = .close → trips (.podLost n) (lost p)))

/-- ENROL_CALL, ENROL_ANSWER and ENROL_WINDOW_CLOSE (R156, R163, R164): with the window open a call is sent; a new pod takes the lowest
EMPTY slot as MISSING and is told it, with POD_STATE and POD_ENROLLED; a pod of the roster is told its own slot again, with POD_ENROLLED; the
window closes at its time, or when no slot is left EMPTY, with the two counts. An answer with a bad sum or the serial 0, or a new one with no
EMPTY slot, is ignored and leaves the 40 ms of the call running; one that comes later than 40 ms is discarded. The model's choices: the
reason of POD_ENROLLED is 0 for REASSIGNED and 1 for NEW (log entry 12); POD_STATE comes before POD_ENROLLED and that before the window's
REQUEST_DONE (log entry 45); a good answer leaves the 40 ms running too (log entry 30). An event whose condition does not stand has no
effect of its own (the model's choice, log entry 4). -/
def Obligations.PodsEnrol : Prop :=
  ∀ s : State, s.stopped = false →
    (s.pods.window = none → exec .enrolCall s = .next s ∧ exec .enrolWindowClose s = .next s)
    ∧ (s.pods.window ≠ none →
        exec .enrolCall s = commit s { s with pods := { s.pods with calling := true, out := some .enrolCall } })
    ∧ (∀ serial good ms, s.pods.calling = false ∨ s.pods.window = none → exec (.enrolAnswer serial good ms) s = .next s)
    ∧ (∀ serial good ms, ms ≤ 40 → good = false ∨ serial = 0 → exec (.enrolAnswer serial good ms) s = .next s)
    ∧ (∀ serial good ms, 40 < ms → s.pods.calling = true → s.pods.window ≠ none →
        exec (.enrolAnswer serial good ms) s = commit s { s with pods := { s.pods with calling := false } })
    ∧ (∀ serial n w ms, ms ≤ 40 → s.pods.calling = true → s.pods.window = some w → serial ≠ 0 → slotOf serial s = some n →
        exec (.enrolAnswer serial true ms) s = commit s (post .podEnrolled (.slot n) 0 serial.toNat n.val { s with pods := { s.pods with
          out := some (.assign serial n), window := some { w with again := w.again + 1 } } }))
    ∧ (∀ serial n w ms, ms ≤ 40 → s.pods.calling = true → s.pods.window = some w → serial ≠ 0 → slotOf serial s = none →
        lowestEmpty s = some n →
          let placed : State := { s with pods := { s.pods with
            slots := s.pods.slots.set n { serial := some serial, state := .missing }
            out := some (.assign serial n), window := some { w with new := w.new + 1 } } }
          let told := post .podEnrolled (.slot n) 1 serial.toNat n.val (postPod n placed)
          ((∃ m, m ≠ n ∧ (s.slot m).state = .empty) → exec (.enrolAnswer serial true ms) s = commit s told)
          ∧ ((∀ m, m ≠ n → (s.slot m).state ≠ .empty) → exec (.enrolAnswer serial true ms) s = commit s
            (requestDone .none w.tag 0x19 .done (((w.new + 1) * 256 + w.again : Nat) : Int)
              { told with pods := { told.pods with window := none, calling := false } })))
    ∧ (∀ serial w ms, ms ≤ 40 → s.pods.calling = true → s.pods.window = some w → serial ≠ 0 → slotOf serial s = none →
        lowestEmpty s = none → exec (.enrolAnswer serial true ms) s = .next s)
    ∧ (∀ w, s.pods.window = some w → w.remaining ≠ 0 → exec .enrolWindowClose s = .next s)
    ∧ (∀ w, s.pods.window = some w → w.remaining = 0 → exec .enrolWindowClose s = commit s
        (requestDone .none w.tag 0x19 .done ((w.new * 256 + w.again : Nat) : Int)
          { s with pods := { s.pods with window := none, calling := false } }))

/-- POD_ENROL, POD_REMOVE and POD_LABEL (R163, R165, R166, R173): the window's duration is brought into 30 to 300; a removed slot is EMPTY
with its first-start values and its POD_LOST condition is gone; a label sets the flag and the text, and one that newly guards a wet pod
latches ZONE with its temperature. Refusals change nothing. The model's choice (log entry 19): POD_LABEL is judged by its slot number, then
by its flag and characters, then by the slot's state. -/
def Obligations.PodRequests : Prop :=
  ∀ (svc : Bool) (tag : Byte) (s : State), s.free →
    let w := frameDropped (s.withSvc svc)
    (∀ d : BitVec 16, exec (.podEnrol tag d svc) s = if s.pods.window.isSome = true then
        answers (.podEnrol d) tag s w { status := .busy }
      else answers (.podEnrol d) tag s
        (follow { w with pods := { s.pods with window := some { tag := tag, remaining := max 30 (min 300 d.toNat) } } })
        { status := .accepted, body := unsignedField 2 (max 30 (min 300 d.toNat)) })
    ∧ (∀ b : Byte, 8 ≤ b.toNat → exec (.podRemove tag b svc) s = answers (.podRemove b) tag s w (declined .badSlot)
        ∧ ∀ f l, l.length ≤ 16 → exec (.podLabel tag b f l svc) s = answers (.podLabel b f l) tag s w (declined .badSlot))
    ∧ ∀ (n : Fin 8) (b : Byte), b.toNat = n.val →
      ((s.slot n).state = .empty → exec (.podRemove tag b svc) s = answers (.podRemove b) tag s w (declined .empty))
      ∧ ((s.slot n).state ≠ .empty → exec (.podRemove tag b svc) s = answers (.podRemove b) tag s (follow
          (postPod n ((faultGone .podLost (.slot n) w).withSlot n {}))) { status := .ok })
      ∧ ∀ f l, l.length ≤ 16 →
        (1 < f.toNat ∨ 0 ∈ l → exec (.podLabel tag b f l svc) s = answers (.podLabel b f l) tag s w (declined .badValue))
        ∧ (f.toNat ≤ 1 → 0 ∉ l → (s.slot n).state = .empty →
            exec (.podLabel tag b f l svc) s = answers (.podLabel b f l) tag s w (declined .empty))
        ∧ (f.toNat ≤ 1 → 0 ∉ l → (s.slot n).state ≠ .empty →
          let p := s.slot n
          let guards : Prop := f.toNat = 1 ∧ p.shutoff = false ∧ p.wet = true ∧ (p.state = .active ∨ p.state = .missing)
          let labelled : PodSlot := { p with shutoff := f.toNat == 1, label := l }
          (¬ guards → exec (.podLabel tag b f l svc) s
            = answers (.podLabel b f l) tag s (follow (w.withSlot n labelled)) { status := .ok })
          ∧ (guards → s.leak.test.phase = .idle → ∃ u,
            exec (.podLabel tag b f l svc) s = answers (.podLabel b f l) tag s (follow u) { status := .ok }
            ∧ u.slot n = labelled ∧ (∀ m, m ≠ n → u.slot m = s.slot m)
            ∧ (s.leak.latch = none → u.leak.latch = some {
                first := .zone n, time := s.now, detail := p.temperature, further := []
                litres := if s.leak.detector.active.isSome then s.leak.detector.volume / 1000 else 0 }
              ∧ (s.settings.user.leak.action = .close → u.valve.reasons.trip = true))
            ∧ ∀ t, s.leak.latch = some t → u.leak.latch =
              some (if t.first = .zone n ∨ .zone n ∈ t.further then t else { t with further := t.further ++ [.zone n] })))

/-! ### The serial link (11_serial_link_and_settings.md) -/

/-- R170: the CRC over bytes 1 through the last payload byte decides; a frame that fails it becomes a REJECT with its tag, the status
FRAME_CHECK and a header with no body, whatever its kind and payload, and changes nothing else, whether it is handled as it completes or
waited in the held place; a frame that passes is dispatched. -/
def Obligations.FramesAreChecked : Prop :=
  ∀ (f : Frame) (svc : Bool) (s : State),
    (f.checked = true ↔ f.crc = crc16 (BitVec.ofNat 8 (f.payload.length + 2) :: f.kind :: f.tag :: f.payload))
    ∧ (let header (v : State) : List Byte := [0x24] ++ unsignedField 1 v.notices.queue.length
        ++ unsignedField 1 (setCode [v.link.overrun, v.clock.unset, v.pins.svc, v.notices.lost, v.faults.overflow])
      let reject (v : State) : Handling := { frame := f, completion := .plain, reply := goodFrame 0xFF f.tag (header v) }
      let rejected (v : State) : State := { v with
        link := { v.link with overrun := false, handling := some (reject v) }
        notices := { v.notices with lost := false } }
      (∀ v, handleFrame f v = if f.checked then buildReply f (replyKind f.kind) (dispatch f v) else rejected v)
      ∧ (let v := frameDropped (s.withSvc svc)
        s.free → f.payload.length ≤ 248 →
        exec (.frameReject f.kind f.tag f.payload f.crc svc) s = commit s (if f.checked then
          buildReply f (replyKind f.kind) (dispatch f v) else rejected v))
      ∧ (∀ h, s.stopped = false → s.link.handling = some h → h.completion = .plain → s.link.held = some f →
        let w := s.withSvc svc
        let v := { w with link := { w.link with handling := none, held := none } }
        exec (.replyComplete svc) s = commit s (if f.checked then buildReply f (replyKind f.kind) (dispatch f v) else rejected v)))

/-- R176: IDENTIFY is answered OK with the identity, 11 bytes, and changes nothing. -/
def Obligations.IdentifyAnswers : Prop :=
  let body : List Byte := [0x53, 0x4A, 220, 0, 1, 2, 8, 0, 2, 24, 8]
  body.length = 11 ∧ (∀ (tag : Byte) (s : State), takeRequest tag s .identify = (s, { status := .ok, body := body }))
  ∧ ∀ (svc : Bool) (tag : Byte) (s : State), s.free →
      exec (.identify tag svc) s = answers .identify tag s (frameDropped (s.withSvc svc)) { status := .ok, body := body }

/-- The receiver and the first tests of dispatch (R168, R169, R171, R172): a 0x7E begins a frame, a timeout or a length byte outside 2 to
250 drops it; a complete frame is handled when no request is, held when the held place is empty, and else lost with OVERRUN; the bytes of a
frame are that frame, and a request's bytes are the request; an unknown kind, or a length that is not the kind's, is refused and changes
nothing. An event whose condition does not stand has no effect of its own (the model's choice, log entry 4). -/
def Obligations.ReceiverAndDispatch : Prop :=
  (∀ s : State, s.stopped = false →
    exec .frameStart s = commit s { s with link := { s.link with inFrame := true } }
    ∧ exec .frameTimeout s = commit s (frameDropped s)
    ∧ (∀ n : Byte, n.toNat < 2 ∨ 250 < n.toNat → exec (.frameBadLength n) s = commit s (frameDropped s))
    ∧ (∀ n : Byte, 2 ≤ n.toNat → n.toNat ≤ 250 → exec (.frameBadLength n) s = .next s)
    ∧ ∀ (svc : Bool) (bs : List Byte),
      let v := frameDropped (s.withSvc svc)
      (frameOfBytes bs = none → exec (.frameReceived bs svc) s = commit s v)
      ∧ ∀ f, frameOfBytes bs = some f →
        (s.link.handling = none → exec (.frameReceived bs svc) s = commit s (if f.checked then
          buildReply f (replyKind f.kind) (dispatch f v)
          else buildReply f 0xFF (v, { status := .frameCheck })))
        ∧ (∀ h, s.link.handling = some h → s.link.held = none →
          exec (.frameReceived bs svc) s = commit s { v with link := { v.link with held := some f } })
        ∧ (∀ h g, s.link.handling = some h → s.link.held = some g →
          exec (.frameReceived bs svc) s = commit s { v with link := { v.link with overrun := true } }))
  ∧ (∀ f : Frame, f.payload.length ≤ 248 → frameOfBytes f.bytes = some f
      ∧ ∀ svc s, exec (.frameReceived f.bytes svc) s = exec (.frameReject f.kind f.tag f.payload f.crc svc) s)
  ∧ (∀ (c : Instr) (r : Request) (svc : Bool) (tag : Byte) (s : State), requestOf c = some (r, svc, tag) → r.wf →
      exec (.frameReceived (r.frame tag).bytes svc) s = exec c s)
  ∧ (∀ (k : Byte) (p : List Byte), k = 0 ∨ (0x0C ≤ k.toNat ∧ k.toNat ≤ 0x0F) ∨ 0x20 < k.toNat →
      parseRequest k p = .unknownKind)
  ∧ ∀ (svc : Bool) (k tag : Byte) (p : List Byte) (s : State), s.free → p.length ≤ 248 →
      let kind : Byte := if 0x80 ≤ k.toNat then 0xFF else k + 0x80
      let v := frameDropped (s.withSvc svc)
      (parseRequest k p = .unknownKind → exec (.unknownKind k tag p svc) s
        = commit s (buildReply (goodFrame k tag p) kind (v, { status := .unknownKind })))
      ∧ (parseRequest k p = .badLength → exec (.badLength k tag p svc) s
        = commit s (buildReply (goodFrame k tag p) kind (v, { status := .badLength })))

/-- The two places (R171, R17, R179, R183): a request that arrives while another is handled is held, and with the held place full it is
discarded with OVERRUN; the last byte of a reply brings the completion effect of its request, empties its place, and lets the held frame be
handled; RESET's is the warm reset. The model's choices: that reset finds the pins and the voltage as the part last saw them (log entry 35);
a REPLY_COMPLETE with no request being handled has no effect but that the jumper's level is noted (log entries 4 and 7). -/
def Obligations.RequestsWaitAndComplete : Prop :=
  (∀ (c : Instr) (r : Request) (svc : Bool) (tag : Byte) (h : Handling) (s : State), requestOf c = some (r, svc, tag) → r.wf →
    s.stopped = false → s.link.handling = some h →
    let w := s.withSvc svc
    (s.link.held = none →
      exec c s = commit s { w with link := { w.link with inFrame := false, held := some (r.frame tag) } })
    ∧ (s.link.held ≠ none → exec c s = commit s { w with link := { w.link with inFrame := false, overrun := true } }))
  ∧ (∀ (svc : Bool) (s : State), s.stopped = false → s.link.handling = none →
    exec (.replyComplete svc) s = commit s (s.withSvc svc))
  ∧ ∀ (svc : Bool) (h : Handling) (s : State), s.stopped = false → s.link.handling = some h →
    let w := s.withSvc svc
    let done (v : State) : State := match s.link.held with
      | none => { v with link := { v.link with handling := none } }
      | some f => handleFrame f { v with link := { v.link with handling := none, held := none } }
    (h.completion = .plain → exec (.replyComplete svc) s = commit s (done w))
    ∧ (h.completion = .noticeTake → exec (.replyComplete svc) s = commit s (done { w with notices := { s.notices with
        queue := s.notices.queue.filter fun n => !n.inFlight } }))
    ∧ (∀ n gap, h.completion = .historyRead n gap → exec (.replyComplete svc) s = commit s (done { w with meter := { s.meter with
        history := s.meter.history.readDone n gap } }))
    ∧ (h.completion = .reset → exec (.replyComplete svc) s = commit s (warmReset
        { mains := s.pins.mains, battery := BitVec.ofNat 16 s.supply.battery, openEnd := s.pins.openEnd,
          closedEnd := s.pins.closedEnd, svc := svc } w))

/-- Every request handled at once is answered with its kind plus 0x80 and its tag; the payload is the status, the count of queued notices,
the flags with SVCn as it stands, a reason only with NOT_NOW and a body only with OK, CLAMPED or ACCEPTED; the reply goes out as a frame
like the request's (R168); OVERRUN and LOST are cleared by the reply that reports them (R172, R182). The requests that only read change
nothing else. The items of STATUS stand at their places in the order of R177's groups, and so do the records that NOTICE_TAKE, NOTICE_PEEK,
HISTORY_READ, TOTALS_READ, POD_LIST and FAULTS_READ carry (section 11.3, R8, R17, R166, R183, R187). The model's choices: codes of
enumerations and marks (log entries 11 and 12), a value beyond its field (8), the positioner state while it is observed (10), and what an
empty latch carries (28). -/
def Obligations.RepliesAndReads : Prop :=
  (∀ (c : Instr) (r : Request) (svc : Bool) (tag : Byte) (s : State), requestOf c = some (r, svc, tag) → r.wf → s.free →
    let v := (takeRequest tag (frameDropped (s.withSvc svc)) r).1
    let a := (takeRequest tag (frameDropped (s.withSvc svc)) r).2
    let payload : List Byte := [statusCode a.status] ++ unsignedField 1 v.notices.queue.length
      ++ unsignedField 1 (setCode [v.link.overrun, v.clock.unset, svc, v.notices.lost, v.faults.overflow])
      ++ (match a.status, a.reason with | .notNow, some n => [reasonCode n] | _, _ => [])
      ++ (if a.status = .ok ∨ a.status = .clamped ∨ a.status = .accepted then a.body else [])
    ∃ u h, exec c s = commit s u ∧ u.link.overrun = false ∧ u.notices = { v.notices with lost := false }
      ∧ u.link.handling = some h ∧ h.frame = r.frame tag ∧ h.completion = a.completion
      ∧ h.reply.kind = r.kind + 0x80 ∧ h.reply.tag = tag ∧ h.reply.payload = payload
      ∧ (let checked : List Byte := BitVec.ofNat 8 (payload.length + 2) :: (r.kind + 0x80) :: tag :: payload
        h.reply.wire = 0x7E :: checked ++ [(crc16 checked).extractLsb' 8 8, (crc16 checked).extractLsb' 0 8])
      ∧ u = { v with link := u.link, notices := u.notices })
  ∧ (∀ (svc : Bool) (tag : Byte) (s : State), s.free →
    let w := frameDropped (s.withSvc svc)
    exec (.status tag svc) s = answers .status tag s w { status := .ok, body := statusBody s }
    ∧ exec (.noticePeek tag svc) s = answers .noticePeek tag s w { status := .ok, body := noticesBody s }
    ∧ exec (.totalsRead tag svc) s = answers .totalsRead tag s w { status := .ok, body := totalsBody s }
    ∧ exec (.podList tag svc) s = answers .podList tag s w { status := .ok, body := podListBody s }
    ∧ exec (.faultsRead tag svc) s = answers .faultsRead tag s w { status := .ok, body := faultsBody s })
  ∧ (∀ s : State, (statusBody s).length = 130 ∧ (podListBody s).length = 245
      ∧ (noticesBody s).length = 1 + 21 * min 4 s.notices.queue.length)
  ∧ (∀ s : State,
    let l := s.leak.latch
    let e := s.leak.detector
    let c := s.seq.changeover
    let f := s.filter
    let tank (place : Nat) (t : Tank) : List (Nat × List Byte) := let r := s.tank t
      [(place, unsignedField 1 (serviceCode r.service)), (place + 1, optionField 1 (r.step.map stepCode)),
       (place + 2, optionField 1 (r.phase.map phaseCode)), (place + 3, markField r.suspended),
       (place + 4, unsignedField 1 (deferralCode r.deferral)), (place + 5, unsignedField 2 (remainingPermille (s.record t)))]
    ∀ item ∈ ([
      (0, stampField s.now), (6, unsignedField 1 (supplyCode s.supply.state)), (7, unsignedField 2 s.supply.battery),
      (9, unsignedField 1 (valveCode s.valve.state)), (10, unsignedField 1 (reasonsCode s.valve.reasons)),
      (11, markField s.targetClosed), (12, optionField 1 (s.valve.stuck.map stuckCode)),
      (13, unsignedField 2 s.valve.exerciseDays), (15, unsignedField 1 (exerciseCode s.valve.exercise)),
      (16, unsignedField 1 (leakModeCode s.settings.user.leak.mode)), (17, markField e.active.isSome),
      (18, unsignedField 2 e.seconds), (20, unsignedField 4 (if e.active.isSome then e.volume / 1000 else 0)),
      (24, unsignedField 2 e.burst), (26, unsignedField 2 e.quiet), (28, optionField 1 (l.map fun t => causeCode t.first)),
      (29, unsignedField 1 ((l.map fun t => causeSlot t.first).getD 255)), (30, stampOrNone (l.map Trip.time)),
      (36, signedField 4 ((l.map Trip.detail).getD 0)), (40, unsignedField 1 ((l.map fun t => t.further.length).getD 0)),
      (41, unsignedField 4 ((l.map Trip.litres).getD 0)), (45, unsignedField 1 (testPhaseCode s.leak.test.phase)),
      (46, optionField 1 (s.leak.record.result.map testResultCode)), (47, stampField s.leak.record.time),
      (53, unsignedField 2 s.leak.record.p0), (55, signedField 2 s.leak.record.decay),
      (57, unsignedField 1 s.leak.record.microleaks)] ++ tank 58 .a ++ tank 65 .b ++ [
      (72, optionField 1 (c.map fun c => changePhaseCode c.phase)), (73, optionField 1 (c.map fun c => tankCode c.outgoing)),
      (74, optionField 1 (s.seq.due.map tankCode)), (75, unsignedField 1 (positionCode s.disc.position)),
      (76, markField s.disc.inPlace), (77, [discStateCode s.disc.state]), (78, unsignedField 1 (discModeCode s.disc.mode)),
      (79, markField (s.settings.user.soft.discMode != s.disc.mode)),
      (80, optionField 1 (if s.disc.state = .fault then s.disc.fault.map fun f => faultCodeOf f.1 else none)),
      (81, unsignedField 1 (targetCode s.disc.target)), (82, unsignedField 1 (ownerCode s.line.owner)),
      (83, optionField 1 (s.line.regen.bind fun e => if e.granted then some (tankCode e.tank) else none)),
      (84, unsignedField 1 s.line.pendingCode), (85, unsignedField 2 s.meter.now.vIn), (87, unsignedField 2 s.meter.now.vH),
      (89, unsignedField 1 (filterCode f.state)), (90, unsignedField 2 (f.rs10 / 10)), (92, unsignedField 2 f.baseline),
      (94, unsignedField 1 (dueCode f.due)), (95, unsignedField 4 (f.volume / 1000)), (99, unsignedField 2 f.days),
      (101, unsignedField 4 (f.cartVolume / 1000)), (105, unsignedField 1 (f.cartDays / 30)), (106, markField f.cartDue),
      (107, unsignedField 2 f.p1.reading), (109, unsignedField 2 f.p2.reading), (111, unsignedField 2 f.p3.reading),
      (113, unsignedField 1 (setCode [f.p1.held, f.p2.held, f.p3.held])), (114, unsignedField 1 (saltCode s.brine.salt)),
      (115, optionField 2 (forecast s)), (117, unsignedField 4 s.brine.inventory), (121, optionField 2 s.brine.height),
      (123, unsignedField 2 s.brine.level), (125, unsignedField 1 (slotCount .active s)),
      (126, unsignedField 1 (slotCount .missing s)), (127, unsignedField 1 (slotCount .lost s)),
      (128, unsignedField 1 (slotCount .empty s)),
      (129, unsignedField 1 (s.pods.slots.toList.countP fun p => p.wet && p.shutoff))] : List (Nat × List Byte)),
      Holds (statusBody s) item.1 item.2)
  ∧ ∀ s : State,
    let h := s.meter.history
    let unread := h.ring.length - h.cursor
    let t := s.meter.totals
    Holds (noticesBody s) 0 (unsignedField 1 (min 4 s.notices.queue.length))
    ∧ (∀ i n, i < 4 → s.notices.queue[i]? = some n → Holds (noticesBody s) (1 + 21 * i)
        (unsignedField 1 (noticeCode n.kind) ++ unsignedField 1 (subjectCode n.subject) ++ stampField n.stamp ++ signedField 4 n.v1
          ++ signedField 4 n.v2 ++ signedField 4 n.v3 ++ unsignedField 1 n.merges))
    ∧ Holds (historyBody s) 0 (markField h.gap ++ unsignedField 2 (unread - min 20 unread) ++ unsignedField 1 (min 20 unread))
    ∧ (∀ i r, i < 20 → h.ring[h.cursor + i]? = some r → Holds (historyBody s) (4 + 7 * i)
        (unsignedField 2 r.day ++ unsignedField 1 r.hour ++ unsignedField 2 r.litres ++ unsignedField 1 (hourFlagsCode r.flags)
          ++ unsignedField 1 r.repeats))
    ∧ (∀ i v, [t.inlet, t.process, t.house, t.flush, t.treatedA, t.treatedB, t.hardWater][i]? = some v →
        Holds (totalsBody s) (8 * i) (unsignedField 8 v))
    ∧ Holds (totalsBody s) 56 (unsignedField 1 s.meter.week.length)
    ∧ (∀ i v, i < 7 → s.meter.week[i]? = some v → Holds (totalsBody s) (57 + 4 * i) (unsignedField 4 v))
    ∧ (∀ n : Fin 8, let p := s.slot n
        Holds (podListBody s) (30 * n.val) (optionField 4 (p.serial.map BitVec.toNat) ++ unsignedField 1 (slotCode p.state)
          ++ unsignedField 1 (slotFlagsCode p) ++ stampOrNone p.wetSince ++ signedField 1 p.temperature
          ++ unsignedField 1 p.missed ++ p.label.take 16 ++ List.replicate (16 - p.label.length) 0))
    ∧ Holds (podListBody s) 240 (markField s.pods.window.isSome)
    ∧ (∀ w, s.pods.window = some w → Holds (podListBody s) 241
        (unsignedField 2 w.remaining ++ unsignedField 1 w.new ++ unsignedField 1 w.again))
    ∧ Holds (faultsBody s) 0 (unsignedField 1 s.faults.records.length)
    ∧ ∀ i r, s.faults.records[i]? = some r → Holds (faultsBody s) (1 + 20 * i)
        (unsignedField 1 (faultCodeOf r.code) ++ unsignedField 1 (subjectCode r.subject) ++ stampField r.first ++ stampField r.last
          ++ unsignedField 1 r.count ++ markField r.active ++ signedField 4 r.detail)
      ∧ (faultsBody s).length = 1 + 20 * s.faults.records.length
      ∧ (s.meter.week.length ≤ 7 → (totalsBody s).length = 85)

/-- GET and SET (R175): an id outside the table is BAD_ID, an installer setting without SVCn as the SET is taken is LOCKED, a value below
its range becomes the lower end and one above it the upper end, and CLAMPED, and the table then holds that value for that id alone. A new
resin volume is refused for a tank that is IN_SERVICE, REGENERATING, FAULTED, in a changeover, or chosen in commissioning (R81), and
otherwise makes the tank DISABLED at 0 and EXHAUSTED at any other volume, its learned factor back at 1000 (R28). The model's choice (log
entry 38): where two of these refusals apply, the tank's own state names the reason before the changeover does. The owners take a new value
at once: a changed K factor drops the remainder at the next second (R1), the probe depth and the salt sensor end their faults (R37, R93),
hardness and iron give H_eff (R22), the disc mode applies to a disc at rest (R54), the filter's indices and the salt's low kg evaluate their
states (R102, R111), the salt capacity bounds the inventory (R99), the leak mode forms the active set again (R126), and the leak and
low-battery actions put their reason in the close-reason set or take it out (R129, R153). -/
def Obligations.SettingsAreReadAndSet : Prop :=
  (∀ (id : Nat) (row : SettingRow) (c : Settings) (v : Int), settingRow id = some row →
    (c.put id (row.clamp v)).get id = row.clamp v ∧ (∀ j, j ≠ id → (c.put id (row.clamp v)).get j = c.get j)
    ∧ (row.hi < v → row.clamp v = row.hi) ∧ (row.lo ≤ v → v ≤ row.hi → row.clamp v = v)
    ∧ (row.orZero = false → v < row.lo → row.clamp v = row.lo)
    ∧ (row.orZero = true → (0 < v → v < row.lo → row.clamp v = row.lo) ∧ (v ≤ 0 → row.clamp v = 0)))
  ∧ ∀ (svc : Bool) (tag id : Byte) (v : BitVec 32) (s : State), s.free →
    let w := frameDropped (s.withSvc svc)
    (settingRow id.toNat = none → exec (.get tag id svc) s = answers (.get id) tag s w { status := .badId }
      ∧ exec (.set tag id v svc) s = answers (.set id v) tag s w { status := .badId })
    ∧ ∀ row, settingRow id.toNat = some row →
      let n := row.clamp v.toInt
      let taken : Answered := { status := if n = v.toInt then .ok else .clamped, body := id :: signedField 4 n }
      exec (.get tag id svc) s
        = answers (.get id) tag s w { status := .ok, body := id :: signedField 4 (s.settings.get id.toNat) }
      ∧ (row.installer = true → svc = false →
          exec (.set tag id v svc) s = answers (.set id v) tag s w { status := .locked })
      ∧ (row.installer = false ∨ svc = true → 2 < id.toNat →
          ∃ u, exec (.set tag id v svc) s = answers (.set id v) tag s (follow u) taken
            ∧ u.settings = s.settings.put id.toNat n ∧ u.clock = s.clock ∧ u.meter.totals = s.meter.totals)
      ∧ (∀ t : Tank, id = tankByte t + 1 → svc = true →
        (n = s.resin t → ∃ u, exec (.set tag id v svc) s = answers (.set id v) tag s (follow u) taken ∧ u = w)
        ∧ (n ≠ s.resin t →
          let refused (why : NotNow) : Prop := exec (.set tag id v svc) s = answers (.set id v) tag s w (declined why)
          let idle : Prop := (s.tank t).service = .ready ∨ (s.tank t).service = .exhausted ∨ (s.tank t).service = .disabled
          let open_ : Prop := (∀ k : Tank, (s.tank k).service ≠ .inService) ∧ s.seq.chosen = t
          ((s.tank t).service = .inService → refused .inService)
          ∧ ((s.tank t).service = .regenerating → refused .regenerating)
          ∧ ((s.tank t).service = .faulted → refused .faulted)
          ∧ (idle → s.seq.changeover ≠ none → refused .changeover)
          ∧ (idle → s.seq.changeover = none → open_ → refused .inService)
          ∧ (idle → s.seq.changeover = none → ¬ open_ →
            ∃ u, exec (.set tag id v svc) s = answers (.set id v) tag s (follow u) taken
              ∧ u.settings = s.settings.put id.toNat n
              ∧ (u.tank t).service = (if n = 0 then .disabled else .exhausted)
              ∧ (u.record t).learned = 1000 ∧ (u.record t).mode = .acquisition ∧ (u.record t).smallErrors = 0
              ∧ (n = 0 → (s.tank t).service ≠ .disabled →
                (u.record t).credited = 0 ∧ (u.record t).remaining = 0 ∧ (u.record t).consumed = 0)
              ∧ (n ≠ 0 → (u.record t).credited = (s.record t).credited ∧ (u.record t).remaining = (s.record t).remaining)
              ∧ (u.tank t.other).service = (s.tank t.other).service ∧ u.record t.other = s.record t.other)))
      ∧ (row.installer = false ∨ svc = true →
        let put : State := { w with settings := s.settings.put id.toNat n }
        let set (u : State) : Prop := exec (.set tag id v svc) s = answers (.set id v) tag s (follow u) taken
        let same : Prop := s.settings.get id.toNat = n
        let m := s.meter.meters
        let soft := put.settings.user.soft
        let filter := put.settings.user.filter
        let kg := put.settings.user.salt.lowKg
        let byMass (g : Nat) : SaltState := match s.brine.salt with
          | .ok => if g ≤ 1000 then .out else if g ≤ kg * 1000 then .low else .ok
          | .low => if g ≤ 1000 then .out else if (kg + 3) * 1000 ≤ g then .ok else .low
          | .out => if 3000 ≤ g ∧ (kg + 3) * 1000 ≤ g then .ok else if 3000 ≤ g then .low else .out
        (id.toNat ∉ [1, 2, 3, 4, 5, 8, 10, 20, 21, 22, 35, 40, 41, 50, 51, 69, 81] → set put)
        ∧ (id.toNat ∈ [3, 4, 5, 8, 10, 40, 41, 50, 81] → same → set put)
        ∧ (id = 3 → ¬ same → set { put with meter := { s.meter with meters := { m with kInChanged := true } } })
        ∧ (id = 4 → ¬ same → set { put with meter := { s.meter with meters := { m with kProcChanged := true } } })
        ∧ (id = 5 → ¬ same → n ≠ 0 → set { put with cap := { s.cap with runs := ⟨0, 0⟩ } })
        ∧ (id = 5 → ¬ same → n = 0 → ∃ u, set u ∧ u.cap = { s.cap with runs := ⟨0, 0⟩, probeFault := ⟨false, false⟩ }
          ∧ (∀ k, s.cap.probeFault.get k = true → ∀ f ∈ u.faults.records,
            f.code = .bedProbe → f.subject = .tank k → f.active = false)
          ∧ u = { put with cap := u.cap, faults := u.faults })
        ∧ (id = 8 → ¬ same → n = 1 → set put)
        ∧ (id = 8 → ¬ same → n = 0 → ∃ u, set u ∧ u.brine.saltFault = false
          ∧ u.faults = (if s.brine.saltFault = true then s.faults.gone .saltSensor .none else s.faults)
          ∧ u.brine.salt = byMass s.brine.inventory ∧ u.brine.inventory = s.brine.inventory
          ∧ u = { put with brine := u.brine, faults := u.faults, notices := u.notices })
        ∧ (id = 10 → ¬ same → (s.brine.inventory : Int) ≤ n * 1000 → set put)
        ∧ (id = 10 → ¬ same → n * 1000 < s.brine.inventory → ∃ u, set u ∧ (u.brine.inventory : Int) = n * 1000
          ∧ u.brine.salt = (if s.settings.inst.sensorFitted = true then s.brine.salt else byMass (n * 1000).toNat)
          ∧ u = { put with brine := u.brine, notices := u.notices })
        ∧ (id.toNat ∈ [20, 21, 22] → set { put with cap := { s.cap with
            hEff := min 2000 (soft.hardness + (soft.ironWeight * soft.iron + 5) / 10) } })
        ∧ (id = 35 → s.disc.state ≠ .atPosition ∨ s.disc.mode = discModeOf n ∨ n = 1 ∧ s.seq.changeover ≠ none → set put)
        ∧ (id = 35 → s.disc.state = .atPosition → n = 1 → s.disc.mode = .auto → s.seq.changeover = none → ∃ u, set u
          ∧ u.disc = { s.disc with mode := .manual } ∧ ∀ k, (u.tank k).service = (s.tank k).service ∧ (u.tank k).claim ≠ .pending
            ∧ ((s.tank k).service = .exhausted → (u.tank k).deferral.manual = true))
        ∧ (id = 35 → s.disc.state = .atPosition → n = 0 → s.disc.mode = .manual → ∃ u, set u ∧ u.disc.mode = .auto)
        ∧ (id.toNat ∈ [40, 41] → ¬ same → s.filter.state = .flushing → set put)
        ∧ (id.toNat ∈ [40, 41] → ¬ same → s.filter.state ≠ .flushing → ∃ u, set u ∧ u.filter.state =
            (if s.filter.acq < 60 then .clean else if filter.blockIndex ≤ s.filter.rs10 / 10 then .blocked
              else if filter.flushIndex ≤ s.filter.rs10 / 10 then .loaded else .clean)
          ∧ u = { put with filter := u.filter, notices := u.notices })
        ∧ (id = 50 → ¬ same → set { put with leak := { s.leak with detector := { s.leak.detector with
            active := s.leak.detector.active.map fun _ => thresholdSet put.settings.user.leak } } })
        ∧ (id = 51 → n = 1 → s.leak.latch = none → set put)
        ∧ (id = 51 → n = 1 → s.leak.latch ≠ none → ∃ u, set u ∧ u.valve.reasons = { s.valve.reasons with trip := true })
        ∧ (id = 51 → n = 0 → ∃ u, set u ∧ u.valve.reasons.trip = false)
        ∧ (id = 69 → n = 1 → s.supply.state ≠ .batteryLow → set put)
        ∧ (id = 69 → n = 1 → s.supply.state = .batteryLow →
          ∃ u, set u ∧ u.valve.reasons = { s.valve.reasons with lowBattery := true })
        ∧ (id = 69 → n = 0 → ∃ u, set u ∧ u.valve.reasons.lowBattery = false)
        ∧ (id = 81 → ¬ same → s.settings.inst.sensorFitted = true → set put)
        ∧ (id = 81 → ¬ same → s.settings.inst.sensorFitted = false → ∃ u, set u ∧ u.brine.salt = byMass s.brine.inventory
          ∧ u = { put with brine := u.brine, notices := u.notices }))

/-- NOTICE_TAKE and HISTORY_READ with their completion (R17, R183): the reply carries the oldest four notices, and its completion removes
them; it carries up to 20 records from the cursor, and its completion moves the cursor past them and clears the GAP it reported. -/
def Obligations.NoticesAndHistoryAreTaken : Prop :=
  ∀ (svc : Bool) (tag : Byte) (s : State), s.free → s.link.held = none →
    let w := frameDropped (s.withSvc svc)
    ((∀ n ∈ s.notices.queue, n.inFlight = false) →
      let u := buildReply (Request.noticeTake.frame tag) 0x86 ({ w with notices := { s.notices with
          queue := (s.notices.queue.take 4).map (fun n => { n with inFlight := true }) ++ s.notices.queue.drop 4 } },
        { status := .ok, body := noticesBody s, completion := .noticeTake })
      exec (.noticeTake tag svc) s = commit s u
      ∧ ∀ again, ∃ t, exec (.replyComplete again) (s.since u) = .next t ∧ t.notices.queue = s.notices.queue.drop 4
        ∧ t.link.handling = none)
    ∧ ((∀ r ∈ s.meter.history.ring, r.inFlight = false) → s.meter.history.cursor ≤ s.meter.history.ring.length →
      let h := s.meter.history
      let n := min 20 (h.ring.length - h.cursor)
      ∃ v, v = { w with meter := v.meter } ∧
      let u := buildReply (Request.historyRead.frame tag) 0x88
        (v, { status := .ok, body := historyBody s, completion := .historyRead n h.gap })
      exec (.historyRead tag svc) s = commit s u
      ∧ ∀ again, ∃ t, exec (.replyComplete again) (s.since u) = .next t ∧ t.meter.history.ring = h.ring
        ∧ t.meter.history.cursor = h.cursor + n ∧ t.meter.history.gap = false ∧ t.link.handling = none)

/-- The clears, CLOCK_SET, DEFAULTS_RESTORE and RESET (R8, R19, R178, R179, R187, R189): each clears what its rule names; a second of day
above 86399 is BAD_VALUE, and a set counter is no longer CLOCK_UNSET; the restore returns the user settings, and with SVCn every setting,
the roster, the learned factors and the Fault Log; the salt state is not changed by it (R102; that its evaluation at a change of low kg does
not come in a restore is DEDUCED, log entry 40). -/
def Obligations.ClearsAndRestores : Prop :=
  ∀ (svc : Bool) (tag : Byte) (s : State), s.free →
    let w := frameDropped (s.withSvc svc)
    exec (.historyClear tag svc) s
      = answers .historyClear tag s (follow { w with meter := { s.meter with history := {} } }) { status := .ok }
    ∧ exec (.totalsClear tag svc) s
      = answers .totalsClear tag s (follow { w with meter := { s.meter with totals := {} } }) { status := .ok }
    ∧ exec (.faultsClear tag svc) s = answers .faultsClear tag s (follow { w with faults := {} }) { status := .ok }
    ∧ exec (.reset tag svc) s = answers .reset tag s w { status := .ok, completion := .reset }
    ∧ (∀ (d : BitVec 16) (t : BitVec 32), 86399 < t.toNat →
        exec (.clockSet tag d t svc) s = answers (.clockSet d t) tag s w (declined .badValue))
    ∧ (∀ (d : BitVec 16) (t : BitVec 32), t.toNat ≤ 86399 → ∃ u,
        exec (.clockSet tag d t svc) s = answers (.clockSet d t) tag s (follow u)
            { status := .ok, body := stampField (d.toNat * 86400 + t.toNat) }
          ∧ u.clock = { day := d.toNat, second := t.toNat, unset := false } ∧ u.settings = s.settings
          ∧ u.brine.refillEnd = ((s.brine.refillEnd : Int) + (d.toNat * 86400 + t.toNat : Nat) - s.now).toNat
          ∧ (s.meter.hour.day = d.toNat → s.meter.hour.hour = t.toNat / 3600 → u.meter = s.meter))
    ∧ (svc = false → ∃ u, exec (.defaultsRestore tag svc) s
          = answers .defaultsRestore tag s (follow u) { status := .ok, body := [0] }
        ∧ u.settings = { s.settings with user := {} } ∧ u.pods = s.pods ∧ u.meter = s.meter
        ∧ (s.disc.mode = .auto → u.brine = s.brine))
    ∧ (svc = true → ∃ u, exec (.defaultsRestore tag svc) s
          = answers .defaultsRestore tag s (follow u) { status := .ok, body := [1] }
        ∧ u.settings = {} ∧ u.faults = {} ∧ (∀ n, u.slot n = {}) ∧ (∀ k, (u.record k).learned = 1000)
        ∧ u.meter.totals = s.meter.totals ∧ (s.disc.mode = .auto → u.brine.salt = s.brine.salt))

/-! ### Notices and the Fault Log (12_notices_fault_log_and_retained_memory.md) -/

/-- A posted notice (R181, R182) updates the queued state notice of its kind and subject, or is appended, or takes the place of the oldest
state notice in a full queue, or is lost with LOST; a reported fault (R186) counts in its record, or is recorded, or sets OVERFLOW, and
posts FAULT; a condition reported gone only clears the active flag. -/
def Obligations.NoticesAndFaultsAreKept : Prop :=
  (∀ (q : NoticeQueue) (n : Notice),
    (∀ pre m rest, q.queue = pre ++ m :: rest → isStateKind n.kind = true → m.kind = n.kind → m.subject = n.subject →
      (∀ x ∈ pre ++ rest, x.kind ≠ n.kind ∨ x.subject ≠ n.subject) →
      q.post n = { q with queue := pre ++ { m with
        stamp := n.stamp, v1 := n.v1, v2 := n.v2, v3 := n.v3, merges := min 255 (m.merges + 1), inFlight := false } :: rest })
    ∧ ((isStateKind n.kind = false ∨ ∀ x ∈ q.queue, x.kind ≠ n.kind ∨ x.subject ≠ n.subject) →
      (q.queue.length < 24 → q.post n = { q with queue := q.queue ++ [n] })
      ∧ (∀ pre m rest, q.queue.length = 24 → q.queue = pre ++ m :: rest → isStateKind m.kind = true →
        (∀ x ∈ pre, isStateKind x.kind = false) → q.post n = { q with queue := pre ++ rest ++ [n] })
      ∧ (q.queue.length = 24 → (∀ x ∈ q.queue, isStateKind x.kind = false) → q.post n = { q with lost := true })))
  ∧ ∀ (c : FaultCode) (u : Subject) (d : Int) (s : State),
    let t := faultReport c u d s
    (∀ pre r rest, s.faults.records = pre ++ r :: rest → r.code = c → r.subject = u →
      (∀ x ∈ pre ++ rest, x.code ≠ c ∨ x.subject ≠ u) →
      t = post .fault u (faultCodeOf c) d (min 255 (r.count + 1) : Nat) { s with faults := { s.faults with records :=
        pre ++ { r with last := s.now, count := min 255 (r.count + 1), detail := d, active := true } :: rest } }
      ∧ faultGone c u s
        = { s with faults := { s.faults with records := pre ++ { r with active := false } :: rest } })
    ∧ ((∀ x ∈ s.faults.records, x.code ≠ c ∨ x.subject ≠ u) → faultGone c u s = s
      ∧ (s.faults.records.length < 8 → t = post .fault u (faultCodeOf c) d 1 { s with faults := { s.faults with records :=
        s.faults.records ++ [{ code := c, subject := u, first := s.now, last := s.now, count := 1, active := true, detail := d }] } })
      ∧ (s.faults.records.length = 8 → t = post .fault u (faultCodeOf c) d 0 { s with faults := { s.faults with overflow := true } }))

/-! ### What holds of the whole part -/

/-- A request's payload says the request: decoding the kind and the payload of a well-formed request gives it back, and only that payload
gives it (section 11.3, R172). -/
def Obligations.RequestsRoundTrip : Prop :=
  (∀ r : Request, r.wf → parseRequest r.kind r.payload = .request r)
  ∧ ∀ (k : Byte) (p : List Byte) (r : Request), parseRequest k p = .request r → r.kind = k ∧ r.payload = p ∧ r.wf

/-- No step gives the process line two owners (R84), and none leaves the valve at rest or STUCK with its motor driven (R141, R143, R144). -/
def Obligations.LineKeepsOneOwner : Prop :=
  (∀ s t : State, s.line.oneOwner = true → step s = .next t → t.line.oneOwner = true)
  ∧ ∀ s t : State, s.valve.wf → step s = .next t → t.valve.wf

/-- Every step keeps the bounds of the notice queue, the Fault Log and the usage history, the state notices apart and the fault records
apart (R15, R181, R182, R186); the capacity records between −10,000,000 mg and what was credited (R28, R29, R35); and a roster without two
pods of one serial (R158). Each is said of the retained items, and of those that a lost group leaves (R190). -/
def Obligations.LogsStayBounded : Prop :=
  (∀ s t : State, s.Bounded → step s = .next t → t.Bounded)
  ∧ (∀ s t : State, s.CapacityBounded → step s = .next t → t.CapacityBounded)
  ∧ ∀ s t : State, s.RosterDistinct → step s = .next t → t.RosterDistinct

/-- The state after reset meets the invariants: at most one entry of the claim table is granted, the logs, the capacity records and the
roster are within their bounds, a valve at rest or STUCK has its motor stopped, and no request is being handled. -/
def Obligations.ResetMeetsTheInvariants : Prop :=
  State.reset.line.oneOwner = true ∧ State.reset.Bounded ∧ State.reset.CapacityBounded ∧ State.reset.RosterDistinct
  ∧ State.reset.valve.wf ∧ State.reset.free

end Statements
end

