-- ==== Sys2Proof/Laws/Calm.lean ====
section
/-! SUPPORT. What the sequencer, the arbiter and the standing rules leave unchanged: the settings, the counter, the Metering Unit, the
pods, the link, the supply, the Fault Log, the queue of commands, the trip latch, the detector, the test record, the close reasons
other than TEST, and the exercise day count. `State.calm` gathers those fields, so that one lemma for each operation says that all of
them stay. -/

namespace Sys2Proof.Machine

/-- The fields that no operation of the sequencer and the arbiter changes. -/
structure Calm where
  settings : Settings
  clock : Clock
  meter : Metering
  supply : Supply
  pods : Pods
  link : Link
  faults : FaultLog
  pending : List Instr
  detector : Detector
  latch : Option Trip
  record : TestRecord
  host : Bool
  trip : Bool
  lowBattery : Bool
  exerciseDays : Nat

/-- Those fields of a state. -/
def State.calm (s : State) : Calm :=
  ⟨s.settings, s.clock, s.meter, s.supply, s.pods, s.link, s.faults, s.pending, s.leak.detector, s.leak.latch,
   s.leak.record, s.valve.reasons.host, s.valve.reasons.trip, s.valve.reasons.lowBattery, s.valve.exerciseDays⟩

theorem calm_update (s : State) (cap : Capacity) (disc : Disc) (seq : Sequencer) (line : Line) (brine : Brine)
    (filter : Filter) (notices : NoticeQueue) (pins : Pins) :
    State.calm ⟨s.settings, s.clock, s.meter, cap, disc, seq, line, brine, filter, s.leak, s.valve, s.supply, s.pods,
      s.link, notices, s.faults, pins, s.before, s.pending⟩ = s.calm := rfl

theorem calm_valve (s : State) (line : Line) (filter : Filter) (notices : NoticeQueue) (pins : Pins) (v : ValveState)
    (test : Bool) (d : Drive) (p : Pause) (second retried : Bool) (travel oc : Nat) (stuck : Option StuckCause)
    (tag : Option Byte) (e : ExercisePhase) (et : Nat) (rel : Bool) :
    State.calm { s with
      line := line, filter := filter, notices := notices, pins := pins
      valve := ⟨v, ⟨s.valve.reasons.trip, s.valve.reasons.host, test, s.valve.reasons.lowBattery⟩, d, p, second, retried, travel,
        oc, stuck, tag, e, et, s.valve.exerciseDays, rel⟩ } = s.calm := rfl

theorem calm_valve' (s : State) (line : Line) (filter : Filter) (notices : NoticeQueue) (pins : Pins) (v : ValveState)
    (d : Drive) (p : Pause) (second retried : Bool) (travel oc : Nat) (stuck : Option StuckCause)
    (tag : Option Byte) (e : ExercisePhase) (et : Nat) (rel : Bool) :
    State.calm { s with
      line := line, filter := filter, notices := notices, pins := pins
      valve := ⟨v, s.valve.reasons, d, p, second, retried, travel, oc, stuck, tag, e, et, s.valve.exerciseDays, rel⟩ } =
      s.calm := rfl

theorem calm_ite (c : Prop) [Decidable c] (a b : State) : (if c then a else b).calm = if c then a.calm else b.calm := by
  split <;> rfl

theorem calm_post (k : NoticeKind) (u : Subject) (a b c : Int) (s : State) : (post k u a b c s).calm = s.calm := rfl

theorem calm_post1 (k : NoticeKind) (u : Subject) (a : Int) (s : State) : (post1 k u a s).calm = s.calm := rfl

theorem calm_post2 (k : NoticeKind) (u : Subject) (a b : Int) (s : State) : (post2 k u a b s).calm = s.calm := rfl

theorem calm_requestDone (u : Subject) (t : Byte) (k : Nat) (o : DoneOutcome) (v : Int) (s : State) :
    (requestDone u t k o v s).calm = s.calm := rfl

theorem calm_requestDoneIf (u : Subject) (t : Option Byte) (k : Nat) (o : DoneOutcome) (v : Int) (s : State) :
    (requestDoneIf u t k o v s).calm = s.calm := by cases t <;> rfl

theorem calm_withTank (t : Tank) (r : TankRecord) (s : State) : (s.withTank t r).calm = s.calm := rfl

theorem calm_withRecord (t : Tank) (r : CapacityRecord) (s : State) : (s.withRecord t r).calm = s.calm := rfl

theorem calm_postTank (t : Tank) (s : State) : (postTank t s).calm = s.calm := rfl

theorem calm_changeTank (t : Tank) (r : TankRecord) (s : State) : (changeTank t r s).calm = s.calm := by
  unfold changeTank; dsimp only; split <;> rfl

/-! ### The Brine Monitor -/

theorem calm_saltReminder (n : Nat) (s : State) : (saltReminder n s).calm = s.calm := rfl

theorem calm_forecastReminder (s : State) : (forecastReminder s).calm = s.calm := by
  unfold forecastReminder; dsimp only; repeat' split
  all_goals rfl

theorem calm_setSalt (n : SaltState) (s : State) : (setSalt n s).calm = s.calm := by
  unfold setSalt; dsimp only; repeat' split
  all_goals rfl

theorem calm_evaluateSaltMass (s : State) : (evaluateSaltMass s).calm = s.calm := by
  unfold evaluateSaltMass; split
  · rfl
  · exact calm_setSalt _ s

theorem calm_brineRegenEnd (s : State) : (brineRegenEnd s).calm = s.calm := by
  unfold brineRegenEnd; simp only [calm_forecastReminder, calm_evaluateSaltMass]; rfl

theorem calm_brineStart (t : Tank) (s : State) : (brineStart t s).calm = s.calm := rfl

theorem calm_brineEnd (s : State) : (brineEnd s).calm = s.calm := by unfold brineEnd; split <;> rfl

theorem calm_refillStart (t : Tank) (s : State) : (refillStart t s).calm = s.calm := rfl

theorem calm_creditTank (t : Tank) (b : Nat) (s : State) : (creditTank t b s).calm = s.calm := rfl

/-! ### The disc -/

theorem calm_discRequest (p : Pos) (s : State) : (discRequest p s).calm = s.calm := by
  unfold discRequest; split <;> rfl

/-! ### Scheduling -/

theorem calm_defer (t : Tank) (r : DeferReason) (s : State) : (defer t r s).calm = s.calm := by
  unfold defer; dsimp only; split <;> rfl

theorem calm_withdrawRegen (t : Tank) (s : State) : (withdrawRegen t s).calm = s.calm := by
  unfold withdrawRegen; dsimp only; repeat' split
  all_goals rfl

theorem calm_askProjection (t : Tank) (s : State) : (askProjection t s).calm = s.calm := by
  unfold askProjection; dsimp only; repeat' split
  all_goals rfl

theorem calm_forceUrgent (t : Tank) (s : State) : (forceUrgent t s).calm = s.calm := rfl

theorem calm_stepStarted (t : Tank) (k : Step) (s : State) : (stepStarted t k s).calm = s.calm := by cases k <;> rfl

theorem calm_enterOtherStep (t : Tank) (k : Step) (s : State) : (enterOtherStep t k s).calm = s.calm := by
  unfold enterOtherStep; dsimp only
  split <;> simp only [calm_stepStarted, calm_changeTank, calm_brineEnd]

theorem calm_stepArrival (t : Tank) (k : Step) (s : State) : (stepArrival t k s).calm = s.calm := by
  unfold stepArrival; dsimp only
  repeat' split
  all_goals simp only [calm_stepStarted, calm_changeTank, calm_enterOtherStep]

theorem calm_changeArrival (t : Tank) (s : State) : (changeArrival t s).calm = s.calm := by
  unfold changeArrival; simp only [calm_update, calm_changeTank]

theorem calm_changeoverBegin (s : State) : (changeoverBegin s).calm = s.calm := by
  unfold changeoverBegin; dsimp only
  repeat' split
  all_goals simp only [calm_update, calm_changeArrival, calm_discRequest]

theorem calm_changeoverPending (t : Tank) (s : State) : (changeoverPending t s).calm = s.calm := by
  unfold changeoverPending; dsimp only
  split <;> simp only [calm_forceUrgent, calm_post1]

theorem calm_takeExhaustion (t : Tank) (s : State) : (takeExhaustion t s).calm = s.calm := by
  unfold takeExhaustion; dsimp only
  repeat' split
  all_goals simp only [calm_update, calm_changeoverBegin, calm_changeoverPending]

theorem calm_deferFailing (t : Tank) (s : State) : (deferFailing t s).calm = s.calm := by
  have step : ∀ (l : List (Bool × DeferReason)) (u : State),
      (l.foldl (fun s c => if c.1 then s else defer t c.2 s) u).calm = u.calm := by
    intro l
    induction l with
    | nil => intro u; rfl
    | cons c l ih => intro u; rw [List.foldl_cons, ih]; split
                     · rfl
                     · exact calm_defer _ _ _
  exact step _ s

theorem calm_manualReported (s : State) : (manualReported s).calm = s.calm := by
  unfold manualReported; dsimp only
  repeat' split
  all_goals simp only [calm_defer, calm_withdrawRegen]

theorem calm_applyManual (s : State) : (applyManual s).calm = s.calm := by
  unfold applyManual; split
  · simp only [calm_manualReported, calm_update]
  · rfl

/-! ### The valve, driven by the test from OPEN -/

theorem calm_setFilter (n : FilterState) (s : State) : (setFilter n s).calm = s.calm := by
  unfold setFilter; dsimp only; split <;> rfl

theorem calm_filterEvaluateNow (s : State) : (filterEvaluateNow s).calm = s.calm := calm_setFilter _ s

theorem calm_filterEvaluate (s : State) : (filterEvaluate s).calm = s.calm := by
  unfold filterEvaluate; split
  · rfl
  · exact calm_setFilter _ s

theorem calm_flushStart (s : State) : (flushStart s).calm = s.calm := by
  unfold flushStart; simp only [calm_update, calm_setFilter]

theorem calm_dropFlush (s : State) : (dropFlush s).calm = s.calm := by unfold dropFlush; split <;> rfl

theorem calm_flushCut (s : State) : (flushCut s).calm = s.calm := by
  unfold flushCut; split
  · simp only [calm_post, calm_dropFlush, calm_filterEvaluateNow, calm_update]
  · rfl

theorem calm_valveChange (v : ValveState) (s : State) : (valveChange v s).calm = s.calm := by
  unfold valveChange; dsimp only
  repeat' split
  all_goals simp only [calm_flushCut, calm_post, calm_valve']

theorem calm_answerTag (s : State) : (answerTag s).calm = s.calm := by
  unfold answerTag; dsimp only
  repeat' split
  all_goals simp only [calm_requestDone, calm_valve']

theorem calm_drive (e : ValveEnd) (s : State) : (drive e s).calm = s.calm := rfl

theorem calm_beginTravel (s : State) : (beginTravel s).calm = s.calm := by
  unfold beginTravel driveOrArrive valveArrive; dsimp only
  repeat' split
  all_goals first
    | (simp only [calm_drive, calm_answerTag, calm_valveChange, calm_valve']; done)
    | (rename_i h _; exact absurd h (by decide))

theorem calm_reverseTravel (s : State) : (reverseTravel s).calm = s.calm := by
  unfold reverseTravel; simp only [calm_valveChange, calm_valve']

theorem calm_addTest (s : State) (h : s.valve.state = .opened) : (addReason .test s).calm = s.calm := by
  unfold addReason targetBecameClosed; dsimp only; rw [h]; dsimp only [Reasons.put]
  split
  · rfl
  · rw [calm_beginTravel]; rfl

theorem calm_testAccept (s : State) (h : s.valve.state = .opened) : (testAccept s).calm = s.calm := by
  unfold testAccept; dsimp only; rw [calm_addTest]
  · rfl
  · exact h

/-! ### Grants and claims -/

theorem calm_askStepMove (t : Tank) (k : Step) (s : State) : (askStepMove t k s).calm = s.calm := by
  unfold askStepMove; dsimp only
  split <;> simp only [calm_applyManual, calm_stepArrival, calm_discRequest]

theorem calm_grantRegen (e : RegenEntry) (s : State) : (grantRegen e s).calm = s.calm := by
  unfold grantRegen; dsimp only
  split <;> simp only [calm_askStepMove, calm_changeTank, calm_withTank, calm_update]

theorem calm_grantFlush (e : FlushEntry) (s : State) : (grantFlush e s).calm = s.calm := by
  unfold grantFlush; simp only [calm_flushStart, calm_update]

theorem calm_grantTest (s : State) (h : s.valve.state = .opened) : (grantTest s).calm = s.calm := by
  unfold grantTest; dsimp only
  repeat' split
  · exact calm_testAccept _ h
  all_goals simp only [calm_grantFlush, calm_update]

theorem calm_grantDecision (s : State) : (grantDecision s).calm = s.calm := by
  unfold grantDecision
  split
  · rename_i h
    have hv : s.valve.state = .opened := by
      simp only [grantAllowed, Bool.and_eq_true, beq_iff_eq] at h; exact h.2
    split <;> simp only [calm_grantRegen, calm_grantFlush, calm_grantTest _ hv]
  · rfl

theorem calm_claimRegen (t : Tank) (c : Bool) (s : State) : (claimRegen t c s).calm = s.calm := by
  unfold claimRegen; dsimp only
  repeat' split
  all_goals simp only [calm_grantDecision, calm_update, calm_withTank]

theorem calm_keepClaim (t : Tank) (s : State) : (keepClaim t s).calm = s.calm := by
  unfold keepClaim; split <;> simp only [calm_claimRegen]

theorem calm_changeDecision (s : State) : (changeDecision s).calm = s.calm := by
  unfold changeDecision; simp only [calm_grantDecision, calm_keepClaim]

theorem calm_claimFlush (h : Bool) (s : State) : (claimFlush h s).calm = s.calm := by
  unfold claimFlush; dsimp only
  repeat' split
  all_goals simp only [calm_grantDecision, calm_update]

theorem calm_claimTest (s : State) : (claimTest s).calm = s.calm := by
  unfold claimTest; split <;> simp only [calm_grantDecision, calm_update]

theorem calm_releaseRegen (s : State) : (releaseRegen s).calm = s.calm := by
  unfold releaseRegen; split <;> simp only [calm_grantDecision, calm_update]

theorem calm_releaseFlush (s : State) : (releaseFlush s).calm = s.calm := by
  unfold releaseFlush; split <;> simp only [calm_grantDecision, calm_update]

theorem calm_giveUpTest (s : State) : (giveUpTest s).calm = s.calm := by
  unfold giveUpTest; split <;> simp only [calm_grantDecision, calm_update]

theorem calm_flushClaim (s : State) : (flushClaim s).calm = s.calm := by
  unfold flushClaim; dsimp only
  repeat' split
  all_goals simp only [calm_claimFlush]

/-! ### Arrivals and moves -/

theorem calm_regenEnd (t : Tank) (s : State) : (regenEnd t s).calm = s.calm := by
  unfold regenEnd
  simp only [calm_changeoverBegin, calm_requestDoneIf, calm_withTank, calm_post, calm_releaseRegen, calm_withdrawRegen,
    calm_brineRegenEnd, calm_creditTank, calm_changeTank]

theorem calm_holdArrival (t : Tank) (d : Nat) (s : State) : (holdArrival t d s).calm = s.calm := by
  unfold holdArrival
  simp only [calm_askProjection, calm_requestDoneIf, calm_withTank, calm_post2, calm_update, calm_changeTank, clearRun]

theorem calm_commission (p : Pos) (s : State) : (commission p s).calm = s.calm := by
  unfold commission; dsimp only; split <;> simp only [calm_changeTank]

theorem calm_sequencerArrival (p : Pos) (s : State) : (sequencerArrival p s).calm = s.calm := by
  unfold sequencerArrival
  repeat' split
  all_goals simp only [calm_changeArrival, calm_holdArrival, calm_regenEnd, calm_stepArrival, calm_commission]

theorem calm_askMove (p : Pos) (s : State) : (askMove p s).calm = s.calm := by
  unfold askMove; dsimp only
  split <;> simp only [calm_applyManual, calm_sequencerArrival, calm_discRequest]

theorem calm_stepMove (t : Tank) (s : State) : (stepMove t s).calm = s.calm := by
  unfold stepMove; dsimp only
  repeat' split
  all_goals simp only [calm_askMove, calm_changeTank]

theorem calm_regenClaim (t : Tank) (s : State) : (regenClaim t s).calm = s.calm := by
  unfold regenClaim
  repeat' split
  all_goals simp only [calm_keepClaim, calm_deferFailing, calm_withdrawRegen]

theorem calm_suspension (t : Tank) (s : State) : (suspension t s).calm = s.calm := calm_changeTank _ _ _

/-- What follows every event leaves the settings, the counter, the Metering Unit, the supply, the pods, the link, the Fault Log
and the queue of commands as they were. -/
theorem calm_follow (s : State) : (follow s).calm = s.calm := by
  unfold follow standing
  split <;> simp only [calm_suspension, calm_flushClaim, calm_regenClaim, calm_stepMove]

@[simp] theorem follow_settings (s : State) : (follow s).settings = s.settings := congrArg Calm.settings (calm_follow s)
@[simp] theorem follow_clock (s : State) : (follow s).clock = s.clock := congrArg Calm.clock (calm_follow s)
@[simp] theorem follow_meter (s : State) : (follow s).meter = s.meter := congrArg Calm.meter (calm_follow s)
@[simp] theorem follow_supply (s : State) : (follow s).supply = s.supply := congrArg Calm.supply (calm_follow s)
@[simp] theorem follow_pods (s : State) : (follow s).pods = s.pods := congrArg Calm.pods (calm_follow s)
@[simp] theorem follow_link (s : State) : (follow s).link = s.link := congrArg Calm.link (calm_follow s)
@[simp] theorem follow_faults (s : State) : (follow s).faults = s.faults := congrArg Calm.faults (calm_follow s)
@[simp] theorem follow_pending (s : State) : (follow s).pending = s.pending := congrArg Calm.pending (calm_follow s)
@[simp] theorem follow_detector (s : State) : (follow s).leak.detector = s.leak.detector :=
  congrArg Calm.detector (calm_follow s)
@[simp] theorem follow_latch (s : State) : (follow s).leak.latch = s.leak.latch := congrArg Calm.latch (calm_follow s)
@[simp] theorem follow_record (s : State) : (follow s).leak.record = s.leak.record := congrArg Calm.record (calm_follow s)
@[simp] theorem follow_host (s : State) : (follow s).valve.reasons.host = s.valve.reasons.host :=
  congrArg Calm.host (calm_follow s)
@[simp] theorem follow_trip (s : State) : (follow s).valve.reasons.trip = s.valve.reasons.trip :=
  congrArg Calm.trip (calm_follow s)
@[simp] theorem follow_lowBattery (s : State) : (follow s).valve.reasons.lowBattery = s.valve.reasons.lowBattery :=
  congrArg Calm.lowBattery (calm_follow s)
@[simp] theorem follow_exerciseDays (s : State) : (follow s).valve.exerciseDays = s.valve.exerciseDays :=
  congrArg Calm.exerciseDays (calm_follow s)

end Sys2Proof.Machine
end

