-- ==== Sys2Proof/Laws/State.lean ====
section
/-! SUPPORT. What each shared update leaves of the state: one lemma for each field, and what it makes of the field it changes. -/

namespace Sys2Proof.Machine

/-! ### post -/

@[simp] theorem post_settings (k : NoticeKind) (u : Subject) (a b c : Int) (s : State) :
    (post k u a b c s).settings = s.settings := rfl
@[simp] theorem post_clock (k : NoticeKind) (u : Subject) (a b c : Int) (s : State) :
    (post k u a b c s).clock = s.clock := rfl
@[simp] theorem post_meter (k : NoticeKind) (u : Subject) (a b c : Int) (s : State) :
    (post k u a b c s).meter = s.meter := rfl
@[simp] theorem post_cap (k : NoticeKind) (u : Subject) (a b c : Int) (s : State) :
    (post k u a b c s).cap = s.cap := rfl
@[simp] theorem post_disc (k : NoticeKind) (u : Subject) (a b c : Int) (s : State) :
    (post k u a b c s).disc = s.disc := rfl
@[simp] theorem post_seq (k : NoticeKind) (u : Subject) (a b c : Int) (s : State) :
    (post k u a b c s).seq = s.seq := rfl
@[simp] theorem post_line (k : NoticeKind) (u : Subject) (a b c : Int) (s : State) :
    (post k u a b c s).line = s.line := rfl
@[simp] theorem post_brine (k : NoticeKind) (u : Subject) (a b c : Int) (s : State) :
    (post k u a b c s).brine = s.brine := rfl
@[simp] theorem post_filter (k : NoticeKind) (u : Subject) (a b c : Int) (s : State) :
    (post k u a b c s).filter = s.filter := rfl
@[simp] theorem post_leak (k : NoticeKind) (u : Subject) (a b c : Int) (s : State) :
    (post k u a b c s).leak = s.leak := rfl
@[simp] theorem post_valve (k : NoticeKind) (u : Subject) (a b c : Int) (s : State) :
    (post k u a b c s).valve = s.valve := rfl
@[simp] theorem post_supply (k : NoticeKind) (u : Subject) (a b c : Int) (s : State) :
    (post k u a b c s).supply = s.supply := rfl
@[simp] theorem post_pods (k : NoticeKind) (u : Subject) (a b c : Int) (s : State) :
    (post k u a b c s).pods = s.pods := rfl
@[simp] theorem post_link (k : NoticeKind) (u : Subject) (a b c : Int) (s : State) :
    (post k u a b c s).link = s.link := rfl
@[simp] theorem post_faults (k : NoticeKind) (u : Subject) (a b c : Int) (s : State) :
    (post k u a b c s).faults = s.faults := rfl
@[simp] theorem post_pins (k : NoticeKind) (u : Subject) (a b c : Int) (s : State) :
    (post k u a b c s).pins = s.pins := rfl
@[simp] theorem post_before (k : NoticeKind) (u : Subject) (a b c : Int) (s : State) :
    (post k u a b c s).before = s.before := rfl
@[simp] theorem post_pending (k : NoticeKind) (u : Subject) (a b c : Int) (s : State) :
    (post k u a b c s).pending = s.pending := rfl

/-! ### post1 -/

@[simp] theorem post1_settings (k : NoticeKind) (u : Subject) (a : Int) (s : State) :
    (post1 k u a s).settings = s.settings := rfl
@[simp] theorem post1_clock (k : NoticeKind) (u : Subject) (a : Int) (s : State) :
    (post1 k u a s).clock = s.clock := rfl
@[simp] theorem post1_meter (k : NoticeKind) (u : Subject) (a : Int) (s : State) :
    (post1 k u a s).meter = s.meter := rfl
@[simp] theorem post1_cap (k : NoticeKind) (u : Subject) (a : Int) (s : State) : (post1 k u a s).cap = s.cap := rfl
@[simp] theorem post1_disc (k : NoticeKind) (u : Subject) (a : Int) (s : State) : (post1 k u a s).disc = s.disc := rfl
@[simp] theorem post1_seq (k : NoticeKind) (u : Subject) (a : Int) (s : State) : (post1 k u a s).seq = s.seq := rfl
@[simp] theorem post1_line (k : NoticeKind) (u : Subject) (a : Int) (s : State) : (post1 k u a s).line = s.line := rfl
@[simp] theorem post1_brine (k : NoticeKind) (u : Subject) (a : Int) (s : State) :
    (post1 k u a s).brine = s.brine := rfl
@[simp] theorem post1_filter (k : NoticeKind) (u : Subject) (a : Int) (s : State) :
    (post1 k u a s).filter = s.filter := rfl
@[simp] theorem post1_leak (k : NoticeKind) (u : Subject) (a : Int) (s : State) : (post1 k u a s).leak = s.leak := rfl
@[simp] theorem post1_valve (k : NoticeKind) (u : Subject) (a : Int) (s : State) :
    (post1 k u a s).valve = s.valve := rfl
@[simp] theorem post1_supply (k : NoticeKind) (u : Subject) (a : Int) (s : State) :
    (post1 k u a s).supply = s.supply := rfl
@[simp] theorem post1_pods (k : NoticeKind) (u : Subject) (a : Int) (s : State) : (post1 k u a s).pods = s.pods := rfl
@[simp] theorem post1_link (k : NoticeKind) (u : Subject) (a : Int) (s : State) : (post1 k u a s).link = s.link := rfl
@[simp] theorem post1_faults (k : NoticeKind) (u : Subject) (a : Int) (s : State) :
    (post1 k u a s).faults = s.faults := rfl
@[simp] theorem post1_pins (k : NoticeKind) (u : Subject) (a : Int) (s : State) : (post1 k u a s).pins = s.pins := rfl
@[simp] theorem post1_before (k : NoticeKind) (u : Subject) (a : Int) (s : State) : (post1 k u a s).before = s.before := rfl
@[simp] theorem post1_pending (k : NoticeKind) (u : Subject) (a : Int) (s : State) :
    (post1 k u a s).pending = s.pending := rfl

/-! ### post2 -/

@[simp] theorem post2_settings (k : NoticeKind) (u : Subject) (a b : Int) (s : State) :
    (post2 k u a b s).settings = s.settings := rfl
@[simp] theorem post2_clock (k : NoticeKind) (u : Subject) (a b : Int) (s : State) :
    (post2 k u a b s).clock = s.clock := rfl
@[simp] theorem post2_meter (k : NoticeKind) (u : Subject) (a b : Int) (s : State) :
    (post2 k u a b s).meter = s.meter := rfl
@[simp] theorem post2_cap (k : NoticeKind) (u : Subject) (a b : Int) (s : State) : (post2 k u a b s).cap = s.cap := rfl
@[simp] theorem post2_disc (k : NoticeKind) (u : Subject) (a b : Int) (s : State) :
    (post2 k u a b s).disc = s.disc := rfl
@[simp] theorem post2_seq (k : NoticeKind) (u : Subject) (a b : Int) (s : State) : (post2 k u a b s).seq = s.seq := rfl
@[simp] theorem post2_line (k : NoticeKind) (u : Subject) (a b : Int) (s : State) :
    (post2 k u a b s).line = s.line := rfl
@[simp] theorem post2_brine (k : NoticeKind) (u : Subject) (a b : Int) (s : State) :
    (post2 k u a b s).brine = s.brine := rfl
@[simp] theorem post2_filter (k : NoticeKind) (u : Subject) (a b : Int) (s : State) :
    (post2 k u a b s).filter = s.filter := rfl
@[simp] theorem post2_leak (k : NoticeKind) (u : Subject) (a b : Int) (s : State) :
    (post2 k u a b s).leak = s.leak := rfl
@[simp] theorem post2_valve (k : NoticeKind) (u : Subject) (a b : Int) (s : State) :
    (post2 k u a b s).valve = s.valve := rfl
@[simp] theorem post2_supply (k : NoticeKind) (u : Subject) (a b : Int) (s : State) :
    (post2 k u a b s).supply = s.supply := rfl
@[simp] theorem post2_pods (k : NoticeKind) (u : Subject) (a b : Int) (s : State) :
    (post2 k u a b s).pods = s.pods := rfl
@[simp] theorem post2_link (k : NoticeKind) (u : Subject) (a b : Int) (s : State) :
    (post2 k u a b s).link = s.link := rfl
@[simp] theorem post2_faults (k : NoticeKind) (u : Subject) (a b : Int) (s : State) :
    (post2 k u a b s).faults = s.faults := rfl
@[simp] theorem post2_pins (k : NoticeKind) (u : Subject) (a b : Int) (s : State) :
    (post2 k u a b s).pins = s.pins := rfl
@[simp] theorem post2_before (k : NoticeKind) (u : Subject) (a b : Int) (s : State) :
    (post2 k u a b s).before = s.before := rfl
@[simp] theorem post2_pending (k : NoticeKind) (u : Subject) (a b : Int) (s : State) :
    (post2 k u a b s).pending = s.pending := rfl

/-! ### requestDone -/

@[simp] theorem requestDone_settings (u : Subject) (t : Byte) (k : Nat) (o : DoneOutcome) (v : Int) (s : State) :
    (requestDone u t k o v s).settings = s.settings := rfl
@[simp] theorem requestDone_clock (u : Subject) (t : Byte) (k : Nat) (o : DoneOutcome) (v : Int) (s : State) :
    (requestDone u t k o v s).clock = s.clock := rfl
@[simp] theorem requestDone_meter (u : Subject) (t : Byte) (k : Nat) (o : DoneOutcome) (v : Int) (s : State) :
    (requestDone u t k o v s).meter = s.meter := rfl
@[simp] theorem requestDone_cap (u : Subject) (t : Byte) (k : Nat) (o : DoneOutcome) (v : Int) (s : State) :
    (requestDone u t k o v s).cap = s.cap := rfl
@[simp] theorem requestDone_disc (u : Subject) (t : Byte) (k : Nat) (o : DoneOutcome) (v : Int) (s : State) :
    (requestDone u t k o v s).disc = s.disc := rfl
@[simp] theorem requestDone_seq (u : Subject) (t : Byte) (k : Nat) (o : DoneOutcome) (v : Int) (s : State) :
    (requestDone u t k o v s).seq = s.seq := rfl
@[simp] theorem requestDone_line (u : Subject) (t : Byte) (k : Nat) (o : DoneOutcome) (v : Int) (s : State) :
    (requestDone u t k o v s).line = s.line := rfl
@[simp] theorem requestDone_brine (u : Subject) (t : Byte) (k : Nat) (o : DoneOutcome) (v : Int) (s : State) :
    (requestDone u t k o v s).brine = s.brine := rfl
@[simp] theorem requestDone_filter (u : Subject) (t : Byte) (k : Nat) (o : DoneOutcome) (v : Int) (s : State) :
    (requestDone u t k o v s).filter = s.filter := rfl
@[simp] theorem requestDone_leak (u : Subject) (t : Byte) (k : Nat) (o : DoneOutcome) (v : Int) (s : State) :
    (requestDone u t k o v s).leak = s.leak := rfl
@[simp] theorem requestDone_valve (u : Subject) (t : Byte) (k : Nat) (o : DoneOutcome) (v : Int) (s : State) :
    (requestDone u t k o v s).valve = s.valve := rfl
@[simp] theorem requestDone_supply (u : Subject) (t : Byte) (k : Nat) (o : DoneOutcome) (v : Int) (s : State) :
    (requestDone u t k o v s).supply = s.supply := rfl
@[simp] theorem requestDone_pods (u : Subject) (t : Byte) (k : Nat) (o : DoneOutcome) (v : Int) (s : State) :
    (requestDone u t k o v s).pods = s.pods := rfl
@[simp] theorem requestDone_link (u : Subject) (t : Byte) (k : Nat) (o : DoneOutcome) (v : Int) (s : State) :
    (requestDone u t k o v s).link = s.link := rfl
@[simp] theorem requestDone_faults (u : Subject) (t : Byte) (k : Nat) (o : DoneOutcome) (v : Int) (s : State) :
    (requestDone u t k o v s).faults = s.faults := rfl
@[simp] theorem requestDone_pins (u : Subject) (t : Byte) (k : Nat) (o : DoneOutcome) (v : Int) (s : State) :
    (requestDone u t k o v s).pins = s.pins := rfl
@[simp] theorem requestDone_before (u : Subject) (t : Byte) (k : Nat) (o : DoneOutcome) (v : Int) (s : State) :
    (requestDone u t k o v s).before = s.before := rfl
@[simp] theorem requestDone_pending (u : Subject) (t : Byte) (k : Nat) (o : DoneOutcome) (v : Int) (s : State) :
    (requestDone u t k o v s).pending = s.pending := rfl

/-! ### requestDoneIf -/

@[simp] theorem requestDoneIf_settings (u : Subject) (t : Option Byte) (k : Nat) (o : DoneOutcome) (v : Int) (s : State) :
    (requestDoneIf u t k o v s).settings = s.settings := by cases t <;> rfl
@[simp] theorem requestDoneIf_clock (u : Subject) (t : Option Byte) (k : Nat) (o : DoneOutcome) (v : Int) (s : State) :
    (requestDoneIf u t k o v s).clock = s.clock := by cases t <;> rfl
@[simp] theorem requestDoneIf_meter (u : Subject) (t : Option Byte) (k : Nat) (o : DoneOutcome) (v : Int) (s : State) :
    (requestDoneIf u t k o v s).meter = s.meter := by cases t <;> rfl
@[simp] theorem requestDoneIf_cap (u : Subject) (t : Option Byte) (k : Nat) (o : DoneOutcome) (v : Int) (s : State) :
    (requestDoneIf u t k o v s).cap = s.cap := by cases t <;> rfl
@[simp] theorem requestDoneIf_disc (u : Subject) (t : Option Byte) (k : Nat) (o : DoneOutcome) (v : Int) (s : State) :
    (requestDoneIf u t k o v s).disc = s.disc := by cases t <;> rfl
@[simp] theorem requestDoneIf_seq (u : Subject) (t : Option Byte) (k : Nat) (o : DoneOutcome) (v : Int) (s : State) :
    (requestDoneIf u t k o v s).seq = s.seq := by cases t <;> rfl
@[simp] theorem requestDoneIf_line (u : Subject) (t : Option Byte) (k : Nat) (o : DoneOutcome) (v : Int) (s : State) :
    (requestDoneIf u t k o v s).line = s.line := by cases t <;> rfl
@[simp] theorem requestDoneIf_brine (u : Subject) (t : Option Byte) (k : Nat) (o : DoneOutcome) (v : Int) (s : State) :
    (requestDoneIf u t k o v s).brine = s.brine := by cases t <;> rfl
@[simp] theorem requestDoneIf_filter (u : Subject) (t : Option Byte) (k : Nat) (o : DoneOutcome) (v : Int) (s : State) :
    (requestDoneIf u t k o v s).filter = s.filter := by cases t <;> rfl
@[simp] theorem requestDoneIf_leak (u : Subject) (t : Option Byte) (k : Nat) (o : DoneOutcome) (v : Int) (s : State) :
    (requestDoneIf u t k o v s).leak = s.leak := by cases t <;> rfl
@[simp] theorem requestDoneIf_valve (u : Subject) (t : Option Byte) (k : Nat) (o : DoneOutcome) (v : Int) (s : State) :
    (requestDoneIf u t k o v s).valve = s.valve := by cases t <;> rfl
@[simp] theorem requestDoneIf_supply (u : Subject) (t : Option Byte) (k : Nat) (o : DoneOutcome) (v : Int) (s : State) :
    (requestDoneIf u t k o v s).supply = s.supply := by cases t <;> rfl
@[simp] theorem requestDoneIf_pods (u : Subject) (t : Option Byte) (k : Nat) (o : DoneOutcome) (v : Int) (s : State) :
    (requestDoneIf u t k o v s).pods = s.pods := by cases t <;> rfl
@[simp] theorem requestDoneIf_link (u : Subject) (t : Option Byte) (k : Nat) (o : DoneOutcome) (v : Int) (s : State) :
    (requestDoneIf u t k o v s).link = s.link := by cases t <;> rfl
@[simp] theorem requestDoneIf_faults (u : Subject) (t : Option Byte) (k : Nat) (o : DoneOutcome) (v : Int) (s : State) :
    (requestDoneIf u t k o v s).faults = s.faults := by cases t <;> rfl
@[simp] theorem requestDoneIf_pins (u : Subject) (t : Option Byte) (k : Nat) (o : DoneOutcome) (v : Int) (s : State) :
    (requestDoneIf u t k o v s).pins = s.pins := by cases t <;> rfl
@[simp] theorem requestDoneIf_before (u : Subject) (t : Option Byte) (k : Nat) (o : DoneOutcome) (v : Int) (s : State) :
    (requestDoneIf u t k o v s).before = s.before := by cases t <;> rfl
@[simp] theorem requestDoneIf_pending (u : Subject) (t : Option Byte) (k : Nat) (o : DoneOutcome) (v : Int) (s : State) :
    (requestDoneIf u t k o v s).pending = s.pending := by cases t <;> rfl

/-! ### faultReport -/

@[simp] theorem faultReport_settings (c : FaultCode) (u : Subject) (d : Int) (s : State) :
    (faultReport c u d s).settings = s.settings := rfl
@[simp] theorem faultReport_clock (c : FaultCode) (u : Subject) (d : Int) (s : State) :
    (faultReport c u d s).clock = s.clock := rfl
@[simp] theorem faultReport_meter (c : FaultCode) (u : Subject) (d : Int) (s : State) :
    (faultReport c u d s).meter = s.meter := rfl
@[simp] theorem faultReport_cap (c : FaultCode) (u : Subject) (d : Int) (s : State) :
    (faultReport c u d s).cap = s.cap := rfl
@[simp] theorem faultReport_disc (c : FaultCode) (u : Subject) (d : Int) (s : State) :
    (faultReport c u d s).disc = s.disc := rfl
@[simp] theorem faultReport_seq (c : FaultCode) (u : Subject) (d : Int) (s : State) :
    (faultReport c u d s).seq = s.seq := rfl
@[simp] theorem faultReport_line (c : FaultCode) (u : Subject) (d : Int) (s : State) :
    (faultReport c u d s).line = s.line := rfl
@[simp] theorem faultReport_brine (c : FaultCode) (u : Subject) (d : Int) (s : State) :
    (faultReport c u d s).brine = s.brine := rfl
@[simp] theorem faultReport_filter (c : FaultCode) (u : Subject) (d : Int) (s : State) :
    (faultReport c u d s).filter = s.filter := rfl
@[simp] theorem faultReport_leak (c : FaultCode) (u : Subject) (d : Int) (s : State) :
    (faultReport c u d s).leak = s.leak := rfl
@[simp] theorem faultReport_valve (c : FaultCode) (u : Subject) (d : Int) (s : State) :
    (faultReport c u d s).valve = s.valve := rfl
@[simp] theorem faultReport_supply (c : FaultCode) (u : Subject) (d : Int) (s : State) :
    (faultReport c u d s).supply = s.supply := rfl
@[simp] theorem faultReport_pods (c : FaultCode) (u : Subject) (d : Int) (s : State) :
    (faultReport c u d s).pods = s.pods := rfl
@[simp] theorem faultReport_link (c : FaultCode) (u : Subject) (d : Int) (s : State) :
    (faultReport c u d s).link = s.link := rfl
@[simp] theorem faultReport_pins (c : FaultCode) (u : Subject) (d : Int) (s : State) :
    (faultReport c u d s).pins = s.pins := rfl
@[simp] theorem faultReport_before (c : FaultCode) (u : Subject) (d : Int) (s : State) :
    (faultReport c u d s).before = s.before := rfl
@[simp] theorem faultReport_pending (c : FaultCode) (u : Subject) (d : Int) (s : State) :
    (faultReport c u d s).pending = s.pending := rfl

/-! ### faultGone -/

@[simp] theorem faultGone_settings (c : FaultCode) (u : Subject) (s : State) :
    (faultGone c u s).settings = s.settings := rfl
@[simp] theorem faultGone_clock (c : FaultCode) (u : Subject) (s : State) : (faultGone c u s).clock = s.clock := rfl
@[simp] theorem faultGone_meter (c : FaultCode) (u : Subject) (s : State) : (faultGone c u s).meter = s.meter := rfl
@[simp] theorem faultGone_cap (c : FaultCode) (u : Subject) (s : State) : (faultGone c u s).cap = s.cap := rfl
@[simp] theorem faultGone_disc (c : FaultCode) (u : Subject) (s : State) : (faultGone c u s).disc = s.disc := rfl
@[simp] theorem faultGone_seq (c : FaultCode) (u : Subject) (s : State) : (faultGone c u s).seq = s.seq := rfl
@[simp] theorem faultGone_line (c : FaultCode) (u : Subject) (s : State) : (faultGone c u s).line = s.line := rfl
@[simp] theorem faultGone_brine (c : FaultCode) (u : Subject) (s : State) : (faultGone c u s).brine = s.brine := rfl
@[simp] theorem faultGone_filter (c : FaultCode) (u : Subject) (s : State) : (faultGone c u s).filter = s.filter := rfl
@[simp] theorem faultGone_leak (c : FaultCode) (u : Subject) (s : State) : (faultGone c u s).leak = s.leak := rfl
@[simp] theorem faultGone_valve (c : FaultCode) (u : Subject) (s : State) : (faultGone c u s).valve = s.valve := rfl
@[simp] theorem faultGone_supply (c : FaultCode) (u : Subject) (s : State) : (faultGone c u s).supply = s.supply := rfl
@[simp] theorem faultGone_pods (c : FaultCode) (u : Subject) (s : State) : (faultGone c u s).pods = s.pods := rfl
@[simp] theorem faultGone_link (c : FaultCode) (u : Subject) (s : State) : (faultGone c u s).link = s.link := rfl
@[simp] theorem faultGone_notices (c : FaultCode) (u : Subject) (s : State) :
    (faultGone c u s).notices = s.notices := rfl
@[simp] theorem faultGone_pins (c : FaultCode) (u : Subject) (s : State) : (faultGone c u s).pins = s.pins := rfl
@[simp] theorem faultGone_before (c : FaultCode) (u : Subject) (s : State) : (faultGone c u s).before = s.before := rfl
@[simp] theorem faultGone_pending (c : FaultCode) (u : Subject) (s : State) :
    (faultGone c u s).pending = s.pending := rfl

/-! ### withTank -/

@[simp] theorem withTank_settings (t : Tank) (r : TankRecord) (s : State) :
    (s.withTank t r).settings = s.settings := rfl
@[simp] theorem withTank_clock (t : Tank) (r : TankRecord) (s : State) : (s.withTank t r).clock = s.clock := rfl
@[simp] theorem withTank_meter (t : Tank) (r : TankRecord) (s : State) : (s.withTank t r).meter = s.meter := rfl
@[simp] theorem withTank_cap (t : Tank) (r : TankRecord) (s : State) : (s.withTank t r).cap = s.cap := rfl
@[simp] theorem withTank_disc (t : Tank) (r : TankRecord) (s : State) : (s.withTank t r).disc = s.disc := rfl
@[simp] theorem withTank_line (t : Tank) (r : TankRecord) (s : State) : (s.withTank t r).line = s.line := rfl
@[simp] theorem withTank_brine (t : Tank) (r : TankRecord) (s : State) : (s.withTank t r).brine = s.brine := rfl
@[simp] theorem withTank_filter (t : Tank) (r : TankRecord) (s : State) : (s.withTank t r).filter = s.filter := rfl
@[simp] theorem withTank_leak (t : Tank) (r : TankRecord) (s : State) : (s.withTank t r).leak = s.leak := rfl
@[simp] theorem withTank_valve (t : Tank) (r : TankRecord) (s : State) : (s.withTank t r).valve = s.valve := rfl
@[simp] theorem withTank_supply (t : Tank) (r : TankRecord) (s : State) : (s.withTank t r).supply = s.supply := rfl
@[simp] theorem withTank_pods (t : Tank) (r : TankRecord) (s : State) : (s.withTank t r).pods = s.pods := rfl
@[simp] theorem withTank_link (t : Tank) (r : TankRecord) (s : State) : (s.withTank t r).link = s.link := rfl
@[simp] theorem withTank_notices (t : Tank) (r : TankRecord) (s : State) : (s.withTank t r).notices = s.notices := rfl
@[simp] theorem withTank_faults (t : Tank) (r : TankRecord) (s : State) : (s.withTank t r).faults = s.faults := rfl
@[simp] theorem withTank_pins (t : Tank) (r : TankRecord) (s : State) : (s.withTank t r).pins = s.pins := rfl
@[simp] theorem withTank_before (t : Tank) (r : TankRecord) (s : State) : (s.withTank t r).before = s.before := rfl
@[simp] theorem withTank_pending (t : Tank) (r : TankRecord) (s : State) : (s.withTank t r).pending = s.pending := rfl

/-! ### postTank -/

@[simp] theorem postTank_settings (t : Tank) (s : State) : (postTank t s).settings = s.settings := rfl
@[simp] theorem postTank_clock (t : Tank) (s : State) : (postTank t s).clock = s.clock := rfl
@[simp] theorem postTank_meter (t : Tank) (s : State) : (postTank t s).meter = s.meter := rfl
@[simp] theorem postTank_cap (t : Tank) (s : State) : (postTank t s).cap = s.cap := rfl
@[simp] theorem postTank_disc (t : Tank) (s : State) : (postTank t s).disc = s.disc := rfl
@[simp] theorem postTank_seq (t : Tank) (s : State) : (postTank t s).seq = s.seq := rfl
@[simp] theorem postTank_line (t : Tank) (s : State) : (postTank t s).line = s.line := rfl
@[simp] theorem postTank_brine (t : Tank) (s : State) : (postTank t s).brine = s.brine := rfl
@[simp] theorem postTank_filter (t : Tank) (s : State) : (postTank t s).filter = s.filter := rfl
@[simp] theorem postTank_leak (t : Tank) (s : State) : (postTank t s).leak = s.leak := rfl
@[simp] theorem postTank_valve (t : Tank) (s : State) : (postTank t s).valve = s.valve := rfl
@[simp] theorem postTank_supply (t : Tank) (s : State) : (postTank t s).supply = s.supply := rfl
@[simp] theorem postTank_pods (t : Tank) (s : State) : (postTank t s).pods = s.pods := rfl
@[simp] theorem postTank_link (t : Tank) (s : State) : (postTank t s).link = s.link := rfl
@[simp] theorem postTank_faults (t : Tank) (s : State) : (postTank t s).faults = s.faults := rfl
@[simp] theorem postTank_pins (t : Tank) (s : State) : (postTank t s).pins = s.pins := rfl
@[simp] theorem postTank_before (t : Tank) (s : State) : (postTank t s).before = s.before := rfl
@[simp] theorem postTank_pending (t : Tank) (s : State) : (postTank t s).pending = s.pending := rfl

/-! ### changeTank -/

@[simp] theorem changeTank_settings (t : Tank) (r : TankRecord) (s : State) :
    (changeTank t r s).settings = s.settings := by unfold changeTank; dsimp only; split <;> rfl
@[simp] theorem changeTank_clock (t : Tank) (r : TankRecord) (s : State) :
    (changeTank t r s).clock = s.clock := by unfold changeTank; dsimp only; split <;> rfl
@[simp] theorem changeTank_meter (t : Tank) (r : TankRecord) (s : State) :
    (changeTank t r s).meter = s.meter := by unfold changeTank; dsimp only; split <;> rfl
@[simp] theorem changeTank_cap (t : Tank) (r : TankRecord) (s : State) :
    (changeTank t r s).cap = s.cap := by unfold changeTank; dsimp only; split <;> rfl
@[simp] theorem changeTank_disc (t : Tank) (r : TankRecord) (s : State) :
    (changeTank t r s).disc = s.disc := by unfold changeTank; dsimp only; split <;> rfl
@[simp] theorem changeTank_line (t : Tank) (r : TankRecord) (s : State) :
    (changeTank t r s).line = s.line := by unfold changeTank; dsimp only; split <;> rfl
@[simp] theorem changeTank_brine (t : Tank) (r : TankRecord) (s : State) :
    (changeTank t r s).brine = s.brine := by unfold changeTank; dsimp only; split <;> rfl
@[simp] theorem changeTank_filter (t : Tank) (r : TankRecord) (s : State) :
    (changeTank t r s).filter = s.filter := by unfold changeTank; dsimp only; split <;> rfl
@[simp] theorem changeTank_leak (t : Tank) (r : TankRecord) (s : State) :
    (changeTank t r s).leak = s.leak := by unfold changeTank; dsimp only; split <;> rfl
@[simp] theorem changeTank_valve (t : Tank) (r : TankRecord) (s : State) :
    (changeTank t r s).valve = s.valve := by unfold changeTank; dsimp only; split <;> rfl
@[simp] theorem changeTank_supply (t : Tank) (r : TankRecord) (s : State) :
    (changeTank t r s).supply = s.supply := by unfold changeTank; dsimp only; split <;> rfl
@[simp] theorem changeTank_pods (t : Tank) (r : TankRecord) (s : State) :
    (changeTank t r s).pods = s.pods := by unfold changeTank; dsimp only; split <;> rfl
@[simp] theorem changeTank_link (t : Tank) (r : TankRecord) (s : State) :
    (changeTank t r s).link = s.link := by unfold changeTank; dsimp only; split <;> rfl
@[simp] theorem changeTank_faults (t : Tank) (r : TankRecord) (s : State) :
    (changeTank t r s).faults = s.faults := by unfold changeTank; dsimp only; split <;> rfl
@[simp] theorem changeTank_pins (t : Tank) (r : TankRecord) (s : State) :
    (changeTank t r s).pins = s.pins := by unfold changeTank; dsimp only; split <;> rfl
@[simp] theorem changeTank_before (t : Tank) (r : TankRecord) (s : State) :
    (changeTank t r s).before = s.before := by unfold changeTank; dsimp only; split <;> rfl
@[simp] theorem changeTank_pending (t : Tank) (r : TankRecord) (s : State) :
    (changeTank t r s).pending = s.pending := by unfold changeTank; dsimp only; split <;> rfl

/-! ### withRecord -/

@[simp] theorem withRecord_settings (t : Tank) (r : CapacityRecord) (s : State) :
    (s.withRecord t r).settings = s.settings := rfl
@[simp] theorem withRecord_clock (t : Tank) (r : CapacityRecord) (s : State) : (s.withRecord t r).clock = s.clock := rfl
@[simp] theorem withRecord_meter (t : Tank) (r : CapacityRecord) (s : State) : (s.withRecord t r).meter = s.meter := rfl
@[simp] theorem withRecord_disc (t : Tank) (r : CapacityRecord) (s : State) : (s.withRecord t r).disc = s.disc := rfl
@[simp] theorem withRecord_seq (t : Tank) (r : CapacityRecord) (s : State) : (s.withRecord t r).seq = s.seq := rfl
@[simp] theorem withRecord_line (t : Tank) (r : CapacityRecord) (s : State) : (s.withRecord t r).line = s.line := rfl
@[simp] theorem withRecord_brine (t : Tank) (r : CapacityRecord) (s : State) : (s.withRecord t r).brine = s.brine := rfl
@[simp] theorem withRecord_filter (t : Tank) (r : CapacityRecord) (s : State) :
    (s.withRecord t r).filter = s.filter := rfl
@[simp] theorem withRecord_leak (t : Tank) (r : CapacityRecord) (s : State) : (s.withRecord t r).leak = s.leak := rfl
@[simp] theorem withRecord_valve (t : Tank) (r : CapacityRecord) (s : State) : (s.withRecord t r).valve = s.valve := rfl
@[simp] theorem withRecord_supply (t : Tank) (r : CapacityRecord) (s : State) :
    (s.withRecord t r).supply = s.supply := rfl
@[simp] theorem withRecord_pods (t : Tank) (r : CapacityRecord) (s : State) : (s.withRecord t r).pods = s.pods := rfl
@[simp] theorem withRecord_link (t : Tank) (r : CapacityRecord) (s : State) : (s.withRecord t r).link = s.link := rfl
@[simp] theorem withRecord_notices (t : Tank) (r : CapacityRecord) (s : State) :
    (s.withRecord t r).notices = s.notices := rfl
@[simp] theorem withRecord_faults (t : Tank) (r : CapacityRecord) (s : State) :
    (s.withRecord t r).faults = s.faults := rfl
@[simp] theorem withRecord_pins (t : Tank) (r : CapacityRecord) (s : State) : (s.withRecord t r).pins = s.pins := rfl
@[simp] theorem withRecord_before (t : Tank) (r : CapacityRecord) (s : State) : (s.withRecord t r).before = s.before := rfl
@[simp] theorem withRecord_pending (t : Tank) (r : CapacityRecord) (s : State) :
    (s.withRecord t r).pending = s.pending := rfl

/-! ### withSlot -/

@[simp] theorem withSlot_settings (n : Fin 8) (p : PodSlot) (s : State) : (s.withSlot n p).settings = s.settings := rfl
@[simp] theorem withSlot_clock (n : Fin 8) (p : PodSlot) (s : State) : (s.withSlot n p).clock = s.clock := rfl
@[simp] theorem withSlot_meter (n : Fin 8) (p : PodSlot) (s : State) : (s.withSlot n p).meter = s.meter := rfl
@[simp] theorem withSlot_cap (n : Fin 8) (p : PodSlot) (s : State) : (s.withSlot n p).cap = s.cap := rfl
@[simp] theorem withSlot_disc (n : Fin 8) (p : PodSlot) (s : State) : (s.withSlot n p).disc = s.disc := rfl
@[simp] theorem withSlot_seq (n : Fin 8) (p : PodSlot) (s : State) : (s.withSlot n p).seq = s.seq := rfl
@[simp] theorem withSlot_line (n : Fin 8) (p : PodSlot) (s : State) : (s.withSlot n p).line = s.line := rfl
@[simp] theorem withSlot_brine (n : Fin 8) (p : PodSlot) (s : State) : (s.withSlot n p).brine = s.brine := rfl
@[simp] theorem withSlot_filter (n : Fin 8) (p : PodSlot) (s : State) : (s.withSlot n p).filter = s.filter := rfl
@[simp] theorem withSlot_leak (n : Fin 8) (p : PodSlot) (s : State) : (s.withSlot n p).leak = s.leak := rfl
@[simp] theorem withSlot_valve (n : Fin 8) (p : PodSlot) (s : State) : (s.withSlot n p).valve = s.valve := rfl
@[simp] theorem withSlot_supply (n : Fin 8) (p : PodSlot) (s : State) : (s.withSlot n p).supply = s.supply := rfl
@[simp] theorem withSlot_link (n : Fin 8) (p : PodSlot) (s : State) : (s.withSlot n p).link = s.link := rfl
@[simp] theorem withSlot_notices (n : Fin 8) (p : PodSlot) (s : State) : (s.withSlot n p).notices = s.notices := rfl
@[simp] theorem withSlot_faults (n : Fin 8) (p : PodSlot) (s : State) : (s.withSlot n p).faults = s.faults := rfl
@[simp] theorem withSlot_pins (n : Fin 8) (p : PodSlot) (s : State) : (s.withSlot n p).pins = s.pins := rfl
@[simp] theorem withSlot_before (n : Fin 8) (p : PodSlot) (s : State) : (s.withSlot n p).before = s.before := rfl
@[simp] theorem withSlot_pending (n : Fin 8) (p : PodSlot) (s : State) : (s.withSlot n p).pending = s.pending := rfl

/-! ### postPod -/

@[simp] theorem postPod_settings (n : Fin 8) (s : State) : (postPod n s).settings = s.settings := rfl
@[simp] theorem postPod_clock (n : Fin 8) (s : State) : (postPod n s).clock = s.clock := rfl
@[simp] theorem postPod_meter (n : Fin 8) (s : State) : (postPod n s).meter = s.meter := rfl
@[simp] theorem postPod_cap (n : Fin 8) (s : State) : (postPod n s).cap = s.cap := rfl
@[simp] theorem postPod_disc (n : Fin 8) (s : State) : (postPod n s).disc = s.disc := rfl
@[simp] theorem postPod_seq (n : Fin 8) (s : State) : (postPod n s).seq = s.seq := rfl
@[simp] theorem postPod_line (n : Fin 8) (s : State) : (postPod n s).line = s.line := rfl
@[simp] theorem postPod_brine (n : Fin 8) (s : State) : (postPod n s).brine = s.brine := rfl
@[simp] theorem postPod_filter (n : Fin 8) (s : State) : (postPod n s).filter = s.filter := rfl
@[simp] theorem postPod_leak (n : Fin 8) (s : State) : (postPod n s).leak = s.leak := rfl
@[simp] theorem postPod_valve (n : Fin 8) (s : State) : (postPod n s).valve = s.valve := rfl
@[simp] theorem postPod_supply (n : Fin 8) (s : State) : (postPod n s).supply = s.supply := rfl
@[simp] theorem postPod_pods (n : Fin 8) (s : State) : (postPod n s).pods = s.pods := rfl
@[simp] theorem postPod_link (n : Fin 8) (s : State) : (postPod n s).link = s.link := rfl
@[simp] theorem postPod_faults (n : Fin 8) (s : State) : (postPod n s).faults = s.faults := rfl
@[simp] theorem postPod_pins (n : Fin 8) (s : State) : (postPod n s).pins = s.pins := rfl
@[simp] theorem postPod_before (n : Fin 8) (s : State) : (postPod n s).before = s.before := rfl
@[simp] theorem postPod_pending (n : Fin 8) (s : State) : (postPod n s).pending = s.pending := rfl

/-! ### changeSlot -/

@[simp] theorem changeSlot_settings (n : Fin 8) (p : PodSlot) (s : State) :
    (changeSlot n p s).settings = s.settings := by unfold changeSlot; dsimp only; split <;> rfl
@[simp] theorem changeSlot_clock (n : Fin 8) (p : PodSlot) (s : State) :
    (changeSlot n p s).clock = s.clock := by unfold changeSlot; dsimp only; split <;> rfl
@[simp] theorem changeSlot_meter (n : Fin 8) (p : PodSlot) (s : State) :
    (changeSlot n p s).meter = s.meter := by unfold changeSlot; dsimp only; split <;> rfl
@[simp] theorem changeSlot_cap (n : Fin 8) (p : PodSlot) (s : State) :
    (changeSlot n p s).cap = s.cap := by unfold changeSlot; dsimp only; split <;> rfl
@[simp] theorem changeSlot_disc (n : Fin 8) (p : PodSlot) (s : State) :
    (changeSlot n p s).disc = s.disc := by unfold changeSlot; dsimp only; split <;> rfl
@[simp] theorem changeSlot_seq (n : Fin 8) (p : PodSlot) (s : State) :
    (changeSlot n p s).seq = s.seq := by unfold changeSlot; dsimp only; split <;> rfl
@[simp] theorem changeSlot_line (n : Fin 8) (p : PodSlot) (s : State) :
    (changeSlot n p s).line = s.line := by unfold changeSlot; dsimp only; split <;> rfl
@[simp] theorem changeSlot_brine (n : Fin 8) (p : PodSlot) (s : State) :
    (changeSlot n p s).brine = s.brine := by unfold changeSlot; dsimp only; split <;> rfl
@[simp] theorem changeSlot_filter (n : Fin 8) (p : PodSlot) (s : State) :
    (changeSlot n p s).filter = s.filter := by unfold changeSlot; dsimp only; split <;> rfl
@[simp] theorem changeSlot_leak (n : Fin 8) (p : PodSlot) (s : State) :
    (changeSlot n p s).leak = s.leak := by unfold changeSlot; dsimp only; split <;> rfl
@[simp] theorem changeSlot_valve (n : Fin 8) (p : PodSlot) (s : State) :
    (changeSlot n p s).valve = s.valve := by unfold changeSlot; dsimp only; split <;> rfl
@[simp] theorem changeSlot_supply (n : Fin 8) (p : PodSlot) (s : State) :
    (changeSlot n p s).supply = s.supply := by unfold changeSlot; dsimp only; split <;> rfl
@[simp] theorem changeSlot_link (n : Fin 8) (p : PodSlot) (s : State) :
    (changeSlot n p s).link = s.link := by unfold changeSlot; dsimp only; split <;> rfl
@[simp] theorem changeSlot_faults (n : Fin 8) (p : PodSlot) (s : State) :
    (changeSlot n p s).faults = s.faults := by unfold changeSlot; dsimp only; split <;> rfl
@[simp] theorem changeSlot_pins (n : Fin 8) (p : PodSlot) (s : State) :
    (changeSlot n p s).pins = s.pins := by unfold changeSlot; dsimp only; split <;> rfl
@[simp] theorem changeSlot_before (n : Fin 8) (p : PodSlot) (s : State) :
    (changeSlot n p s).before = s.before := by unfold changeSlot; dsimp only; split <;> rfl
@[simp] theorem changeSlot_pending (n : Fin 8) (p : PodSlot) (s : State) :
    (changeSlot n p s).pending = s.pending := by unfold changeSlot; dsimp only; split <;> rfl

/-! ### discRequest -/

@[simp] theorem discRequest_settings (p : Pos) (s : State) :
    (discRequest p s).settings = s.settings := by unfold discRequest; split <;> rfl
@[simp] theorem discRequest_clock (p : Pos) (s : State) :
    (discRequest p s).clock = s.clock := by unfold discRequest; split <;> rfl
@[simp] theorem discRequest_meter (p : Pos) (s : State) :
    (discRequest p s).meter = s.meter := by unfold discRequest; split <;> rfl
@[simp] theorem discRequest_cap (p : Pos) (s : State) :
    (discRequest p s).cap = s.cap := by unfold discRequest; split <;> rfl
@[simp] theorem discRequest_seq (p : Pos) (s : State) :
    (discRequest p s).seq = s.seq := by unfold discRequest; split <;> rfl
@[simp] theorem discRequest_line (p : Pos) (s : State) :
    (discRequest p s).line = s.line := by unfold discRequest; split <;> rfl
@[simp] theorem discRequest_brine (p : Pos) (s : State) :
    (discRequest p s).brine = s.brine := by unfold discRequest; split <;> rfl
@[simp] theorem discRequest_filter (p : Pos) (s : State) :
    (discRequest p s).filter = s.filter := by unfold discRequest; split <;> rfl
@[simp] theorem discRequest_leak (p : Pos) (s : State) :
    (discRequest p s).leak = s.leak := by unfold discRequest; split <;> rfl
@[simp] theorem discRequest_valve (p : Pos) (s : State) :
    (discRequest p s).valve = s.valve := by unfold discRequest; split <;> rfl
@[simp] theorem discRequest_supply (p : Pos) (s : State) :
    (discRequest p s).supply = s.supply := by unfold discRequest; split <;> rfl
@[simp] theorem discRequest_pods (p : Pos) (s : State) :
    (discRequest p s).pods = s.pods := by unfold discRequest; split <;> rfl
@[simp] theorem discRequest_link (p : Pos) (s : State) :
    (discRequest p s).link = s.link := by unfold discRequest; split <;> rfl
@[simp] theorem discRequest_notices (p : Pos) (s : State) :
    (discRequest p s).notices = s.notices := by unfold discRequest; split <;> rfl
@[simp] theorem discRequest_faults (p : Pos) (s : State) :
    (discRequest p s).faults = s.faults := by unfold discRequest; split <;> rfl
@[simp] theorem discRequest_pins (p : Pos) (s : State) :
    (discRequest p s).pins = s.pins := by unfold discRequest; split <;> rfl
@[simp] theorem discRequest_before (p : Pos) (s : State) :
    (discRequest p s).before = s.before := by unfold discRequest; split <;> rfl
@[simp] theorem discRequest_pending (p : Pos) (s : State) :
    (discRequest p s).pending = s.pending := by unfold discRequest; split <;> rfl

/-! ### The changed fields -/

@[simp] theorem faultReport_faults (c : FaultCode) (u : Subject) (d : Int) (s : State) :
    (faultReport c u d s).faults = s.faults.report c u d s.now := rfl

@[simp] theorem faultGone_faults (c : FaultCode) (u : Subject) (s : State) :
    (faultGone c u s).faults = s.faults.gone c u := rfl

@[simp] theorem changeTank_seq (t : Tank) (r : TankRecord) (s : State) :
    (changeTank t r s).seq = { s.seq with tanks := s.seq.tanks.set t r } := by
  unfold changeTank; dsimp only; split <;> rfl

@[simp] theorem withTank_seq (t : Tank) (r : TankRecord) (s : State) :
    (s.withTank t r).seq = { s.seq with tanks := s.seq.tanks.set t r } := rfl

theorem withTank_tank (s : State) (t k : Tank) (r : TankRecord) :
    (s.withTank t r).tank k = if k = t then r else s.tank k := by
  cases t <;> cases k <;> rfl

theorem changeTank_tank (s : State) (t k : Tank) (r : TankRecord) :
    (changeTank t r s).tank k = if k = t then r else s.tank k := by
  unfold State.tank; rw [changeTank_seq]; exact withTank_tank s t k r

@[simp] theorem withTank_tank_same (s : State) (t : Tank) (r : TankRecord) : (s.withTank t r).tank t = r := by
  cases t <;> rfl

@[simp] theorem withTank_tank_other (s : State) (t : Tank) (r : TankRecord) :
    (s.withTank t r).tank t.other = s.tank t.other := by cases t <;> rfl

@[simp] theorem changeTank_tank_same (s : State) (t : Tank) (r : TankRecord) : (changeTank t r s).tank t = r := by
  rw [changeTank_tank, if_pos rfl]

@[simp] theorem changeTank_tank_other (s : State) (t : Tank) (r : TankRecord) :
    (changeTank t r s).tank t.other = s.tank t.other := by cases t <;> simp [changeTank_tank]

theorem withTank_self (t : Tank) (s : State) : s.withTank t (s.tank t) = s := by cases t <;> rfl

@[simp] theorem withRecord_record_same (s : State) (t : Tank) (r : CapacityRecord) : (s.withRecord t r).record t = r := by
  cases t <;> rfl

@[simp] theorem withRecord_record_other (s : State) (t : Tank) (r : CapacityRecord) :
    (s.withRecord t r).record t.other = s.record t.other := by cases t <;> rfl

@[simp] theorem withSlot_slot_same (s : State) (n : Fin 8) (p : PodSlot) : (s.withSlot n p).slot n = p := by
  simp [State.withSlot, State.slot, Vector.get_eq_getElem]

theorem withSlot_slot_other (s : State) (n m : Fin 8) (p : PodSlot) (h : m ≠ n) : (s.withSlot n p).slot m = s.slot m := by
  simp only [State.withSlot, State.slot, Vector.get_eq_getElem]
  exact Vector.getElem_set_ne _ _ (fun e => h (Fin.ext e.symm))

@[simp] theorem changeSlot_pods (n : Fin 8) (p : PodSlot) (s : State) :
    (changeSlot n p s).pods = { s.pods with slots := s.pods.slots.set n p } := by
  unfold changeSlot; dsimp only; split <;> rfl

@[simp] theorem changeSlot_slot_same (s : State) (n : Fin 8) (p : PodSlot) : (changeSlot n p s).slot n = p := by
  unfold State.slot; rw [changeSlot_pods]; exact withSlot_slot_same s n p

/-- A change of a tank record touches nothing but that record and the notices. -/
theorem changeTank_others (s : State) (t : Tank) (r : TankRecord) : changeTank t r s =
    { s with seq := { s.seq with tanks := s.seq.tanks.set t r }, notices := (changeTank t r s).notices } := by
  unfold changeTank; dsimp only
  split <;> rfl

/-! ### since and withSvc -/

@[simp] theorem since_settings (s t : State) : (s.since t).settings = t.settings := rfl
@[simp] theorem since_clock (s t : State) : (s.since t).clock = t.clock := rfl
@[simp] theorem since_meter (s t : State) : (s.since t).meter = t.meter := rfl
@[simp] theorem since_cap (s t : State) : (s.since t).cap = t.cap := rfl
@[simp] theorem since_disc (s t : State) : (s.since t).disc = t.disc := rfl
@[simp] theorem since_seq (s t : State) : (s.since t).seq = t.seq := rfl
@[simp] theorem since_line (s t : State) : (s.since t).line = t.line := rfl
@[simp] theorem since_brine (s t : State) : (s.since t).brine = t.brine := rfl
@[simp] theorem since_filter (s t : State) : (s.since t).filter = t.filter := rfl
@[simp] theorem since_leak (s t : State) : (s.since t).leak = t.leak := rfl
@[simp] theorem since_valve (s t : State) : (s.since t).valve = t.valve := rfl
@[simp] theorem since_supply (s t : State) : (s.since t).supply = t.supply := rfl
@[simp] theorem since_pods (s t : State) : (s.since t).pods = t.pods := rfl
@[simp] theorem since_link (s t : State) : (s.since t).link = t.link := rfl
@[simp] theorem since_notices (s t : State) : (s.since t).notices = t.notices := rfl
@[simp] theorem since_faults (s t : State) : (s.since t).faults = t.faults := rfl
@[simp] theorem since_pending (s t : State) : (s.since t).pending = t.pending := rfl
@[simp] theorem since_pins (s t : State) : (s.since t).pins = t.pins := rfl
@[simp] theorem since_before (s t : State) :
    (s.since t).before = if t.kept = s.kept then t.before else some s.kept := rfl
@[simp] theorem withSvc_settings (v : Bool) (s : State) : (s.withSvc v).settings = s.settings := rfl
@[simp] theorem withSvc_clock (v : Bool) (s : State) : (s.withSvc v).clock = s.clock := rfl
@[simp] theorem withSvc_meter (v : Bool) (s : State) : (s.withSvc v).meter = s.meter := rfl
@[simp] theorem withSvc_cap (v : Bool) (s : State) : (s.withSvc v).cap = s.cap := rfl
@[simp] theorem withSvc_disc (v : Bool) (s : State) : (s.withSvc v).disc = s.disc := rfl
@[simp] theorem withSvc_seq (v : Bool) (s : State) : (s.withSvc v).seq = s.seq := rfl
@[simp] theorem withSvc_line (v : Bool) (s : State) : (s.withSvc v).line = s.line := rfl
@[simp] theorem withSvc_brine (v : Bool) (s : State) : (s.withSvc v).brine = s.brine := rfl
@[simp] theorem withSvc_filter (v : Bool) (s : State) : (s.withSvc v).filter = s.filter := rfl
@[simp] theorem withSvc_leak (v : Bool) (s : State) : (s.withSvc v).leak = s.leak := rfl
@[simp] theorem withSvc_valve (v : Bool) (s : State) : (s.withSvc v).valve = s.valve := rfl
@[simp] theorem withSvc_supply (v : Bool) (s : State) : (s.withSvc v).supply = s.supply := rfl
@[simp] theorem withSvc_pods (v : Bool) (s : State) : (s.withSvc v).pods = s.pods := rfl
@[simp] theorem withSvc_link (v : Bool) (s : State) : (s.withSvc v).link = s.link := rfl
@[simp] theorem withSvc_notices (v : Bool) (s : State) : (s.withSvc v).notices = s.notices := rfl
@[simp] theorem withSvc_faults (v : Bool) (s : State) : (s.withSvc v).faults = s.faults := rfl
@[simp] theorem withSvc_pending (v : Bool) (s : State) : (s.withSvc v).pending = s.pending := rfl
@[simp] theorem withSvc_before (v : Bool) (s : State) : (s.withSvc v).before = s.before := rfl
@[simp] theorem withSvc_pins (v : Bool) (s : State) : (s.withSvc v).pins = { s.pins with svc := v } := rfl

end Sys2Proof.Machine
end

