-- ==== Sys2Proof/Laws/Disc.lean ====
section
/-! SUPPORT. What the Disc Positioner's shared operations do: a failed move, the reports of a fault, and a position check. -/

namespace Sys2Proof.Machine

theorem failedMove_others (s : State) : failedMove s =
    { s with seq := { s.seq with tanks := (failedMove s).seq.tanks }, notices := (failedMove s).notices } := by
  unfold failedMove; dsimp only
  repeat' split
  all_goals first | rfl | rw [changeTank_others, changeTank_others]

/-- A failed move outside a changeover makes a REGENERATING tank FAULTED and leaves every other tank record (R65, R76). -/
theorem failedMove_tank (s : State) (k : Tank) : (failedMove s).tank k =
    if s.seq.changeover = none ∧ (s.tank k).service = .regenerating then { s.tank k with service := .faulted }
    else s.tank k := by
  unfold failedMove; dsimp only
  cases hc : s.seq.changeover
  · simp only [Option.isSome, Bool.false_eq_true, if_false, true_and]
    by_cases ha : (s.tank .a).service = .regenerating <;> by_cases hb : (s.tank .b).service = .regenerating <;>
      cases k <;> simp [ha, hb, changeTank_tank]
  · simp

/-- The reports of a fault post notices, and make a tank FAULTED when the move was the sequencer's (R52). -/
theorem discFaultReports_tank (d : Disc) (c : FaultCode) (s : State) (k : Tank) : (discFaultReports d c s).tank k =
    if d.requester = some .sequencer ∧ s.seq.changeover = none ∧ (s.tank k).service = .regenerating then
      { s.tank k with service := .faulted }
    else s.tank k := by
  have e : ∀ u t o v, (requestDoneIf .none t u o v (failedMove s)).tank k = (failedMove s).tank k := by
    intro u t o v; unfold State.tank; rw [requestDoneIf_seq]
  have e' : ∀ u t o v (s : State), (requestDoneIf .none t u o v s).tank k = s.tank k := by
    intro u t o v s; unfold State.tank; rw [requestDoneIf_seq]
  unfold discFaultReports; dsimp only
  rcases d.requester with _ | _ | _ | _
  · simp [e']
  · simp [e, failedMove_tank]
  · dsimp only; split <;> first | (simp [e']; done) | (simp [e']; rfl)
  · simp [e']

theorem requestDoneIf_others (u : Subject) (t : Option Byte) (k : Nat) (o : DoneOutcome) (v : Int) (s : State) :
    requestDoneIf u t k o v s = { s with notices := (requestDoneIf u t k o v s).notices } := by cases t <;> rfl

theorem discFaultReports_others (d : Disc) (c : FaultCode) (s : State) : discFaultReports d c s = { s with
    seq := { s.seq with tanks := (discFaultReports d c s).seq.tanks }, notices := (discFaultReports d c s).notices } := by
  unfold discFaultReports; dsimp only
  rw [requestDoneIf_others]
  rcases d.requester with _ | _ | _ | _
  · rfl
  · dsimp only; rw [failedMove_others]
  · dsimp only; split <;> rfl
  · rfl

/-- All that entering FAULT does: what `DiscStopped` says, `d` being the record before (R52). -/
theorem discFault_stops (c : FaultCode) (detail : Int) (d : Disc) (s : State) :
    DiscStopped c detail d s (discFault c detail { s with disc := d }) := by
  unfold discFault
  have e := discFaultReports_others d c (faultReport c .none detail { s with disc := { d with
    state := .fault, fault := some (c, detail), retryTag := none, retriedFault := none } })
  have ht := discFaultReports_tank d c (faultReport c .none detail { s with disc := { d with
    state := .fault, fault := some (c, detail), retryTag := none, retriedFault := none } })
  generalize discFaultReports d c _ = u at *
  refine ⟨by rw [e]; rfl, by rw [e]; rfl, ht, ?_⟩
  rw [e]; rfl

end Sys2Proof.Machine
end

