-- ==== Sys2Proof/Laws/Notices.lean ====
section
/-! SUPPORT. What the notice queue, the Fault Log and the usage history can hold: each shared operation keeps its form (R15, R181,
R182, R186). -/

namespace Sys2Proof.Machine

/-- Merging leaves the kind and the subject. -/
@[simp] theorem Notice.merge_kind (m n : Notice) : (m.merge n).kind = m.kind := rfl
@[simp] theorem Notice.merge_subject (m n : Notice) : (m.merge n).subject = m.subject := rfl

theorem Notice.apart_congr {m m' n n' : Notice} (h1 : m.kind = m'.kind) (h2 : m.subject = m'.subject) (h3 : n.kind = n'.kind)
    (h4 : n.subject = n'.subject) : m.apart n = m'.apart n' := by simp [Notice.apart, h1, h2, h3, h4]

/-- A notice that merges into no queued one stands apart from all of them. -/
theorem Notice.apart_of_not_merges {m n : Notice} (h : n.mergesInto m = false) : m.apart n = true := by
  have e : m.apart n = !n.mergesInto m := by
    unfold Notice.apart Notice.mergesInto
    by_cases hk : m.kind = n.kind
    · simp [hk]
    · simp [beq_false_of_ne hk]
  rw [e, h]
  rfl

/-- The queue takes a notice and keeps its form (R181, R182). -/
theorem NoticeQueue.post_wf {q : NoticeQueue} (h : q.wf) (n : Notice) : (q.post n).wf := by
  obtain ⟨hl, hp⟩ := h
  unfold NoticeQueue.post
  split
  · refine ⟨by simpa using hl, ?_⟩
    rw [List.pairwise_map]
    refine hp.imp fun {a b} hab => ?_
    rw [← hab]
    apply Notice.apart_congr <;> split <;> rfl
  · next hn =>
    have hn' : ∀ m ∈ q.queue, n.mergesInto m = false := by
      intro m hm
      by_contra hc
      exact hn (List.any_eq_true.mpr ⟨m, hm, by simpa using hc⟩)
    split
    · next hlt =>
      refine ⟨by simp; omega, List.pairwise_append.mpr ⟨hp, List.pairwise_singleton _ _, ?_⟩⟩
      intro a ha b hb
      rw [List.mem_singleton] at hb
      exact hb ▸ Notice.apart_of_not_merges (hn' a ha)
    · split
      · next hs =>
        obtain ⟨m, hm, hk⟩ := List.any_eq_true.mp hs
        refine ⟨?_, List.pairwise_append.mpr ⟨hp.sublist List.eraseP_sublist, List.pairwise_singleton _ _, ?_⟩⟩
        · have := List.length_eraseP_of_mem (p := fun m => isStateKind m.kind) hm hk
          have := List.length_pos_of_mem hm
          simp only [List.length_append, List.length_singleton]
          omega
        · intro a ha b hb
          rw [List.mem_singleton] at hb
          exact hb ▸ Notice.apart_of_not_merges (hn' a (List.mem_of_mem_eraseP ha))
      · exact ⟨hl, hp⟩

/-- Posting keeps the queue's form. -/
theorem post_wf {s : State} (h : s.notices.wf) (k : NoticeKind) (u : Subject) (a b c : Int) :
    (post k u a b c s).notices.wf := NoticeQueue.post_wf h _

/-- A report keeps the Fault Log's form (R186). -/
theorem FaultLog.report_wf {l : FaultLog} (h : l.wf) (c : FaultCode) (u : Subject) (d : Int) (t : Stamp) :
    (l.report c u d t).wf := by
  obtain ⟨hl, hp⟩ := h
  unfold FaultLog.report
  split
  · refine ⟨by simpa using hl, ?_⟩
    rw [List.pairwise_map]
    refine hp.imp fun {a b} hab => ?_
    split <;> split <;> exact hab
  · next hn =>
    split
    · next hlt =>
      refine ⟨by simp; omega, List.pairwise_append.mpr ⟨hp, List.pairwise_singleton _ _, ?_⟩⟩
      intro a ha b hb
      rw [List.mem_singleton] at hb
      subst hb
      rintro ⟨hc, hu⟩
      exact hn (List.any_eq_true.mpr ⟨a, ha, by simp [FaultRecord.isFor, hc, hu]⟩)
    · exact ⟨hl, hp⟩

/-- A condition reported gone keeps the Fault Log's form (R186). -/
theorem FaultLog.gone_wf {l : FaultLog} (h : l.wf) (c : FaultCode) (u : Subject) : (l.gone c u).wf := by
  obtain ⟨hl, hp⟩ := h
  refine ⟨by simpa [FaultLog.gone] using hl, ?_⟩
  unfold FaultLog.gone
  rw [List.pairwise_map]
  refine hp.imp fun {a b} hab => ?_
  split <;> split <;> exact hab

/-- An appended record keeps the history's form (R15). -/
theorem History.append_wf {h : History} (hw : h.wf) (r : HistoryRecord) : (h.append r).wf := by
  obtain ⟨h1, h2⟩ := hw
  unfold History.append
  split
  · refine ⟨?_, ?_⟩
    · simp only [List.length_append, List.length_drop, List.length_singleton]; omega
    · show h.cursor - 1 ≤ _
      simp only [List.length_append, List.length_drop, List.length_singleton]; omega
  · refine ⟨?_, ?_⟩
    · simp only [List.length_append, List.length_singleton]; omega
    · show h.cursor ≤ _
      simp only [List.length_append, List.length_singleton]; omega

/-- Arming changes neither the ring nor the cursor (R18). -/
theorem History.rearm_wf {h : History} (hw : h.wf) : h.rearm.wf := hw

/-- A completed read keeps the history's form (R17). -/
theorem History.readDone_wf {h : History} (hw : h.wf) (n : Nat) (gap : Bool) : (h.readDone n gap).wf := by
  obtain ⟨h1, h2⟩ := hw
  refine ⟨by simpa [History.readDone, History.rearm] using h1, ?_⟩
  simp only [History.readDone, History.rearm, List.length_map]
  split
  · exact h2
  · exact Nat.sub_le _ _

end Sys2Proof.Machine
end

