-- ==== Sys2Proof/Laws/Retained.lean ====
section
/-! SUPPORT. What a restart finds in retained memory (R190): the lemmas of `State.found` and `State.recall`. -/

namespace Sys2Proof.Machine

@[simp] theorem found_false (s : State) : s.found false = { s with before := none } := rfl

theorem found_of_before_none (lost : Bool) {s : State} (h : s.before = none) : s.found lost = s := by
  cases s; subst h; cases lost <;> rfl

@[simp] theorem found_before (lost : Bool) (s : State) : (s.found lost).before = none := by
  unfold State.found; split <;> rfl

theorem found_of_before_some {s : State} {m : Retained} (h : s.before = some m) :
    s.found true = { s.recall m with before := none } := by
  simp [State.found, h]

@[simp] theorem History.kept_kept (h : History) : h.kept.kept = h.kept := by simp [History.kept]

@[simp] theorem PodSlot.kept_kept (p : PodSlot) : p.kept.kept = p.kept := rfl

/-- Retained memory holds what is recalled from it: of every record the retained part, and no volatile item. -/
theorem kept_recall (u s : State) : (s.recall u.kept).kept = u.kept := by
  have slots : (u.pods.slots.map PodSlot.kept).map PodSlot.kept = u.pods.slots.map PodSlot.kept := by
    simp [Vector.map_map, Function.comp_def]
  have dwell : (u.seq.changeover.map fun c => { c with dwell := 0 }).map (fun c => { c with dwell := 0 })
      = u.seq.changeover.map fun c => { c with dwell := 0 } := by
    cases u.seq.changeover <;> rfl
  simp [State.kept, State.recall, State.tank, PerTank.get, TankRecord.kept, TankRecord.recall, Brine.kept, Filter.kept, slots,
    dwell]

end Sys2Proof.Machine
end

