-- ==== Sys2Proof/Laws/Steady.lean ====
section
/-! SUPPORT. What the per-second work after the attribution leaves unchanged: the settings, the counter's time, the figures of the
second, the totals, the pod roster and the queue of commands. -/

namespace Sys2Proof.Machine

/-- The fields that the work of a second leaves alone once the second has been attributed. -/
structure Steady where
  settings : Settings
  day : Nat
  second : Nat
  unset : Bool
  now : Figures
  totals : Totals
  slots : Vector PodSlot 8
  supply : SupplyState
  pending : List Instr

/-- Those fields of a state. -/
def State.steady (s : State) : Steady :=
  ⟨s.settings, s.clock.day, s.clock.second, s.clock.unset, s.meter.now, s.meter.totals, s.pods.slots,
   s.supply.state, s.pending⟩

theorem steady_of_calm {s t : State} (h : s.calm = t.calm) : s.steady = t.steady := by
  have f : ∀ u : State, u.steady = ⟨u.calm.settings, u.calm.clock.day, u.calm.clock.second, u.calm.clock.unset,
    u.calm.meter.now, u.calm.meter.totals, u.calm.pods.slots, u.calm.supply.state, u.calm.pending⟩ := fun _ => rfl
  rw [f s, f t, h]

theorem steady_update (s : State) (cap : Capacity) (disc : Disc) (seq : Sequencer) (line : Line) (brine : Brine)
    (filter : Filter) (leak : Leak) (valve : Valve) (link : Link) (notices : NoticeQueue)
    (faults : FaultLog) (pins : Pins) :
    State.steady ⟨s.settings, s.clock, s.meter, cap, disc, seq, line, brine, filter, leak, valve, s.supply, s.pods, link,
      notices, faults, pins, s.before, s.pending⟩ = s.steady := rfl

theorem steady_meter (s : State) (cap : Capacity) (disc : Disc) (seq : Sequencer) (line : Line) (brine : Brine)
    (filter : Filter) (leak : Leak) (valve : Valve) (link : Link) (notices : NoticeQueue)
    (faults : FaultLog) (pins : Pins) (m : Meters) (c : Conditions) (w : List Nat) (o : Nat) (h : OpenHour) (r : History) :
    State.steady ⟨s.settings, s.clock, ⟨m, s.meter.now, s.meter.totals, c, w, o, h, r⟩, cap, disc, seq, line, brine, filter,
      leak, valve, s.supply, s.pods, link, notices, faults, pins, s.before, s.pending⟩ = s.steady := rfl

theorem steady_clock (s : State) (a b : Bool) :
    State.steady { s with clock := ⟨s.clock.day, s.clock.second, s.clock.unset, a, b⟩ } = s.steady := rfl

theorem steady_pods (s : State) (p : Option (Fin 8)) (q : Byte) (a : Option (Fin 8 × Byte)) (c : Bool) (w : Option Enrolment)
    (o : Option LoopFrame) : State.steady { s with pods := ⟨s.pods.slots, p, q, a, c, w, o⟩ } = s.steady := rfl

theorem steady_post (k : NoticeKind) (u : Subject) (a b c : Int) (s : State) : (post k u a b c s).steady = s.steady := rfl

theorem steady_post1 (k : NoticeKind) (u : Subject) (a : Int) (s : State) : (post1 k u a s).steady = s.steady := rfl

theorem steady_post2 (k : NoticeKind) (u : Subject) (a b : Int) (s : State) : (post2 k u a b s).steady = s.steady := rfl

theorem steady_requestDone (u : Subject) (t : Byte) (k : Nat) (o : DoneOutcome) (v : Int) (s : State) :
    (requestDone u t k o v s).steady = s.steady := rfl

theorem steady_requestDoneIf (u : Subject) (t : Option Byte) (k : Nat) (o : DoneOutcome) (v : Int) (s : State) :
    (requestDoneIf u t k o v s).steady = s.steady := steady_of_calm (calm_requestDoneIf u t k o v s)

theorem steady_faultReport (c : FaultCode) (u : Subject) (d : Int) (s : State) :
    (faultReport c u d s).steady = s.steady := rfl

theorem steady_faultGone (c : FaultCode) (u : Subject) (s : State) : (faultGone c u s).steady = s.steady := rfl

theorem steady_follow (s : State) : (follow s).steady = s.steady := steady_of_calm (calm_follow s)

theorem steady_grantDecision (s : State) : (grantDecision s).steady = s.steady := steady_of_calm (calm_grantDecision s)

theorem steady_changeTank (t : Tank) (r : TankRecord) (s : State) : (changeTank t r s).steady = s.steady :=
  steady_of_calm (calm_changeTank t r s)

theorem steady_withTank (t : Tank) (r : TankRecord) (s : State) : (s.withTank t r).steady = s.steady := rfl

theorem steady_withRecord (t : Tank) (r : CapacityRecord) (s : State) : (s.withRecord t r).steady = s.steady := rfl

theorem steady_askMove (p : Pos) (s : State) : (askMove p s).steady = s.steady := steady_of_calm (calm_askMove p s)

theorem steady_takeExhaustion (t : Tank) (s : State) : (takeExhaustion t s).steady = s.steady :=
  steady_of_calm (calm_takeExhaustion t s)

/-! ### The samples of the second -/

theorem steady_driveTimes (s : State) : (driveTimes s).steady = s.steady := rfl

theorem steady_voltageSecond (v : Nat) (s : State) : (voltageSecond v s).steady = s.steady := rfl

theorem steady_pressureSample (n : Fin 3) (x : Int) (s : State) : (pressureSample n x s).steady = s.steady := by
  unfold pressureSample; dsimp only
  repeat' split
  all_goals simp only [steady_faultReport, steady_faultGone, steady_update]

theorem steady_samplePressures (x : SecondInputs) (s : State) : (samplePressures x s).steady = s.steady := by
  unfold samplePressures; simp only [steady_pressureSample]

/-! ### The conditions of the Metering Unit -/

theorem steady_meterLossBegin (s : State) : (meterLossBegin s).steady = s.steady := by
  unfold meterLossBegin; dsimp only; split <;> rfl

theorem steady_meterLossEnd (s : State) : (meterLossEnd s).steady = s.steady := by
  unfold meterLossEnd; dsimp only; split <;> rfl

theorem steady_lossSecond (s : State) : (lossSecond s).steady = s.steady := by
  unfold lossSecond; dsimp only
  split <;> simp only [steady_meterLossBegin, steady_meterLossEnd, steady_meter]

theorem steady_unownedBegin (s : State) : (unownedBegin s).steady = s.steady := by
  unfold unownedBegin; dsimp only; split <;> rfl

theorem steady_unownedEnd (s : State) : (unownedEnd s).steady = s.steady := by
  unfold unownedEnd; dsimp only; split <;> rfl

theorem steady_unownedSecond (s : State) : (unownedSecond s).steady = s.steady := by
  unfold unownedSecond; dsimp only
  split
  · exact steady_unownedEnd _
  · exact steady_unownedBegin _

theorem steady_passingSecond (s : State) : (passingSecond s).steady = s.steady := by
  unfold passingSecond; dsimp only
  repeat' split
  all_goals rfl

theorem steady_accumulate (s : State) : (accumulate s).steady = s.steady := rfl

/-! ### The Capacity Unit, the Brine Monitor and the Filter Monitor -/

theorem steady_hardWater (t : Tank) (s : State) : (hardWater t s).steady = s.steady := by
  unfold hardWater; dsimp only; split <;> rfl

theorem steady_depleteTank (t : Tank) (v : Nat) (s : State) : (depleteTank t v s).steady = s.steady := by
  unfold depleteTank; dsimp only
  split <;> simp only [steady_hardWater, steady_withRecord]

theorem steady_depleteShare (t : Tank) (f : Bool) (s : State) : (depleteShare t f s).steady = s.steady := by
  unfold depleteShare; split <;> simp only [steady_depleteTank]

theorem steady_raiseExhaustion (s : State) : (raiseExhaustion s).steady = s.steady := by
  unfold raiseExhaustion; dsimp only
  repeat' split
  all_goals simp only [steady_takeExhaustion, steady_withRecord]

theorem steady_frontDetected (t : Tank) (s : State) : (frontDetected t s).steady = s.steady := by
  unfold frontDetected; dsimp only
  split
  · rw [steady_hardWater]; rfl
  · rfl

theorem steady_probeCount (t : Tank) (x : Int) (s : State) : (probeCount t x s).steady = s.steady := by
  unfold probeCount; exact steady_frontDetected _ _

theorem steady_probeSecond (t : Tank) (x : Int) (s : State) : (probeSecond t x s).steady = s.steady := by
  unfold probeSecond probeSample; dsimp only
  repeat' split
  all_goals first | rfl | simp only [steady_probeCount, steady_faultGone, steady_update]

theorem steady_capacitySecond (x : SecondInputs) (f : Bool) (s : State) : (capacitySecond x f s).steady = s.steady := by
  unfold capacitySecond; simp only [steady_probeSecond, steady_raiseExhaustion, steady_depleteShare]

theorem steady_setSalt (n : SaltState) (s : State) : (setSalt n s).steady = s.steady := steady_of_calm (calm_setSalt n s)

theorem steady_evaluateSaltMass (s : State) : (evaluateSaltMass s).steady = s.steady :=
  steady_of_calm (calm_evaluateSaltMass s)

theorem steady_forecastReminder (s : State) : (forecastReminder s).steady = s.steady :=
  steady_of_calm (calm_forecastReminder s)

theorem steady_inventoryChanged (n : Nat) (s : State) : (inventoryChanged n s).steady = s.steady := by
  unfold inventoryChanged; split <;> simp only [steady_forecastReminder, steady_evaluateSaltMass]

theorem steady_levelSecond (x : Int) (s : State) : (levelSecond x s).steady = s.steady := by
  unfold levelSecond levelSample; dsimp only
  repeat' split
  all_goals rfl

theorem steady_refillSecond (v : Nat) (s : State) : (refillSecond v s).steady = s.steady := by
  unfold refillSecond
  repeat' split
  all_goals rfl

theorem steady_fillDetection (h : Nat) (s : State) : (fillDetection h s).steady = s.steady := by
  unfold fillDetection; dsimp only
  repeat' split
  all_goals simp only [steady_inventoryChanged, steady_post, steady_update]

theorem steady_bridgeReference (h : Nat) (s : State) : (bridgeReference h s).steady = s.steady := by
  unfold bridgeReference
  repeat' split
  all_goals rfl

theorem steady_bridgeTest (h : Nat) (s : State) : (bridgeTest h s).steady = s.steady := by
  unfold bridgeTest
  repeat' split
  all_goals rfl

theorem steady_goodReading (d : Nat) (s : State) : (goodReading d s).steady = s.steady := by
  unfold goodReading; dsimp only
  repeat' split
  all_goals simp only [steady_bridgeTest, steady_update, steady_setSalt, steady_bridgeReference, steady_fillDetection,
    steady_faultGone]

theorem steady_saltReading (x : Int) (s : State) : (saltReading x s).steady = s.steady := by
  unfold saltReading
  repeat' split
  · exact steady_goodReading _ _
  all_goals rfl

theorem steady_saltSecond (x : Int) (s : State) : (saltSecond x s).steady = s.steady := by
  unfold saltSecond; dsimp only
  repeat' split
  all_goals simp only [steady_saltReading, steady_update]

theorem steady_brineSecond (x : SecondInputs) (s : State) : (brineSecond x s).steady = s.steady := by
  unfold brineSecond; simp only [steady_saltSecond, steady_refillSecond, steady_levelSecond]

theorem steady_filterEvaluate (s : State) : (filterEvaluate s).steady = s.steady := steady_of_calm (calm_filterEvaluate s)

theorem steady_filterEvaluateNow (s : State) : (filterEvaluateNow s).steady = s.steady :=
  steady_of_calm (calm_filterEvaluateNow s)

theorem steady_cartridgeDue (n : Nat) (c : Bool) (s : State) : (cartridgeDue n c s).steady = s.steady := by
  unfold cartridgeDue; split <;> rfl

theorem steady_baselineSet (s : State) : (baselineSet s).steady = s.steady := by
  unfold baselineSet; dsimp only
  split <;> simp only [steady_cartridgeDue, steady_filterEvaluate, steady_update]

theorem steady_indexSecond (q : Nat) (s : State) : (indexSecond q s).steady = s.steady := by
  unfold indexSecond indexUpdate; dsimp only
  repeat' split
  all_goals simp only [steady_baselineSet, steady_filterEvaluate, steady_update]

theorem steady_flushVolumeReached (s : State) : (flushVolumeReached s).steady = s.steady := by
  unfold flushVolumeReached; dsimp only; split <;> rfl

theorem steady_screenSecond (v q : Nat) (s : State) : (screenSecond v q s).steady = s.steady := by
  unfold screenSecond; simp only [steady_cartridgeDue, steady_flushVolumeReached, steady_update]

theorem steady_flushSecond (v : Nat) (s : State) : (flushSecond v s).steady = s.steady := by
  unfold flushSecond; split <;> rfl

theorem steady_flushEnd (s : State) : (flushEnd s).steady = s.steady := by
  unfold flushEnd answerFlush flushOutcome; dsimp only
  repeat' split
  all_goals simp only [steady_requestDoneIf, steady_update, steady_post, steady_of_calm (calm_releaseFlush _),
    steady_faultGone, steady_faultReport, steady_filterEvaluateNow]

theorem steady_filterSecond (s : State) : (filterSecond s).steady = s.steady := by
  unfold filterSecond; simp only [steady_flushEnd, steady_flushSecond, steady_screenSecond, steady_indexSecond]

/-! ### The Regeneration Sequencer -/

theorem steady_judgeDraw (s : State) : (judgeDraw s).steady = s.steady := by
  unfold judgeDraw; dsimp only
  repeat' split
  all_goals rfl

theorem steady_stepReported (k : Option Step) (s : State) : (stepReported k s).steady = s.steady := by
  unfold stepReported brineEnd refillEnd
  repeat' split
  all_goals rfl

theorem steady_phaseAfter (t : Tank) (s : State) : (phaseAfter t s).steady = s.steady := by
  unfold phaseAfter; dsimp only
  split <;> simp only [steady_requestDoneIf, steady_changeTank]

theorem steady_skipStep (t : Tank) (s : State) : (skipStep t s).steady = s.steady := by
  unfold skipStep; simp only [steady_phaseAfter, steady_stepReported]

theorem steady_endStep (t : Tank) (s : State) : (endStep t s).steady = s.steady := by
  unfold endStep; dsimp only
  repeat' split
  all_goals simp only [steady_skipStep, steady_faultGone, steady_faultReport]

theorem steady_stepEnd (t : Tank) (s : State) : (stepEnd t s).steady = s.steady := by
  unfold stepEnd; split <;> simp only [steady_endStep]

theorem steady_brine1200 (t : Tank) (s : State) : (brine1200 t s).steady = s.steady := by
  unfold brine1200; dsimp only
  repeat' split
  all_goals first | rfl | exact steady_judgeDraw _

theorem steady_stepSecond (t : Tank) (s : State) : (stepSecond t s).steady = s.steady := by
  unfold stepSecond; split <;> simp only [steady_stepEnd, steady_brine1200, steady_withTank]

theorem steady_lineBusy (t : Tank) (s : State) : (lineBusy t s).steady = s.steady := by
  unfold lineBusy; split
  · exact steady_of_calm (calm_defer _ _ _)
  · rfl

theorem steady_dwellEnd (s : State) : (dwellEnd s).steady = s.steady := by
  unfold dwellEnd
  repeat' split
  all_goals first | rfl | simp only [steady_askMove, steady_update]

theorem steady_dwellSecond (s : State) : (dwellSecond s).steady = s.steady := by
  unfold dwellSecond
  repeat' split
  all_goals simp only [steady_dwellEnd, steady_update]

theorem steady_changeoverMove (s : State) : (changeoverMove s).steady = s.steady := by
  unfold changeoverMove
  repeat' split
  all_goals simp only [steady_askMove]

theorem steady_firstMove (t : Tank) (s : State) : (firstMove t s).steady = s.steady := by
  unfold firstMove; dsimp only
  repeat' split
  all_goals first | rfl | exact steady_of_calm (calm_askStepMove _ _ _)

theorem steady_waitingMoves (s : State) : (waitingMoves s).steady = s.steady := by
  unfold waitingMoves
  simp only [steady_of_calm (calm_stepMove _ _), steady_firstMove, steady_changeoverMove]

theorem steady_changeoverBegin (s : State) : (changeoverBegin s).steady = s.steady :=
  steady_of_calm (calm_changeoverBegin s)

theorem steady_sequencerSecond (s : State) : (sequencerSecond s).steady = s.steady := by
  unfold sequencerSecond
  simp only [steady_changeoverBegin, steady_waitingMoves, steady_dwellSecond, steady_stepSecond, steady_lineBusy,
    steady_update]

theorem steady_calendarFallback (s : State) : (calendarFallback s).steady = s.steady := by
  unfold calendarFallback; dsimp only
  repeat' split
  all_goals simp only [steady_takeExhaustion, steady_update]

theorem steady_calendarSecond (s : State) : (calendarSecond s).steady = s.steady := by
  unfold calendarSecond; split <;> simp only [steady_calendarFallback, steady_update]

theorem steady_askProjection (t : Tank) (s : State) : (askProjection t s).steady = s.steady :=
  steady_of_calm (calm_askProjection t s)

theorem steady_sequencerHour (s : State) : (sequencerHour s).steady = s.steady := by
  unfold sequencerHour projectionHour maxServiceDays serviceHour; dsimp only
  repeat' split
  all_goals simp only [steady_askProjection, steady_takeExhaustion, steady_withTank]

/-! ### Midnight and the hour close -/

theorem steady_repeatReminder (s : State) : (repeatReminder s).steady = s.steady := by
  unfold repeatReminder; dsimp only
  repeat' split
  all_goals rfl

theorem steady_midnight (s : State) : (midnight s).steady = s.steady := by
  unfold midnight; split
  · unfold brineMidnight filterMidnight exerciseMidnight
    simp only [steady_forecastReminder, steady_repeatReminder, steady_update, steady_cartridgeDue]
    rfl
  · rfl

theorem steady_historyPending (n : Nat) (s : State) : (historyPending n s).steady = s.steady := by
  unfold historyPending; dsimp only; split <;> rfl

theorem steady_appendHour (o : OpenHour) (s : State) : (appendHour o s).steady = s.steady := by
  unfold appendHour; simp only [steady_historyPending, steady_meter]

theorem steady_placeHour (o : OpenHour) (s : State) : (placeHour o s).steady = s.steady := by
  unfold placeHour; dsimp only
  repeat' split
  all_goals simp only [steady_appendHour, steady_meter]

theorem steady_closeHour (s : State) : (closeHour s).steady = s.steady := by
  unfold closeHour openHour; simp only [steady_meter, steady_placeHour]

theorem steady_hourClose (s : State) : (hourClose s).steady = s.steady := by
  unfold hourClose; split <;> simp only [steady_sequencerHour, steady_closeHour, steady_clock]

/-! ### The shutoff valve -/

theorem steady_valveChange (v : ValveState) (s : State) : (valveChange v s).steady = s.steady :=
  steady_of_calm (calm_valveChange v s)

theorem steady_answerTag (s : State) : (answerTag s).steady = s.steady := steady_of_calm (calm_answerTag s)

theorem steady_beginTravel (s : State) : (beginTravel s).steady = s.steady := steady_of_calm (calm_beginTravel s)

theorem steady_reverseTravel (s : State) : (reverseTravel s).steady = s.steady := steady_of_calm (calm_reverseTravel s)

theorem steady_exerciseBegin (s : State) : (exerciseBegin s).steady = s.steady := by
  unfold exerciseBegin; simp only [steady_valveChange, steady_update]

theorem steady_exerciseCue (s : State) : (exerciseCue s).steady = s.steady := by
  unfold exerciseCue; split <;> rfl

theorem steady_exerciseSecond (s : State) : (exerciseSecond s).steady = s.steady := by
  unfold exerciseSecond armedExpiry exerciseStart
  repeat' split
  all_goals simp only [steady_update, steady_exerciseBegin]

theorem steady_valveArrive (e : ValveEnd) (s : State) : (valveArrive e s).steady = s.steady := by
  unfold valveArrive; dsimp only
  repeat' split
  all_goals simp only [steady_answerTag, steady_faultGone, steady_valveChange, steady_update]

theorem steady_closeRunTravels (s : State) : (closeRunTravels s).steady = s.steady := by
  unfold closeRunTravels exercisePassed; dsimp only
  repeat' split
  all_goals simp only [steady_valveArrive, steady_faultGone, steady_update]

theorem steady_targetBecameClosed (s : State) : (targetBecameClosed s).steady = s.steady := by
  unfold targetBecameClosed; dsimp only
  repeat' split
  all_goals simp only [steady_beginTravel, steady_reverseTravel, steady_closeRunTravels, steady_update]

theorem steady_addReason (n : Reason) (s : State) : (addReason n s).steady = s.steady := by
  unfold addReason; dsimp only; split <;> simp only [steady_targetBecameClosed, steady_update]

theorem steady_dropReason (n : Reason) (s : State) : (dropReason n s).steady = s.steady := by
  unfold dropReason; dsimp only
  repeat' split
  all_goals simp only [steady_beginTravel, steady_reverseTravel, steady_update]

theorem steady_changeDecision (s : State) : (changeDecision s).steady = s.steady := steady_of_calm (calm_changeDecision s)

theorem steady_openedDecision (o s : State) : (openedDecision o s).steady = s.steady := by
  unfold openedDecision; split <;> simp only [steady_changeDecision]

theorem steady_removeReason (n : Reason) (s : State) : (removeReason n s).steady = s.steady := by
  unfold removeReason; simp only [steady_openedDecision, steady_dropReason]

/-! ### The Leak Monitor -/

theorem steady_latchCore (c : Cause) (d : Int) (s : State) : (latchCore c d s).steady = s.steady := by
  unfold latchCore; dsimp only
  repeat' split
  all_goals simp only [steady_addReason, steady_post, steady_update]

theorem steady_microleakResult (r : TestResult) (d : Int) (s : State) : (microleakResult r d s).steady = s.steady := by
  unfold microleakResult; dsimp only
  repeat' split
  all_goals simp only [steady_latchCore, steady_post, steady_update]

theorem steady_recordResult (r : TestResult) (v : Int) (p : Nat) (d : Int) (s : State) :
    (recordResult r v p d s).steady = s.steady := by
  unfold recordResult; simp only [steady_exerciseCue, steady_update, steady_requestDoneIf, steady_post]

theorem steady_endTest (r : TestResult) (v d : Int) (s : State) : (endTest r v d s).steady = s.steady := by
  unfold endTest; dsimp only
  split <;> simp only [steady_recordResult, steady_of_calm (calm_giveUpTest _), steady_removeReason, steady_microleakResult]

theorem steady_abandonTest (r : EndReason) (s : State) : (abandonTest r s).steady = s.steady := by
  unfold abandonTest; split <;> simp only [steady_endTest]

theorem steady_abandonClosing (r : EndReason) (s : State) : (abandonClosing r s).steady = s.steady := by
  unfold abandonClosing; split <;> simp only [steady_abandonTest]

theorem steady_latchCause (c : Cause) (d : Int) (s : State) : (latchCause c d s).steady = s.steady := by
  unfold latchCause; split <;> simp only [steady_abandonTest, steady_latchCore]

theorem steady_flowTrip (h : Bool) (s : State) : (flowTrip h s).steady = s.steady := by
  unfold flowTrip tripTests; dsimp only
  repeat' split
  all_goals simp only [steady_latchCause]

theorem steady_eventBegin (h : Bool) (s : State) : (eventBegin h s).steady = s.steady := by
  unfold eventBegin; dsimp only; split <;> simp only [steady_flowTrip, steady_update]

theorem steady_eventEnd (s : State) : (eventEnd s).steady = s.steady := by
  unfold eventEnd; dsimp only; split <;> rfl

theorem steady_detectorSecond (v : Nat) (h : Bool) (s : State) : (detectorSecond v h s).steady = s.steady := by
  unfold detectorSecond; dsimp only
  repeat' split
  all_goals simp only [steady_eventBegin, steady_eventEnd, steady_flowTrip, steady_update]

theorem steady_testClaim (t : Option Byte) (s : State) : (testClaim t s).steady = s.steady := by
  unfold testClaim; rw [steady_of_calm (calm_claimTest _)]; rfl

theorem steady_testDue (s : State) : (testDue s).steady = s.steady := by
  unfold testDue; dsimp only
  repeat' split
  all_goals simp only [steady_recordResult, steady_testClaim, steady_update]

theorem steady_testSecond (s : State) : (testSecond s).steady = s.steady := by
  unfold testSecond claimWaitExpiry testSettle holdBegin holdSecond holdEnd; dsimp only
  repeat' split
  all_goals simp only [steady_endTest, steady_abandonTest, steady_update]

theorem steady_leakSecond (f : Bool) (s : State) : (leakSecond f s).steady = s.steady := by
  unfold leakSecond offCue testMinuteReached; dsimp only
  split <;> simp only [steady_exerciseCue, steady_testDue, steady_update, steady_testSecond, steady_detectorSecond]

/-! ### The supply and the pods -/

theorem steady_shutdown (s : State) : (shutdown s).steady = s.steady := rfl

theorem steady_supply (s : State) (p : Supply) (n : SupplyState) (h : p.state = n) :
    State.steady { s with supply := p } = { s.steady with supply := n } := by subst h; rfl

theorem steady_supplyChange (n : SupplyState) (s : State) :
    (supplyChange n s).steady = { s.steady with supply := n } := by
  have base : ∀ u : State, (post2 .supplyState .none (supplyCode n) s.supply.battery
      { s with supply := { s.supply with state := n } }).steady = u.steady → u.steady = { s.steady with supply := n } :=
    fun u hu => hu.symm
  unfold supplyChange mainsEntered lowEntered mainsLeft; dsimp only
  repeat' split
  all_goals first
    | (rename_i h; rw [← h]; rfl)
    | (apply base
       simp only [steady_shutdown, steady_changeDecision, steady_removeReason, steady_addReason, steady_faultReport,
         steady_abandonClosing, steady_of_calm (calm_flushCut _), steady_faultGone])

theorem steady_enrolSecond (s : State) : (enrolSecond s).steady = s.steady := by
  unfold enrolSecond enrolWindowClose windowClose; dsimp only
  repeat' split
  all_goals simp only [steady_requestDone, steady_pods]

/-- After the attribution of a second, its work leaves the settings, the time, the figures, the totals, the roster and the queue
of commands as they were. -/
theorem steady_meteringWork (a b : Nat) (s : State) : (meteringWork a b s).steady = (takePulses a b s).steady := by
  unfold meteringWork
  simp only [steady_accumulate, steady_passingSecond, steady_unownedSecond, steady_lossSecond]

theorem steady_voltageSteady (s : State) : ∃ n, (voltageSteady s).steady = { s.steady with supply := n } := by
  unfold voltageSteady; split
  · exact ⟨_, steady_supplyChange _ s⟩
  · exact ⟨s.supply.state, rfl⟩

/-- A metering second ends with the settings, the roster and the queue as they were and the figures and totals of its
attribution. -/
theorem steady_runSecond (x : SecondInputs) (s : State) : ∃ n, (runSecond x s).steady =
    { (takePulses x.pulsesIn x.pulsesProc (samplePressures x (voltageSecond x.battery.toNat (advanceClock (driveTimes
        { s with pins := { s.pins with svc := x.svc } }))))).steady with supply := n } := by
  obtain ⟨n, hn⟩ := steady_voltageSteady (enrolSecond (leakSecond
    (s.meter.cond.lossActive || (meteringWork x.pulsesIn x.pulsesProc (samplePressures x (voltageSecond x.battery.toNat
      (advanceClock (driveTimes { s with pins := { s.pins with svc := x.svc } }))))).meter.cond.lossActive)
    (exerciseSecond (calendarSecond (hourClose (midnight (sequencerSecond (filterSecond (brineSecond x (capacitySecond x
      (s.meter.cond.lossActive || (meteringWork x.pulsesIn x.pulsesProc (samplePressures x (voltageSecond
        x.battery.toNat (advanceClock (driveTimes { s with pins := { s.pins with svc := x.svc } }))))).meter.cond.lossActive)
      (meteringWork x.pulsesIn x.pulsesProc (samplePressures x (voltageSecond x.battery.toNat (advanceClock (driveTimes
        { s with pins := { s.pins with svc := x.svc } })))))))))))))))
  refine ⟨n, ?_⟩
  unfold runSecond
  dsimp only
  rw [steady_follow, hn]
  simp only [steady_enrolSecond, steady_leakSecond, steady_exerciseSecond, steady_calendarSecond, steady_hourClose,
    steady_midnight, steady_sequencerSecond, steady_filterSecond, steady_brineSecond, steady_capacitySecond,
    steady_meteringWork]

end Sys2Proof.Machine
end

