-- ==== Sys2Proof/Laws/Wire.lean ====
section
/-! SUPPORT. The serial line: requests handled at once, the lengths of fields, and what a frame's bytes say. -/

namespace Sys2Proof.Machine

/-! ### Lengths of fields (R173) -/

@[simp] theorem natBytes_length (w v : Nat) : (natBytes w v).length = w := by
  induction w generalizing v with
  | zero => rfl
  | succ n ih => simp [natBytes, ih]

@[simp] theorem unsignedField_length (w v : Nat) : (unsignedField w v).length = w := by
  unfold unsignedField
  split <;> simp [unfitBytes]

@[simp] theorem signedField_length (w : Nat) (v : Int) : (signedField w v).length = w := by
  unfold signedField
  split <;> simp [unfitBytes]

@[simp] theorem optionField_length (w : Nat) (v : Option Nat) : (optionField w v).length = w := by
  unfold optionField
  split <;> simp

@[simp] theorem markField_length (b : Bool) : (markField b).length = 1 := by simp [markField]

@[simp] theorem stampField_length (t : Stamp) : (stampField t).length = 6 := by simp [stampField]

@[simp] theorem stampOrNone_length (t : Option Stamp) : (stampOrNone t).length = 6 := by
  unfold stampOrNone
  split <;> simp

/-! ### Requests -/

/-- Every request kind lies below 0x80. -/
theorem requestKind_low (r : Request) : r.kind.toNat < 0x80 := by cases r <;> exact of_decide_eq_true rfl

/-- The kind of the reply to a request (R172). -/
theorem requestKind_reply (r : Request) : replyKind r.kind = r.kind + 0x80 := by
  unfold replyKind
  rw [if_neg (by have := requestKind_low r; omega)]

/-- A request's own frame passes the frame check (R170). -/
theorem requestFrame_checked (r : Request) (tag : Byte) : (r.frame tag).checked = true := by
  simp [Frame.checked, Request.frame, goodFrame]

/-- A request whose frame completes while no request is handled is taken by its owner in that event, at which the service jumper is
read (R171, R174, R175). -/
theorem request_free {s : State} (h : s.free) (svc : Bool) (r : Request) (tag : Byte) (hl : r.payload.length ≤ 248)
    (hp : parseRequest r.kind r.payload = .request r) :
    request svc r tag s = commit s (buildReply (r.frame tag) (r.kind + 0x80)
      (takeRequest tag (frameDropped (s.withSvc svc)) r)) := by
  obtain ⟨h1, h2⟩ := h
  have hl' : (r.frame tag).payload.length ≤ 248 := hl
  have hk : replyKind (r.frame tag).kind = r.kind + 0x80 := requestKind_reply r
  unfold request lineEvent whenOn deliver
  simp only [h1, hl', if_true]
  unfold receive
  rw [withSvc_link, h2]
  dsimp only
  unfold handleFrame
  rw [requestFrame_checked, hk]
  simp only [Bool.false_eq_true, ite_true, ite_false]
  simp only [dispatch, Request.frame, goodFrame, hp, frameDropped, withSvc_link]

end Sys2Proof.Machine
end

