-- ==== Sys2Proof/WellFormed.lean ====
section
/-! DEFINITION. Which commands the part can meet: every field of a frame and every input in the range its rule gives (R2, R150,
R156, R166, R168, R169). Every command has a meaning whatever its operands; a statement may ask for a well-formed one. -/

namespace Sys2Proof

/-- A payload of at most 248 bytes (R168). -/
def wfPayload (p : List Byte) : Bool := decide (p.length ≤ 248)

/-- The pulses of a second, no more than the counters hold (R2). -/
def SecondInputs.wf (x : SecondInputs) : Bool := decide (x.pulsesIn ≤ 65535) && decide (x.pulsesProc ≤ 65535)

/-- A command that the part can meet. -/
def Instr.wf : Instr → Bool
  | .coldStart _ => true
  | .firstStart _ => true
  | .warmReset _ => true
  | .meteringSecond x => x.wf
  | .meterLossBegin => true
  | .meterLossEnd => true
  | .processFlowUnownedBegin => true
  | .processFlowUnownedEnd => true
  | .midnight => true
  | .hourClose => true
  | .frontDetected _ => true
  | .inPlaceSet _ => true
  | .inPlaceClear => true
  | .discTimeout => true
  | .discStall => true
  | .discRestartObservation _ _ => true
  | .changeoverBegin => true
  | .dwellEnd => true
  | .calendarFallback => true
  | .regenClaim => true
  | .stepEnd => true
  | .brine1200 => true
  | .sequencerMoveRequest => true
  | .postRegenReading _ => true
  | .baselineSet => true
  | .flushVolumeReached => true
  | .flushClaim => true
  | .flushEnd => true
  | .eventBegin => true
  | .eventEnd => true
  | .flowTrip => true
  | .testDue => true
  | .claimWaitExpiry => true
  | .testSettle => true
  | .holdBegin => true
  | .holdEnd => true
  | .endSwitchArrival _ => true
  | .valveTravelLimit => true
  | .valveOvercurrent => true
  | .valvePauseEnd => true
  | .shutoffSwitch => true
  | .endSwitchRelease _ => true
  | .exerciseCue => true
  | .exerciseStart => true
  | .exerciseArmedExpiry => true
  | .closeRunEnd ms => decide (ms ≤ 2000)
  | .mainsLost => true
  | .mainsReturned => true
  | .voltageSteady => true
  | .poll => true
  | .pollAnswer _ _ _ _ _ t _ => decide (-128 ≤ t ∧ t ≤ 127)
  | .pollAnswerMissed => true
  | .podMissing _ => true
  | .podLost _ => true
  | .enrolCall => true
  | .enrolAnswer _ _ _ => true
  | .enrolWindowClose => true
  | .frameReceived b _ => decide (b.length ≤ 253)
  | .frameTimeout => true
  | .frameBadLength n => decide (n.toNat < 2 ∨ 250 < n.toNat)
  | .frameReject _ _ p _ _ => wfPayload p
  | .unknownKind _ _ p _ => wfPayload p
  | .badLength _ _ p _ => wfPayload p
  | .replyComplete _ => true
  | .identify _ _ => true
  | .status _ _ => true
  | .get _ _ _ => true
  | .set _ _ _ _ => true
  | .clockSet _ _ _ _ => true
  | .noticeTake _ _ => true
  | .noticePeek _ _ => true
  | .historyRead _ _ => true
  | .historyClear _ _ => true
  | .totalsRead _ _ => true
  | .totalsClear _ _ => true
  | .tankCmdRegen _ _ _ => true
  | .tankCmdChangeover _ _ _ => true
  | .tankCmdHalt _ _ _ => true
  | .tankCmdResume _ _ _ => true
  | .tankCmdSkip _ _ _ => true
  | .discStep _ _ => true
  | .discRetry _ _ => true
  | .flushCmd _ _ => true
  | .shutoffCmdClose _ _ => true
  | .shutoffCmdOpen _ _ => true
  | .shutoffCmdRetry _ _ => true
  | .leakReset _ _ _ => true
  | .pressureTest _ _ => true
  | .saltFilled _ _ _ => true
  | .cartridgeFitted _ _ => true
  | .podEnrol _ _ _ => true
  | .podRemove _ _ _ => true
  | .podList _ _ => true
  | .podLabel _ _ _ l _ => decide (l.length ≤ 16)
  | .faultsRead _ _ => true
  | .faultsClear _ _ => true
  | .defaultsRestore _ _ => true
  | .reset _ _ => true
  | .frameStart => true
  | .openEndReleaseInRun => true

end Sys2Proof
end

