-- ==== Sys2Proof/Tests/Slice0.lean ====
section
/-! SUPPORT. The model's own tests: operands that WellFormed refuses; the manual's worked examples and stated values, each naming its
source; and for each statement with hypotheses the states that meet them, clause by clause. -/

namespace Sys2Proof.Tests

set_option Elab.async false

open Sys2Proof.Machine

/-! ### Helpers -/

/-- What is read from the next state of an outcome. -/
def after {α : Type} (o : Host.Outcome State Fault Refusal) (f : State → α) : Option α :=
  match o with
  | .next t => some (f t)
  | _ => none

/-- The part after its restart observation, the disc in place at P0. -/
def rest : State := { State.reset with disc := { state := .atPosition, position := some 0, inPlace := true } }

/-- The part stopped in SHUTDOWN. -/
def off : State := { State.reset with supply := { state := .shutdown } }

/-- Tank A in service, tank B as given. -/
def serving (b : TankRecord) : State := { rest with seq := { tanks := ⟨{ service := .inService }, b⟩ } }

/-- Tank A as given, tank B in service, the disc at a position. -/
def regenerating (a : TankRecord) (p : Pos) : State :=
  { rest with
    seq := { tanks := ⟨a, { service := .inService }⟩ }
    line := { regen := some { granted := true, tank := .a, continuation := false } }
    disc := { state := .atPosition, position := some p, inPlace := true } }

/-- Tank A in a step, its timer at `n`. -/
def inStep (k : Step) (n : Nat) : TankRecord :=
  { service := .regenerating, step := some k, phase := some .inStep, elapsed := n, claim := .granted }

/-- A second with nothing flowing. -/
def calm : SecondInputs :=
  { pulsesIn := 0, pulsesProc := 0, p1 := 400, p2 := 390, p3 := 380, probeA := 1000, probeB := 1000, level := 100,
    saltDistance := 400, battery := 12000, svc := false }

/-- The disc moving from `r` toward `t`. -/
def moving (r t : Pos) (q : Requester) : Disc :=
  { state := .running, position := some r, target := some (.pos t), requester := some q }

/-- The valve driven toward an end, neither switch made. -/
def travelling (e : ValveEnd) (second : Bool) : State :=
  { rest with
    valve := { state := travelState e, drive := driveTo e, second := second }
    pins := { openEnd := false, closedEnd := false } }

/-- A pod of the roster in slot 0. -/
def withPod (p : PodSlot) : State := rest.withSlot 0 p

/-- The valve in an exercise phase. -/
def exercising (p : ExercisePhase) : State := { rest with valve := { exercise := p, exerciseDays := 30 } }

/-- A request being handled, its reply in progress. -/
def handling (c : Completion) : State :=
  { rest with link := { handling := some {
      frame := Request.status.frame 1, reply := goodFrame 0x82 1 [], completion := c } } }

/-! ### WellFormed refuses what the part cannot meet -/

theorem test_wf_inlet_pulses : (Instr.meteringSecond { calm with pulsesIn := 65536 }).wf = false := by decide
theorem test_wf_process_pulses : (Instr.meteringSecond { calm with pulsesProc := 65536 }).wf = false := by decide
theorem test_wf_run_time : (Instr.closeRunEnd 2001).wf = false := by decide
theorem test_wf_temperature_high : (Instr.pollAnswer 0 0 false false false 128 true).wf = false := by decide
theorem test_wf_temperature_low : (Instr.pollAnswer 0 0 false false false (-129) true).wf = false := by decide
theorem test_wf_frame : (Instr.frameReceived (List.replicate 254 0)).wf = false := by decide +kernel
theorem test_wf_good_length : (Instr.frameBadLength 250).wf = false := by decide
theorem test_wf_reject : (Instr.frameReject 1 1 (List.replicate 249 0) 0).wf = false := by decide +kernel
theorem test_wf_unknown_kind : (Instr.unknownKind 0x0C 1 (List.replicate 249 0)).wf = false := by decide +kernel
theorem test_wf_bad_length : (Instr.badLength 1 1 (List.replicate 249 0)).wf = false := by decide +kernel
theorem test_wf_label : (Instr.podLabel 1 0 1 (List.replicate 17 65)).wf = false := by decide
theorem test_wf_accepts : (Instr.meteringSecond { calm with pulsesIn := 65535, pulsesProc := 65535 }).wf = true := by decide

/-- The opcode table gives no row any bits, so no word spells a command and `withFetchWord` changes nothing. -/
theorem test_no_word_spells_a_command : decodeTableWord 16 0x0201 = none := rfl

/-! ### Worked examples of the manual -/

/-- The part with 20 mL an inlet pulse, the line owned as given (section 1.3.1). -/
def metered (l : Line) : State := { rest with settings := { inst := { kIn := 5000 } }, line := l }

/-- The figures of a second, in the columns of section 1.3.1. -/
def columns (l : Line) (i p : Nat) : Option (Nat × Nat × Nat × Nat × Nat) :=
  after (exec (.meteringSecond { calm with pulsesIn := i, pulsesProc := p }) (metered l))
    fun t => (t.meter.now.vIn, t.meter.now.vProc, t.meter.now.vFl, t.meter.now.vTr, t.meter.now.vH)

/-- Section 1.3.1, first row. -/
theorem test_second_under_flush :
    columns { flush := some ⟨true, false⟩ } 21 90 = some (420, 300, 300, 120, 120) := by decide +kernel

/-- Section 1.3.1, last row: the process pulses ran ahead. -/
theorem test_second_flush_ahead :
    columns { flush := some ⟨true, false⟩ } 12 75 = some (240, 250, 240, 0, 0) := by decide +kernel

/-- Section 1.3.1: 137 mL split in a changeover, the outgoing tank in deficit. -/
theorem test_split_and_hard_water :
    let s : State := { rest with
      seq := { changeover := some { outgoing := .a, phase := .dwell } }
      cap := { recs := ⟨{ credited := 1250000, remaining := -500 }, { credited := 1250000, remaining := 1247500 }⟩ } }
    let f : Figures := secondFigures 137 0 s
    f.shares.a = 68 ∧ f.shares.b = 69 ∧ hardShares f s = 68 := by decide +kernel

/-- R24: the rated capacities it states. -/
theorem test_rated_capacity : ratedCapacity 120 250 = 1250000 ∧ ratedCapacity 240 1000 = 6800000 := by decide +kernel

/-- Section 4.8: 8320 mL of 8334 mL give B 998 and a credit of 1,247,500 mg. -/
theorem test_credit : (CapacityRecord.commissioned.credit (ratedCapacity 120 250) 998).credited = 1247500 := by decide +kernel

/-- Section 6.10: the drawn volume, the completeness and the saturation. -/
theorem test_draw_figures :
    let m : BrineMeasure := { tank := .a, start := 66, lowest := 14, planned := 8334, area := 1600, saturation := 1000 }
    m.drawn = 8320 ∧ m.completeness = 998 := by decide +kernel

/-- Section 6.10: at 1200 seconds 7360 mL pass the test. -/
theorem test_draw_passes :
    let m : BrineMeasure := { tank := .a, start := 66, lowest := 20, planned := 8334, area := 1600, saturation := 1000 }
    after (exec .brine1200 { regenerating (inStep .brine 1200) 4 with brine := { measure := some m } })
      (fun t => (t.faults, t.brine.measure.map BrineMeasure.judged)) = some ({}, some true) := by decide +kernel

/-- Section 3.4.1: P6 comes in place on the way to P7; the disc creeps and the leg time restarts. -/
theorem test_move_creeps_at_the_predecessor :
    after (exec (.inPlaceSet 5) { rest with disc := { moving 5 7 .sequencer with legTime := 6 } })
      (fun t => (t.disc.state, t.disc.position, t.disc.legTime)) = some (.creeping, some 6, 0) := by decide +kernel

/-- Section 3.4.2: P2 comes in place after the target P1; DISC_MISSED, detail 1. -/
theorem test_missed_target :
    after (exec (.inPlaceSet 3) { rest with disc := { moving 0 1 (.discStep 41) with mode := .manual, state := .creeping } })
      (fun t => (t.disc.fault, t.disc.position, t.disc.target)) = some (some (.discMissed, 1), some 2, some (.pos 1)) := by
  decide +kernel

/-- Section 7.2.1: the smoothed resistance from 640 toward 180. -/
theorem test_smoothing :
    ([640, 525, 439, 375, 327, 183] : List Nat).map (fun r => smoothed { rs10 := r } 18) = [525, 439, 375, 327, 291, 183] := by
  decide +kernel

/-- Section 8.2.1: the AWAY set trips CONTINUOUS and then VOLUME at 1806 seconds and 270,900 mL. -/
theorem test_away_trip :
    let s : State := { rest with leak := { detector :=
      { active := some ⟨5, 900, 100, 300, 30⟩, seconds := 1806, volume := 270900 } } }
    after (exec .flowTrip s) (fun t => (t.leak.latch, t.valve.reasons.trip, t.valve.state))
      = some (some { first := .continuous, time := 0, detail := 1806, further := [.volume], litres := 270 }, true, .closing) := by
  decide +kernel

/-- Section 8.8: 412 kPa fall to 378 kPa in 300 seconds: the third MICROLEAK. -/
theorem test_microleak :
    let s : State := { rest with
      leak := { test := { phase := .hold, hold := 300, p0 := 412, duration := 300, decay := 30, draw := 80, window := [380, 378] }
                record := { microleaks := 2 } } }
    after (exec .holdEnd s) (fun t => (t.leak.record.result, t.leak.record.decay, t.leak.record.microleaks, t.leak.test.phase))
      = some (some .microleak, 34, 3, .idle) := by decide +kernel

/-- Section 9.7: the second overcurrent of a closing travel is SHUTOFF_STUCK, detail 2. -/
theorem test_failed_closure :
    after (exec .valveOvercurrent { travelling .closedEnd true with valve :=
        { (travelling .closedEnd true).valve with reasons := { trip := true } } })
      (fun t => (t.valve.state, t.faults.records.map fun r => (r.code, r.detail))) = some (.stuck, [(.shutoffStuck, 2)]) := by
  decide +kernel

/-- Section 10.4.1: pod 40188 answers again; slot 3 is told it once more. -/
theorem test_reassigned :
    let s : State := { (rest.withSlot 3 { serial := some 40188, state := .missing }) with
      pods := { (rest.withSlot 3 { serial := some 40188, state := .missing }).pods with
        calling := true, window := some { tag := 23, remaining := 56, new := 2 } } }
    after (exec (.enrolAnswer 40188 true 40) s) (fun t => (t.pods.out, t.pods.window))
      = some (some (.assign 40188 3), some { tag := 23, remaining := 56, new := 2, again := 1 }) := by decide +kernel

/-- Section 11.7: flush time 200 is clamped to 120 in a reply with two notices and no flags. -/
theorem test_clamped_setting :
    after (exec (.set 5 44 200 false) { rest with clock := { unset := false } })
      (fun t => (t.link.handling.map fun h => h.reply.payload, t.settings.user.filter.flushTime))
      = some (some [0x01, 2, 0, 44, 120, 0, 0, 0], 120) := by decide +kernel

/-- Section 11.7: a SET of the valve travel limit without SVCn is LOCKED and carries no body. -/
theorem test_locked_setting :
    after (exec (.set 5 11 20 false) { rest with clock := { unset := false } })
      (fun t => (t.link.handling.map fun h => h.reply.payload, t.settings.inst.travelLimit))
      = some (some [0x23, 2, 0], 25) := by decide +kernel

/-- Section 11.7: a third frame behind a request being handled and a held one is discarded with OVERRUN. -/
theorem test_overrun :
    let s := { handling .plain with link := { (handling .plain).link with held := some (Request.status.frame 6) } }
    after (exec (.get 7 44 false) s) (fun t => (t.link.overrun, t.link.held)) = some (true, some (Request.status.frame 6)) := by
  decide +kernel

/-- R171, R172: a complete frame of bytes is handled at once, and its reply goes out as a frame of its own (section 11.1); the flags show
SVCn as it stands. -/
theorem test_frame_is_answered :
    after (exec (.frameReceived (Request.reset.frame 9).bytes true) { rest with clock := { unset := false } })
      (fun t => t.link.handling.map fun h => h.reply.wire.take 7)
      = some (some [0x7E, 5, 0xA0, 9, 0x00, 2, 0x04]) := by decide +kernel

/-- R190: the SET of flush time 60 whose group is lost holds its old value after the restart, and its new one when it was written. -/
theorem test_lost_group :
    let x (lost : Bool) : RestartInputs :=
      { mains := true, battery := 12000, openEnd := true, closedEnd := false, svc := false, lost := lost }
    let read (lost : Bool) := match exec (.set 5 44 60 false) rest with
      | .next t => after (exec (.warmReset (x lost)) t) (fun u => u.settings.user.filter.flushTime)
      | _ => none
    read true = some 30 ∧ read false = some 60 := by decide +kernel

/-- R190: a restart ends the write of the group before it: a second restart has no group to lose, and finds the new value. -/
theorem test_group_is_over_at_the_restart :
    let x (lost : Bool) : RestartInputs :=
      { mains := true, battery := 12000, openEnd := true, closedEnd := false, svc := false, lost := lost }
    (match exec (.set 5 44 60 false) rest with
      | .next t => match exec (.warmReset (x false)) t with
        | .next u => after (exec (.warmReset (x true)) u) (fun v => (v.settings.user.filter.flushTime, u.before.isNone))
        | _ => none
      | _ => none) = some (60, true) := by decide +kernel

/-- Section 5.5: at the return of mains the regeneration is granted, and the NORMAL flush that waited stays pending behind it. -/
theorem test_contested_night :
    let s : State := { rest with
      seq := { tanks := ⟨{ service := .exhausted }, { service := .inService }⟩, timing := .immediate }
      supply := { state := .battery }, line := { flush := some ⟨false, false⟩ } }
    after (exec .mainsReturned s) (fun t => (t.line, (t.tank .a).service))
      = some ({ regen := some ⟨true, .a, false⟩, flush := some ⟨false, false⟩ }, .regenerating) := by decide +kernel

/-- Section 2.9: the front of the worked case: L 981, the mode ACQUISITION and 300,000 mg remaining. -/
theorem test_front :
    let r : CapacityRecord := { credited := 1247500, remaining := 347500, consumed := 900000 }
    let s : State := { serving {} with cap := { recs := ⟨r, CapacityRecord.commissioned⟩, runs := ⟨31, 0⟩ } }
    after (exec (.frontDetected .a) s) (fun t => ((t.record .a).learned, (t.record .a).mode, (t.record .a).remaining))
      = some (981, .acquisition, 300000) := by decide +kernel

/-- R143, R147: a RETRY of a STUCK valve whose travel is reversed arrives with SHUTOFF_STUCK reported gone. -/
theorem test_retried_travel_cures :
    let r : FaultRecord :=
      { code := .shutoffStuck, subject := .none, first := 0, last := 0, count := 1, active := true, detail := 1 }
    let s : State := { travelling .openEnd false with
      valve := { (travelling .openEnd false).valve with retried := true }, faults := { records := [r] } }
    after (exec (.endSwitchArrival .openEnd) s) (fun t => (t.valve.state, t.faults.records.map FaultRecord.active))
      = some (.opened, [false]) := by decide +kernel

/-- R156: an enrol answer later than 40 ms after its call is ignored. -/
theorem test_late_enrol_answer :
    let s : State := { rest with pods := { rest.pods with calling := true, window := some { tag := 23, remaining := 56 } } }
    after (exec (.enrolAnswer 40188 true 41) s) (fun t => (t.pods.out, (t.slot 0).state)) = some (none, .empty) := by
  decide +kernel

/-- R164: a garbled answer to a call is ignored, and its 40 ms run on for the good one that may follow. -/
theorem test_garbled_enrol_answer :
    let s : State := { rest with pods := { rest.pods with calling := true, window := some { tag := 23, remaining := 58 } } }
    after (exec (.enrolAnswer 9 false 25) s) (fun t => (t.pods.calling, (t.slot 0).state)) = some (true, .empty) := by
  decide +kernel

/-- R102: a defaults restore that brings low kg down from 50 does not change the salt state of 20 kg. -/
theorem test_restore_keeps_salt_state :
    let s : State := { rest with
      settings := { inst := { sensorFitted := false }, user := { salt := { lowKg := 50 } } }
      brine := { inventory := 20000, salt := .low } }
    after (exec (.defaultsRestore 5 false) s) (fun t => (t.settings.user.salt.lowKg, t.brine.salt)) = some (10, .low) := by
  decide +kernel

/-- R178: the projection of a tank that a defaults restore makes EXHAUSTED reads H_eff of the restored hardness, 300, and not of the old, 900;
the need of the old would make it urgent. -/
theorem test_restore_projects_with_restored_hardness :
    let s : State := { serving { service := .disabled } with
      settings := { inst := { vrB := 0 }, user := { soft := { hardness := 900 } } }
      cap := { recs := ⟨{ credited := 1250000, remaining := 80000 }, CapacityRecord.commissioned⟩, hEff := 900 } }
    projectionUrgent .b .a { s with settings := {} } = true
    ∧ after (exec (.defaultsRestore 5 true) s) (fun t => (t.cap.hEff, (t.tank .b).service, (t.tank .b).urgent))
      = some (300, .exhausted, .none) := by decide +kernel

/-- R168: with this polynomial and this initial value the bytes "123456789" have the published check value 0x29B1. -/
theorem test_crc : crc16 [0x31, 0x32, 0x33, 0x34, 0x35, 0x36, 0x37, 0x38, 0x39] = 0x29B1#16 := by decide +kernel

/-! ### The hypotheses of the statements can be met

One theorem for each statement that has hypotheses; its conjuncts are the statement's clauses in their order, with values where a
range ends. -/

theorem witness_StepRunsTheFrontOfTheQueue : State.reset.pending = [] := rfl

theorem witness_StoppedUntilMainsReturns : off.stopped = true := rfl

theorem witness_WhatFollowsAnEvent : (∀ k, (rest.tank k).service ≠ .exhausted ∧ (rest.tank k).service ≠ .regenerating
    ∧ (rest.tank k).phase ≠ some .inStep ∧ (rest.tank k).suspended = false) ∧ rest.filter.due = {} := by
  refine ⟨fun k => ?_, rfl⟩
  cases k <;> decide

theorem witness_RestartsKeepWhatIsRetained :
    let s : State := { rest with before := some { rest.kept with openDay := 5 } }
    let x : RestartInputs := { mains := true, battery := 12000, openEnd := true, closedEnd := false, svc := false, lost := true }
    let hour (r : Bool) (n : Nat) : State := { rest with
      clock := { day := 0, second := n }, meter := { hour := { recordable := r } } }
    (s.stopped = false ∧ (s.found x.lost).meter.openDay = 5 ∧ rest.before = none)
    ∧ ((hour true 3599).clock.day = (hour true 3599).meter.hour.day ∧ 3599 / 3600 = (hour true 3599).meter.hour.hour)
    ∧ ((hour true 3600).clock.second / 3600 ≠ (hour true 3600).meter.hour.hour ∧ (hour true 3600).meter.hour.recordable = true
      ∧ (hour true 3600).meter.history.ring = [] ∧ (hour false 3600).meter.hour.recordable = false) := by decide +kernel

/-- Of the clause of R190: a command that changes a retained item, and one that changes none. -/
theorem witness_RestartsKeepWhatIsRetained_groups :
    (∃ t, exec (.set 5 44 60 false) rest = .next t ∧ t.kept ≠ rest.kept)
    ∧ ∃ t, exec .frameStart rest = .next t ∧ t.kept = rest.kept :=
  ⟨⟨_, rfl, by decide +kernel⟩, ⟨_, rfl, by decide +kernel⟩⟩

/-- Of every statement that asks only that the part runs. -/
theorem witness_running : rest.stopped = false := rfl

/-- Of every statement that asks only that a request is handled at once. -/
theorem witness_free : rest.free := ⟨rfl, rfl⟩

theorem witness_SecondConvertsAndAttributes :
    let split : State := { rest with seq := { changeover := some { outgoing := .a, phase := .toHold } } }
    let on (n : Int) (b : Service) : State := { serving { service := b } with
      cap := { recs := ⟨{ credited := 1000, remaining := n }, CapacityRecord.commissioned⟩ }
      clock := { second := 8 } }
    (split.stopped = false ∧ ∃ c, split.seq.changeover = some c ∧ c.phase ≠ .toChange)
    ∧ ((on 21 .exhausted).stopped = false ∧ ((on 21 .exhausted).tank .a).service = .inService
      ∧ ((on 21 .exhausted).tank .b).service ≠ .inService ∧ (on 21 .exhausted).seq.changeover = none
      ∧ (on 21 .exhausted).clock.advance.second % 10 ≠ 0 ∧ ((on 21 .exhausted).tank .b).service ≠ .regenerating)
    ∧ ((on 20 .exhausted).record .a).remaining ≤ (1000 * (on 20 .exhausted).settings.user.soft.margin / 1000 : Nat)
    ∧ (((on 20 .ready).tank .b).service = .ready ∧ (on 20 .ready).discFree = true ∧ (on 20 .ready).supply.state = .mains
      ∧ (on 20 .ready).disc.position ≠ some (changePosition .a) ∧ (on 20 .ready).seq.due = none
      ∧ ((on 20 .ready).record .a).exhaustionRaised = false)
    ∧ ((rest.tank .a).service ≠ .inService ∧ (rest.tank .b).service ≠ .inService ∧ rest.seq.changeover = none) := by
  refine ⟨⟨rfl, _, rfl, by decide⟩, ?_⟩
  decide +kernel

theorem witness_MeteringConditionsBeginAndEnd :
    let s (c : Conditions) : State := { rest with meter := { cond := c } }
    let a := s { lossCount := 60 }
    let b := s { lossActive := true, clearCount := 10 }
    let c := s { unownedCount := 60 }
    let d := s { unownedActive := true, quietCount := 60 }
    (a.stopped = false ∧ a.meter.cond.lossActive = false ∧ 60 ≤ a.meter.cond.lossCount)
    ∧ (b.stopped = false ∧ b.meter.cond.lossActive = true ∧ 10 ≤ b.meter.cond.clearCount)
    ∧ (c.stopped = false ∧ c.meter.cond.unownedActive = false ∧ 60 ≤ c.meter.cond.unownedCount)
    ∧ (d.stopped = false ∧ d.meter.cond.unownedActive = true ∧ 60 ≤ d.meter.cond.quietCount) := by decide +kernel

theorem witness_MeteringConditionsBeginAndEnd_passing :
    let s (v : ValveState) (n : Nat) (a : Bool) : State := { rest with
      valve := { state := v }, meter := { cond := { passing := List.replicate 60 n, passingActive := a }, now := { vIn := n } } }
    ((s .closed 9 false).stopped = false ∧ (s .closed 9 false).valve.state = .closed
      ∧ (s .closed 9 false).meter.cond.passingActive = false ∧ 500 < (List.replicate 60 9).sum ∧ (List.replicate 60 8).sum ≤ 500)
    ∧ ((s .opened 9 true).valve.state ≠ .closed ∧ (s .opened 9 true).meter.cond.passingActive = true) := by decide +kernel

/-- The pressure drop and the counts of R9 after a second. -/
def lossAfter (d : Int) (i : Nat) (c : Conditions) : Option (Int × Bool × Nat × Nat) :=
  after (exec (.meteringSecond { calm with p1 := 380 + d, pulsesIn := i }) { rest with meter := { cond := c } }) fun t =>
    ((t.filter.p1.reading : Int) - t.filter.p3.reading, t.meter.cond.lossActive, t.meter.cond.lossCount, t.meter.cond.clearCount)

/-- The process volume and the counts of R10 after a second. -/
def ownedAfter (p : Nat) (c : Conditions) : Option (Nat × Bool × Nat × Nat) :=
  after (exec (.meteringSecond { calm with pulsesProc := p }) { rest with meter := { cond := c } }) fun t =>
    (t.meter.now.vProc, t.meter.cond.unownedActive, t.meter.cond.unownedCount, t.meter.cond.quietCount)

/-- Of the loss and the clear count: a drop of 40 kPa and one of 39, a second with inlet water and one without, one short of each end. -/
theorem witness_MeteringConditionsBeginAndEnd_loss :
    let on (n : Nat) : Conditions := { lossActive := true, clearCount := n }
    rest.stopped = false ∧ rest.valve.state = .opened
    ∧ [lossAfter 40 0 { lossCount := 58 }, lossAfter 39 0 { lossCount := 58 }, lossAfter 40 0 { lossCount := 59 }]
      = [some (40, false, 59, 0), some (39, false, 0, 0), some (40, true, 60, 0)]
    ∧ [lossAfter 40 0 (on 8), lossAfter 0 1 (on 8), lossAfter 0 1 (on 9)]
      = [some (40, true, 0, 0), some (0, true, 0, 9), some (0, false, 0, 0)] := by decide +kernel

/-- Of the unowned and the quiet count: a second with process water and one without, one short of each end. -/
theorem witness_MeteringConditionsBeginAndEnd_unowned :
    let on (n : Nat) : Conditions := { unownedActive := true, unownedCount := 60, quietCount := n }
    rest.stopped = false ∧ rest.line.owner = .none
    ∧ [ownedAfter 0 { unownedCount := 58 }, ownedAfter 3 { unownedCount := 58 }, ownedAfter 3 { unownedCount := 59 }]
      = [some (0, false, 0, 0), some (10, false, 59, 0), some (10, true, 60, 0)]
    ∧ [ownedAfter 3 (on 8), ownedAfter 0 (on 58), ownedAfter 0 (on 59)]
      = [some (10, true, 60, 0), some (0, true, 0, 59), some (0, false, 0, 0)] := by decide +kernel

theorem witness_MidnightAndHourClose :
    let s (r : Bool) : State := { rest with
      clock := { midnightDue := true, hourDue := true }, meter := { hour := { recordable := r } } }
    (s true).stopped = false ∧ (s true).clock.midnightDue = true ∧ (s true).clock.hourDue = true
    ∧ (s false).stopped = false ∧ (s false).clock.hourDue = true ∧ (s false).meter.hour.recordable = false
    ∧ (s true).meter.hour.recordable = true ∧ (s true).meter.history.ring = []
    ∧ (s true).settings.user.soft.maxServiceDays = 0 := by decide +kernel

/-- Of the reminders: on the day, a day early, ahead of the counter, and by a forecast of 14 days. -/
theorem witness_MidnightAndHourClose_reminders :
    let s (n last ahead : Nat) (x : SaltState) (log : List SaltEntry) : State := { rest with
      clock := { day := n, midnightDue := true }, brine := { salt := x, lastReminder := last, inventory := 14000, log := log }
      settings := { user := { salt := { forecastDays := ahead } } } }
    let log : List SaltEntry := [⟨5000, 0⟩, ⟨5000, 86400⟩]
    ((s 9 2 14 .low []).stopped = false ∧ (s 9 2 14 .low []).clock.midnightDue = true ∧ (s 9 2 14 .low []).brine.salt ≠ .ok
      ∧ (s 9 2 14 .low []).settings.user.salt.reminderDays = 7 ∧ 2 + 7 ≤ (s 9 2 14 .low []).clock.day ∧ ¬ 2 + 7 ≤ 8)
    ∧ (s 1 2 14 .out []).clock.day < (s 1 2 14 .out []).brine.lastReminder ∧ (s 9 2 14 .ok []).brine.salt = .ok
    ∧ (forecast (s 10 9 14 .low log) = some 14 ∧ (s 10 9 14 .low log).settings.user.salt.forecastDays = 14
      ∧ (s 10 9 14 .low log).brine.forecastArmed = true)
    ∧ (forecast (s 10 9 13 .low log) = some 14 ∧ 13 < 14) ∧ (s 10 9 0 .low log).settings.user.salt.forecastDays = 0
    ∧ (s 9 2 14 .low []).notices.queue.length < 16 := by decide +kernel

/-- Of the placing of an hour: the newest record covers hours 1 and 2, so that hour 3 is expected. -/
theorem witness_MidnightAndHourClose_places :
    let r : HistoryRecord := { day := 0, hour := 1, litres := 2, flags := {}, repeats := 2 }
    let s (h v n : Nat) : State := { rest with
      clock := { hourDue := true }
      meter := { hour := { hour := h, volume := v, recordable := true }, history := { ring := List.replicate n r } } }
    ((s 2 2000 1).stopped = false ∧ (s 2 2000 1).meter.history.ring = [] ++ [r] ∧ 0 * 24 + 2 < 0 * 24 + 1 + 2)
    ∧ ((s 3 2999 1).meter.hour.hour = 3 ∧ 0 * 24 + 3 = 0 * 24 + 1 + 2 ∧ min 65535 (2999 / 1000) = r.litres ∧ r.repeats < 255
      ∧ (s 3 2999 1).meter.history.cursor < (s 3 2999 1).meter.history.ring.length ∧ r.inFlight = false)
    ∧ min 65535 (3000 / 1000) ≠ r.litres ∧ (s 4 2000 511).meter.history.ring.length < 512
    ∧ (512 ≤ (s 4 2000 512).meter.history.ring.length
      ∧ (s 4 2000 512).meter.history.ring = r :: List.replicate 511 r) := by decide +kernel

/-- An hour close with `n` unread records, HISTORY_PENDING armed or not. -/
def unreadRecords (n : Nat) (armed : Bool) : State :=
  let r : HistoryRecord := { day := 0, hour := 1, litres := 2, flags := {}, repeats := 2 }
  { rest with
    clock := { hourDue := true }
    meter := { hour := { hour := 4, recordable := true }, history := { ring := List.replicate n r, armed := armed } } }

/-- Of HISTORY_PENDING: 63 unread records become 64 with the notice armed, or not, and 62 become 63. -/
theorem witness_MidnightAndHourClose_pending :
    ((unreadRecords 63 true).stopped = false ∧ (unreadRecords 63 true).clock.hourDue = true
      ∧ (unreadRecords 63 true).notices.queue.length < 16 ∧ (unreadRecords 63 true).settings.user.soft.maxServiceDays = 0)
    ∧ after (exec .hourClose (unreadRecords 63 true)) (fun t => (t.meter.history.ring.length, t.meter.history.armed))
      = some (64, false)
    ∧ after (exec .hourClose (unreadRecords 62 true)) (fun t => (t.meter.history.ring.length, t.meter.history.armed))
      = some (63, true) := by decide +kernel

/-- R18: the rise from 63 to 64 posts HISTORY_PENDING with 64 once; disarmed it posts nothing. -/
theorem test_history_pending :
    after (exec .hourClose (unreadRecords 63 true)) (fun t => (t.notices.queue.drop 2).map fun n => (n.kind, n.v1))
      = some [(.historyPending, 64)]
    ∧ after (exec .hourClose (unreadRecords 63 false)) (fun t => t.notices.queue.drop 2) = some [] := by decide +kernel

/-- Of the second's own clauses: one within an hour, and one that brings a whole hour and closes a recordable one. -/
theorem witness_MidnightAndHourClose_second :
    let s (n : Nat) : State := { rest with clock := { second := n }, meter := { hour := { recordable := true } } }
    (s 3598).stopped = false ∧ (s 3598).clock.advance.second % 3600 ≠ 0
    ∧ (s 3599).clock.advance.second % 3600 = 0 ∧ (s 3599).meter.hour.recordable = true
    ∧ (s 3599).meter.history.ring = [] := by decide +kernel

theorem witness_FrontTeachesTheFactor :
    let s : State := { rest with cap := { rest.cap with runs := ⟨31, 0⟩ } }
    s.stopped = false ∧ 31 ≤ s.cap.runs.get .a ∧ s.settings.inst.probeDepth ≠ 0 ∧ (s.record .a).credited ≠ 0 := by
  decide +kernel

/-- Of the five rows of the learning mode: errors of 30 and 31, of 80 and 81. -/
theorem witness_FrontTeachesTheFactor_modes :
    let s (m : LearnMode) (n c : Nat) : State := { serving {} with cap := { rest.cap with
      recs := ⟨{ CapacityRecord.commissioned with mode := m, smallErrors := n, consumed := c }, CapacityRecord.commissioned⟩
      runs := ⟨31, 0⟩ } }
    let e (c : Nat) : Int := ((1000 * (c * 1000 / 750) / 1250000 : Nat) : Int) - 1000
    ((s .acquisition 0 909375).stopped = false ∧ ((s .acquisition 0 909375).record .a).mode = .acquisition
      ∧ (e 909375).natAbs ≤ 30 ∧ ((s .acquisition 0 909375).record .a).smallErrors = 0)
    ∧ ((s .acquisition 1 909375).record .a).smallErrors = 1 ∧ 30 < (e 908438).natAbs
    ∧ (((s .tracking 0 862500).record .a).mode = .tracking ∧ (e 862500).natAbs ≤ 80 ∧ 80 < (e 861563).natAbs) := by
  decide +kernel

/-- Of the samples: the first and the thirty-first, the band and the range of the fault. -/
theorem witness_FrontTeachesTheFactor_samples :
    let s (n : Nat) (f : Bool) : State := { serving {} with
      clock := { second := 9 }, cap := { rest.cap with runs := ⟨n, 0⟩, probeFault := ⟨f, false⟩ } }
    ((s 29 false).stopped = false ∧ (s 29 false).clock.advance.second % 10 = 0 ∧ (s 29 false).settings.inst.probeDepth ≠ 0
      ∧ ((s 29 false).tank .a).service = .inService ∧ (s 29 false).seq.changeover = none ∧ (s 29 false).cap.runs.get .a < 30)
    ∧ (s 30 false).cap.runs.get .a = 30 ∧ (s 0 true).cap.probeFault.get .a = true ∧ (s 0 false).cap.probeFault.get .a = false
    ∧ ((199 : Int) < 200 ∧ (1800 : Int) < 1801 ∧ (939 : Int) < 940 ∧ (1060 : Int) < 1061)
    ∧ (((s 29 false).record .a).frontSeen = false ∧ ((s 29 false).record .a).credited ≠ 0) := by decide +kernel

theorem witness_DoseCurve :
    ((80, 40000, 50000) : Nat × Nat × Nat) ∈ ([(80, 40000, 50000), (120, 50000, 57000), (160, 57000, 63000), (200, 63000, 68000)] :
      List (Nat × Nat × Nat)) ∧ 80 ≤ 80 ∧ 119 < 80 + 40 := by decide +kernel

theorem witness_CodeInPlace :
    let away (r t : Pos) : State := { rest with disc := moving r t .sequencer }
    let still : State := { rest with disc := { state := .atPosition } }
    let step : State := { rest with
      disc := { moving 0 1 (.discStep 3) with mode := .manual }
      settings := { user := { soft := { discMode := .manual } } } }
    (still.stopped = false ∧ still.disc.inPlace = false ∧ still.disc.state ≠ .observing ∧ still.disc.driven = false)
    ∧ ((away 5 8).stopped = false ∧ (away 5 8).disc.inPlace = false ∧ (away 5 8).disc.state ≠ .observing
      ∧ (away 5 8).disc.driven = true ∧ codePosition 8 = none)
    ∧ (codePosition 0 = some 0 ∧ (away 13 2).disc.target = some (.pos 2) ∧ (away 13 2).disc.position = some 13
      ∧ (0 : Pos) = 13 + 1 ∧ (0 : Pos) ≠ 2 ∧ (0 : Pos) ≠ 2 + 1)
    ∧ (codePosition 3 = some 2 ∧ (away 0 1).disc.target = some (.pos 1) ∧ (away 0 1).disc.position = some 0 ∧ (2 : Pos) = 1 + 1)
    ∧ (codePosition 2 = some 3 ∧ (away 5 8).disc.target = some (.pos 8) ∧ (away 5 8).disc.position = some 5
      ∧ (3 : Pos) ≠ 5 + 1 ∧ (3 : Pos) ≠ 8 + 1)
    ∧ (step.stopped = false ∧ step.disc.inPlace = false ∧ step.disc.driven = true ∧ codePosition 1 = some 1
      ∧ step.disc.target = some (.pos 1) ∧ step.disc.position = some 0 ∧ (1 : Pos) = 0 + 1
      ∧ step.disc.requester = some (.discStep 3) ∧ step.disc.retryTag = none ∧ step.disc.retriedFault = none
      ∧ step.disc.mode = .manual ∧ step.settings.user.soft.discMode = .manual) := by decide +kernel

theorem witness_CodeInPlace_unknown :
    let s (q : Requester) (t : DiscTarget) : State := { serving {} with
      disc := { state := .creeping, target := some t, requester := some q, mode := .manual }
      settings := { user := { soft := { discMode := .manual } } } }
    let a := s .restart .next
    let b := s (.discStep 3) (.pos 2)
    (a.stopped = false ∧ a.disc.inPlace = false ∧ a.disc.state ≠ .observing ∧ a.disc.driven = true ∧ a.disc.target = some .next
      ∧ a.disc.retryTag = none ∧ a.disc.retriedFault = none ∧ a.disc.mode = .manual
      ∧ a.settings.user.soft.discMode = .manual ∧ a.disc.requester = some .restart ∧ (a.tank .a).service = .inService)
    ∧ (b.disc.target = some (.pos 2) ∧ b.disc.position = none ∧ b.disc.requester = some (.discStep 3) ∧ codePosition 3 = some 2
      ∧ codePosition 1 = some 1 ∧ (1 : Pos) ≠ 2) := by decide +kernel

theorem witness_RestartObservationEnds :
    let manual : State := { State.reset with
      disc := { mode := .manual }, settings := { user := { soft := { discMode := .manual } } }
      seq := { tanks := ⟨{ service := .inService }, {}⟩ } }
    (State.reset.stopped = false ∧ State.reset.disc.state = .observing ∧ codePosition 9 = none)
    ∧ (manual.stopped = false ∧ manual.disc.state = .observing ∧ codePosition 1 = some 1 ∧ manual.disc.mode = .manual
      ∧ manual.settings.user.soft.discMode = .manual ∧ (manual.tank .a).service = .inService)
    ∧ (codePosition 13 = some 9 ∧ servicePosition 9 = some .a ∧ State.reset.disc.mode = .auto
      ∧ State.reset.settings.user.soft.discMode = .auto ∧ State.reset.seq.changeover = none
      ∧ (State.reset.tank .a).service = .ready ∧ (State.reset.tank .b).service = .ready) := by decide +kernel

theorem witness_RestartObservationEnds_recovery :
    let s (c : Option Changeover) (b : TankRecord) : State := { State.reset with
      seq := { tanks := ⟨{ service := .inService }, b⟩, changeover := c } }
    let a := s none {}
    let back := s none { service := .regenerating, step := some .rinse, phase := some .toReady }
    let wash := s none { service := .regenerating, step := some .brine, phase := some .inStep }
    let go (ph : ChangePhase) := s (some { outgoing := .a, phase := ph }) {}
    (a.stopped = false ∧ a.disc.state = .observing ∧ codePosition 1 = some 1 ∧ a.disc.mode = .auto
      ∧ a.settings.user.soft.discMode = .auto ∧ (a.tank .a).service = .inService ∧ (a.tank .b).service ≠ .regenerating
      ∧ (a.tank .b).service ≠ .inService ∧ servicePosition 9 = some .a ∧ servicePosition (1 + Fin.ofNat 14 8) = some .a
      ∧ ∀ m, m < 8 → servicePosition (1 + Fin.ofNat 14 m) ≠ some .a)
    ∧ ((go .toChange).seq.changeover = some { outgoing := .a, phase := .toChange } ∧ (2 : Pos) ≠ changePosition .a
      ∧ (1 : Pos) ≠ holdPosition .a ∧ (1 : Pos) = changePosition .a)
    ∧ ((back.tank .b).service = .regenerating ∧ (back.tank .b).phase = some .toReady ∧ (12 : Pos) ≠ readyPosition .b)
    ∧ (positionStep .b 11 = some .brine ∧ (wash.tank .b).step = some .brine ∧ (wash.tank .b).phase ≠ some .toStep
      ∧ (wash.tank .b).phase ≠ some .toReady)
    ∧ ((∀ m, m < 9 → positionStep .b (1 + Fin.ofNat 14 m) = none) ∧ positionStep .b (1 + Fin.ofNat 14 9) ≠ none) := by
  decide +kernel

theorem witness_DiscLosesItsPlace :
    let away : State := { rest with disc := { moving 5 8 .sequencer with inPlace := true } }
    let dark : State := { rest with disc := { state := .atPosition } }
    (dark.stopped = false ∧ dark.disc.inPlace = false ∧ dark.disc.driven = false)
    ∧ (away.stopped = false ∧ away.disc.inPlace = true ∧ away.disc.state ≠ .atPosition ∧ away.disc.driven = true)
    ∧ (rest.stopped = false ∧ rest.disc.inPlace = true ∧ rest.disc.state = .atPosition) := by decide +kernel

theorem witness_DiscRequests :
    let broken (p : SupplyState) : State := { rest with
      disc := { state := .fault, position := some 2, target := some (.pos 1), requester := some (.discStep 41),
                fault := some (.discMissed, 1), mode := .manual }
      supply := { state := p } }
    (State.reset.disc.state = .observing ∧ State.reset.free) ∧ (rest.disc.state ≠ .observing ∧ rest.disc.state ≠ .fault)
    ∧ ((broken .battery).disc.state = .fault ∧ (broken .battery).supply.state ≠ .mains)
    ∧ ((broken .mains).disc.state = .fault ∧ (broken .mains).supply.state = .mains
      ∧ (broken .mains).disc.requester ≠ some .sequencer ∧ (broken .mains).disc.position = some 2
      ∧ (broken .mains).disc.target = some (.pos 1) ∧ (2 : Pos) ≠ 1) :=
  ⟨⟨rfl, rfl, rfl⟩, by decide +kernel⟩

/-- Of a retry: the sequencer's own move, a target of NEXT, and a move held at its target. -/
theorem witness_DiscRequests_retries :
    let s (p : Option Pos) (t : DiscTarget) (q : Requester) (m : DiscMode) : State := { rest with
      disc := { state := .fault, position := p, inPlace := p.isSome, target := some t, requester := some q,
                fault := some (.discTimeout, 3), mode := m }
      seq := { tanks := ⟨{ service := .faulted, step := some .brine, phase := some .toStep }, { service := .inService }⟩ }
      settings := { user := { soft := { discMode := m } } } }
    ((s (some 3) (.pos 4) .sequencer .auto).free ∧ (s (some 3) (.pos 4) .sequencer .auto).disc.state = .fault
      ∧ (s (some 3) (.pos 4) .sequencer .auto).supply.state = .mains
      ∧ (s (some 3) (.pos 4) .sequencer .auto).disc.requester = some .sequencer
      ∧ ((s (some 3) (.pos 4) .sequencer .auto).tank .a).service = .faulted ∧ (some 3 : Option Pos) ≠ some 4)
    ∧ (s none .next .restart .manual).disc.target = some .next
    ∧ ((s (some 4) (.pos 4) (.discStep 7) .manual).disc.position = some 4
      ∧ (s (some 4) (.pos 4) (.discStep 7) .manual).disc.requester = some (.discStep 7)
      ∧ (s (some 4) (.pos 4) (.discStep 7) .manual).disc.fault = some (.discTimeout, 3)
      ∧ (s (some 4) (.pos 4) (.discStep 7) .manual).settings.user.soft.discMode = .manual) :=
  ⟨⟨⟨rfl, rfl⟩, by decide +kernel⟩, by decide +kernel⟩

theorem witness_ChangeoverBeginsAndDwells :
    let dwell (n : Nat) (d : Disc) : State := { rest with
      seq := { changeover := some { outgoing := .a, phase := .dwell, dwell := n } }, disc := d }
    let due (p : Pos) : State := { serving {} with
      seq := { (serving {}).seq with due := some .a }, disc := { state := .atPosition, position := some p } }
    (dwell 29 rest.disc).stopped = false ∧ 29 < (dwell 29 rest.disc).settings.inst.overlap
    ∧ ((dwell 30 (moving 1 2 .sequencer)).settings.inst.overlap ≤ 30 ∧ (dwell 30 (moving 1 2 .sequencer)).supply.state = .mains
      ∧ (dwell 30 (moving 1 2 .sequencer)).discFree = false)
    ∧ ((dwell 30 rest.disc).discFree = true ∧ (dwell 30 rest.disc).disc.position ≠ some (holdPosition .a))
    ∧ ((due 0).stopped = false ∧ (due 0).seq.due = some .a ∧ ((due 0).tank .b).service = .ready ∧ (due 0).discFree = true
      ∧ (due 0).supply.state = .mains ∧ (due 0).seq.changeover = none ∧ (due 0).disc.position ≠ some (changePosition .a))
    ∧ ((due 1).discFree = true ∧ (due 1).disc.position = some (changePosition .a))
    ∧ ((serving { service := .disabled }).tank .b).service ≠ .ready := by decide +kernel

/-- Of the two arrivals of a changeover. -/
theorem witness_ChangeoverBeginsAndDwells_arrivals :
    let s (ph : ChangePhase) (p : Pos) : State := { serving {} with
      seq := { (serving {}).seq with changeover := some { outgoing := .a, phase := ph } }, disc := moving (p - 1) p .sequencer }
    Arriving 1 (changePosition .a) (s .toChange 1) ∧ Arriving 3 (holdPosition .a) (s .toHold 2)
    ∧ (s .toChange 1).stopped = false :=
  ⟨⟨by decide, rfl, rfl, rfl, rfl, rfl, ⟨rfl, rfl⟩, rfl, rfl⟩, ⟨by decide, rfl, rfl, rfl, rfl, rfl, ⟨rfl, rfl⟩, rfl, rfl⟩, rfl⟩

/-- Of a second of the dwell: on battery, one short of the overlap, and at it with the disc not free or still to move. -/
theorem witness_ChangeoverBeginsAndDwells_second :
    let c (n : Nat) : Changeover := { outgoing := .a, phase := .dwell, dwell := n }
    let s (n : Nat) (p : SupplyState) (d : Disc) : State := { rest with
      seq := { changeover := some (c n) }, supply := { state := p }, disc := d }
    ((s 29 .battery rest.disc).stopped = false ∧ (s 29 .battery rest.disc).seq.changeover = some (c 29)
      ∧ (s 29 .battery rest.disc).supply.state ≠ .mains)
    ∧ ((s 28 .mains rest.disc).supply.state = .mains ∧ 28 + 1 < (s 28 .mains rest.disc).settings.inst.overlap)
    ∧ ((s 29 .mains (moving 0 1 .restart)).settings.inst.overlap ≤ 29 + 1 ∧ (s 29 .mains (moving 0 1 .restart)).discFree = false)
    ∧ (s 29 .mains rest.disc).disc.position ≠ some (holdPosition .a) := by decide +kernel

theorem witness_CalendarRaisesExhaustion :
    let s (t : State) : State := { t with meter := { cond := { lossActive := true } }, seq := { t.seq with calendar := 3 } }
    let none' := s rest
    let some' := s (serving { service := .exhausted })
    (none'.stopped = false ∧ none'.meter.cond.lossActive = true
      ∧ none'.settings.user.soft.calendarDays ≤ none'.seq.calendar ∧ none'.serviceTank = none)
    ∧ (some'.stopped = false ∧ some'.meter.cond.lossActive = true
      ∧ some'.settings.user.soft.calendarDays ≤ some'.seq.calendar ∧ some'.serviceTank = some .a ∧ some'.seq.changeover = none
      ∧ some'.seq.due = none ∧ (some'.tank .b).service ≠ .ready) := by decide +kernel

/-- Of the hour close: 25 hours against a maximum of one day, and a projection in WINDOW timing. -/
theorem witness_CalendarRaisesExhaustion_hour :
    let s (n days : Nat) (b : Service) : State := { rest with
      clock := { hourDue := true }, seq := { tanks := ⟨{ service := .inService, hours := n }, { service := b }⟩ }
      settings := { user := { soft := { maxServiceDays := days } } } }
    ((s 24 1 .exhausted).stopped = false ∧ (s 24 1 .exhausted).clock.hourDue = true ∧ (s 24 1 .exhausted).serviceTank = some .a
      ∧ (s 24 1 .exhausted).seq.changeover = none ∧ 1 * 24 < min 65535 (24 + 1) ∧ ¬ 1 * 24 < min 65535 (23 + 1)
      ∧ (s 24 1 .exhausted).seq.due = none ∧ ((s 24 1 .exhausted).tank .b).service = .exhausted)
    ∧ (((s 24 1 .ready).tank .b).service = .ready ∧ (s 24 1 .ready).discFree = true ∧ (s 24 1 .ready).supply.state = .mains
      ∧ (s 24 1 .ready).disc.position ≠ some (changePosition .a))
    ∧ ((s 24 0 .exhausted).settings.user.soft.maxServiceDays = 0 ∧ (s 24 0 .exhausted).seq.timing = .window
      ∧ ((s 24 0 .exhausted).tank .b).urgent ≠ .forced) := by decide +kernel

/-- Of the other tank READY: the disc away from its position, at it, and the supply not on MAINS. -/
theorem witness_CalendarRaisesExhaustion_ready :
    let s (p : SupplyState) (d : Pos) : State := { serving {} with
      meter := { cond := { lossActive := true } }, seq := { (serving {}).seq with calendar := 3 }, supply := { state := p }
      disc := { state := .atPosition, position := some d, inPlace := true } }
    ((s .mains 0).stopped = false ∧ (s .mains 0).meter.cond.lossActive = true
      ∧ (s .mains 0).settings.user.soft.calendarDays ≤ (s .mains 0).seq.calendar ∧ (s .mains 0).serviceTank = some .a
      ∧ (s .mains 0).seq.changeover = none ∧ (s .mains 0).seq.due = none ∧ ((s .mains 0).tank .b).service = .ready)
    ∧ (s .battery 0).supply.state ≠ .mains
    ∧ ((s .mains 0).discFree = true ∧ (s .mains 0).supply.state = .mains ∧ (s .mains 0).disc.position ≠ some (changePosition .a))
    ∧ (s .mains (changePosition .a)).disc.position = some (changePosition .a) := by decide +kernel

/-- Of the calendar count of a second: the window hour and the second before it, the last day but one and the last, and the end of
METER_LOSS. -/
theorem witness_CalendarRaisesExhaustion_count :
    let s (n days : Nat) (c : Conditions) : State := { serving { service := .exhausted } with
      clock := { second := n }, meter := { cond := c }, seq := { (serving { service := .exhausted }).seq with calendar := days } }
    let count (n days i : Nat) (c : Conditions) := after (exec (.meteringSecond { calm with pulsesIn := i }) (s n days c)) fun t =>
      (t.meter.cond.lossActive, t.seq.calendar, t.seq.due)
    ((s 7199 2 {}).stopped = false ∧ (s 7199 2 {}).settings.user.soft.calendarDays = 3
      ∧ (s 7199 2 {}).clock.advance.second = (s 7199 2 {}).settings.user.soft.windowHour * 3600
      ∧ (s 7199 2 {}).serviceTank = some .a ∧ ((s 7199 2 {}).tank .b).service = .exhausted)
    ∧ count 7198 2 0 { lossActive := true } = some (true, 2, none) ∧ count 7199 1 0 { lossActive := true } = some (true, 2, none)
    ∧ count 7199 2 0 { lossActive := true } = some (true, 0, some .a) ∧ count 7199 2 0 {} = some (false, 2, none)
    ∧ count 7199 2 1 { lossActive := true, clearCount := 9 } = some (false, 0, none) := by decide +kernel

theorem witness_RegenerationClaimed :
    let s (p : SupplyState) (v : ValveState) (l : Line) : State := { rest with
      seq := { tanks := ⟨{ service := .exhausted }, { service := .inService }⟩, timing := .immediate }
      supply := { state := p }, valve := { state := v }, line := l }
    let a := s .mains .opened {}
    let b := s .mains .opened { test := some ⟨true⟩ }
    let c := s .battery .opened {}
    let d := s .mains .closed {}
    (a.stopped = false ∧ (a.tank .a).service = .exhausted ∧ (a.tank .b).service ≠ .exhausted ∧ a.seq.changeover = none
      ∧ a.disc.state = .atPosition ∧ (a.tank .a).claim = .none ∧ a.line.regen = none ∧ a.supply.state = .mains
      ∧ a.valve.state = .opened ∧ a.disc.mode = .auto ∧ (a.tank .a).halt = false ∧ windowMet .a a = true ∧ a.line = {}
      ∧ a.disc.position ≠ some (stepPosition .a .backwash))
    ∧ (b.line.regen = none ∧ b.line.owner ≠ .none ∧ windowMet .a b = true)
    ∧ (c.stopped = false ∧ c.supply.state ≠ .mains ∧ c.valve.state = .opened ∧ windowMet .a c = true
      ∧ (c.tank .a).deferral.onBattery = false)
    ∧ (d.supply.state = .mains ∧ d.valve.state ≠ .opened ∧ windowMet .a d = true
      ∧ (d.tank .a).deferral.shutoffClosed = false) := by decide +kernel

/-- Of a flush that waits at the return of mains, and at the arrival at OPEN. -/
theorem witness_RegenerationClaimed_behind :
    let s (p : SupplyState) (v : Valve) (o : Bool) : State := { rest with
      seq := { tanks := ⟨{ service := .exhausted }, { service := .inService }⟩, timing := .immediate }
      supply := { state := p }, valve := v, pins := { openEnd := o }, line := { flush := some ⟨false, false⟩ } }
    let a := s .battery {} true
    let b := s .mains { state := .opening, drive := .toOpen } false
    (a.stopped = false ∧ (a.tank .a).service = .exhausted ∧ (a.tank .b).service ≠ .exhausted ∧ a.seq.changeover = none
      ∧ a.discFree = true ∧ (a.tank .a).halt = false ∧ windowMet .a a = true ∧ (a.tank .a).claim = .none
      ∧ a.line = { flush := some { granted := false, high := false } } ∧ a.valve.exercise ≠ .closeRun
      ∧ a.supply.state ≠ .mains ∧ a.valve.state = .opened ∧ a.valve.reasons = {})
    ∧ (b.stopped = false ∧ b.supply.state = .mains ∧ b.valve.state = .opening ∧ b.valve.drive = .toOpen
      ∧ b.pins.openEnd = false ∧ b.pins.closedEnd = false ∧ windowMet .a b = true) := by decide +kernel

/-- Of the order of grants, each clause on a free line. -/
theorem witness_RegenerationClaimed_grants :
    let s (l : Line) : State := { rest with line := l, leak := { test := { phase := .claiming } } }
    let again : RegenEntry := ⟨false, .a, true⟩
    let new : RegenEntry := ⟨false, .a, false⟩
    ((s { regen := some again, flush := some ⟨false, true⟩ }).line.owner = .none ∧ again.continuation = true)
    ∧ ((s { regen := some new, flush := some ⟨false, true⟩ }).line.owner = .none ∧ new.continuation = false)
    ∧ ((s { regen := some new, test := some ⟨false⟩ }).line.owner = .none ∧ rest.supply.state = .mains ∧ rest.valve.state = .opened)
    ∧ ((s { flush := some ⟨false, false⟩, test := some ⟨false⟩ }).line.regen = none
      ∧ (s { flush := some ⟨false, false⟩, test := some ⟨false⟩ }).leak.test.phase = .claiming)
    ∧ (s { flush := some ⟨false, false⟩ }).line.test = none ∧ (s { test := some ⟨true⟩ }).line.owner ≠ .none := by decide +kernel

theorem witness_StepsEnd :
    let s (k : Step) (n : Nat) (h : Bool) (g : Option Byte) (b : Brine) : State :=
      { regenerating { inStep k n with halt := h, haltTag := g } (stepPosition .a k) with brine := b }
    let early := s .backwash 599 false none {}
    let washed := s .backwash 600 true (some 7) {}
    let filled (v n : Nat) := s .refill n false none { refill := some { tank := .a, volume := v } }
    let m : BrineMeasure := { tank := .a, start := 66, lowest := 14, planned := 8334, area := 1600, saturation := 1000 }
    let brined := s .brine 3600 false none { measure := some m }
    (early.stopped = false ∧ stepRuns .a early = true ∧ (early.tank .b).service ≠ .regenerating ∧ stepOver .a early = false
      ∧ early.disc.position = some (stepPosition .a .backwash))
    ∧ (stepRuns .a washed = true ∧ (washed.tank .a).step = some .backwash ∧ (washed.tank .a).recipe.backwash ≤ 600
      ∧ (washed.tank .a).halt = true ∧ (washed.tank .a).haltTag = some 7)
    ∧ (stepRuns .a (s .rinse 300 true none {}) = true ∧ ((s .rinse 300 true none {}).tank .a).recipe.rinse ≤ 300
      ∧ (s .rinse 300 true none {}).stopped = false)
    ∧ (stepRuns .a (s .rinse 300 false none {}) = true ∧ ((s .rinse 300 false none {}).tank .a).halt = false)
    ∧ (stepRuns .a (filled 8334 1042) = true ∧ ((filled 8334 1042).tank .a).recipe.refillML ≤ 8334
      ∧ (filled 8334 1042).brine.refill = some { tank := .a, volume := 8334 })
    ∧ (stepRuns .a (filled 8333 1800) = true ∧ 8333 < ((filled 8333 1800).tank .a).recipe.refillML
      ∧ ((filled 8333 1800).tank .a).recipe.refillLimit ≤ 1800)
    ∧ (stepRuns .a brined = true ∧ (brined.tank .a).recipe.brine ≤ 3600 ∧ brined.brine.measure.isSome = true) := by
  decide +kernel

/-- Of a step's start and of its timer. -/
theorem witness_StepsEnd_starts :
    let a : State := { regenerating { inStep .brine 0 with phase := some .toStep } 3 with disc := moving 3 4 .sequencer }
    let run := regenerating (inStep .backwash 598) 3
    let held : State := { run with supply := { state := .battery } }
    Arriving 6 (stepPosition .a .brine) a
    ∧ (a.stopped = false ∧ a.seq.changeover = none ∧ (a.tank .a).service = .regenerating ∧ (a.tank .b).service ≠ .regenerating
      ∧ (a.tank .a).phase = some .toStep ∧ (a.tank .a).step = some .brine)
    ∧ (run.stopped = false ∧ (run.tank .a).claim = .granted
      ∧ run.line = { regen := some { granted := true, tank := .a, continuation := false } } ∧ run.supply.state = .mains
      ∧ run.valve.state = .opened ∧ run.discFree = true ∧ run.disc.position = some (stepPosition .a .backwash)
      ∧ (run.tank .a).elapsed + 1 < (run.tank .a).recipe.duration .backwash)
    ∧ held.supply.state ≠ .mains :=
  ⟨⟨by decide, rfl, rfl, rfl, rfl, rfl, ⟨rfl, rfl⟩, rfl, rfl⟩, by decide +kernel⟩

theorem witness_BrineDrawIsJudged :
    let m (low planned : Nat) (j : Bool) : BrineMeasure :=
      { tank := .a, start := 66, lowest := low, planned := planned, area := 1600, saturation := 1000, judged := j }
    let s (x : BrineMeasure) (n : Nat) : State := { regenerating (inStep .brine n) 4 with brine := { measure := some x } }
    ((s (m 20 8334 false) 1199).stopped = false ∧ stepRuns .a (s (m 20 8334 false) 1199) = true
      ∧ ((s (m 20 8334 false) 1199).tank .b).service ≠ .regenerating ∧ ((s (m 20 8334 false) 1199).tank .a).elapsed ≠ 1200)
    ∧ (stepRuns .a (s (m 66 0 false) 1200) = true ∧ (m 66 0 false).planned = 0)
    ∧ (stepRuns .a (s (m 66 8334 false) 1200) = true ∧ 4 * ((66 - 66) * 1600 / 10) < 8334)
    ∧ (stepRuns .a (s (m 46 12800 false) 1200) = true ∧ 12800 ≠ 0 ∧ 12800 ≤ 4 * ((66 - 46) * 1600 / 10)) := by decide +kernel

/-- Of the level: at a whole minute, one second before it, and in a BRINE step. -/
theorem witness_BrineDrawIsJudged_level :
    let s (n : Nat) (f : Bool) : State := { rest with clock := { second := n }, brine := { levelFault := f, restartLevel := false } }
    let m : BrineMeasure := { tank := .a, start := 66, lowest := 20, planned := 8334, area := 1600, saturation := 1000 }
    let b : State := { regenerating (inStep .brine 3598) 4 with brine := { measure := some m } }
    ((s 59 true).stopped = false ∧ (s 59 true).clock.advance.second % 60 = 0 ∧ (s 59 true).brine.levelFault = true
      ∧ (s 59 false).brine.levelFault = false)
    ∧ ((s 58 false).brine.measure = none ∧ (s 58 false).brine.refill = none ∧ (s 58 false).clock.advance.second % 60 ≠ 0
      ∧ (s 58 false).brine.restartLevel = false)
    ∧ ((0 : Int) ≤ 0 ∧ (800 : Int) ≤ 800 ∧ ¬ (0 : Int) ≤ -1 ∧ ¬ (801 : Int) ≤ 800)
    ∧ (b.stopped = false ∧ b.seq.changeover = none ∧ b.seq.due = none ∧ (b.tank .a).service = .regenerating
      ∧ (b.tank .b).service ≠ .regenerating ∧ (b.tank .a).step = some .brine ∧ (b.tank .a).phase = some .inStep
      ∧ (b.tank .a).elapsed + 1 < (b.tank .a).recipe.brine ∧ b.brine.measure = some m) := by decide +kernel

theorem witness_WaitingMovesAreAskedFor :
    let change (ph : ChangePhase) : State := { rest with seq := { changeover := some { outgoing := .a, phase := ph } } }
    let tank (ph : Phase) (k : Step) (p : Pos) := regenerating { inStep k 0 with phase := some ph } p
    (rest.stopped = false ∧ (change .toChange).discFree = true ∧ (change .toChange).supply.state = .mains
      ∧ (change .toChange).disc.position ≠ some (changePosition .a))
    ∧ ((change .toHold).discFree = true ∧ (change .toHold).disc.position ≠ some (holdPosition .a))
    ∧ ((tank .toStep .brine 3).discFree = true ∧ (tank .toStep .brine 3).seq.changeover = none
      ∧ ((tank .toStep .brine 3).tank .a).service = .regenerating
      ∧ ((tank .toStep .brine 3).tank .b).service ≠ .regenerating
      ∧ (tank .toStep .brine 3).disc.position ≠ some (stepPosition .a .brine))
    ∧ (lineConditions .a (tank .stepEnded .backwash 3) = true ∧ nextStep .backwash = some .brine
      ∧ (tank .stepEnded .backwash 3).disc.position ≠ some (stepPosition .a .brine))
    ∧ (lineConditions .a (tank .stepEnded .refill 6) = true
      ∧ (tank .stepEnded .refill 6).disc.position ≠ some (readyPosition .a)) := by decide +kernel

theorem witness_RegenerationEnds :
    let s : State := { regenerating { inStep .refill 1042 with phase := some .toReady } 6 with disc := moving 6 7 .sequencer }
    s.stopped = false ∧ s.disc.inPlace = false ∧ s.disc.driven = true ∧ codePosition 4 = some (readyPosition .a)
    ∧ s.disc.target = some (.pos (readyPosition .a)) ∧ s.disc.position = some (readyPosition .a - 1)
    ∧ s.disc.requester = some .sequencer ∧ s.disc.retryTag = none ∧ s.disc.retriedFault = none ∧ s.disc.mode = .auto
    ∧ s.settings.user.soft.discMode = .auto ∧ s.seq.changeover = none ∧ s.seq.due = none
    ∧ (s.tank .a).service = .regenerating ∧ (s.tank .a).phase = some .toReady ∧ (s.tank .a).claim = .granted
    ∧ (s.tank .b).service ≠ .regenerating
    ∧ s.line = { regen := some { granted := true, tank := .a, continuation := false } } := by decide +kernel

theorem witness_TankRegenAndChangeover :
    let busy : State := { rest with seq := { due := some .a } }
    let far : State := { serving {} with supply := { state := .battery } }
    (rest.stopped = false ∧ rest.link.handling = none ∧ 1 < (2 : Byte).toNat) ∧ busy.seq.due.isSome = true
    ∧ (rest.seq.changeover = none ∧ rest.seq.due = none ∧ (rest.tank .a).service ≠ .inService)
    ∧ (((serving { service := .exhausted }).tank .a).service = .inService
      ∧ ((serving { service := .exhausted }).tank .b).service ≠ .ready)
    ∧ (((serving {}).tank .a).service = .inService ∧ ((serving {}).tank .b).service = .ready)
    ∧ (far.supply.state ≠ .mains) ∧ ((serving {}).discFree = true ∧ (serving {}).supply.state = .mains
      ∧ (serving {}).disc.position ≠ some (changePosition .a)) := by decide +kernel

theorem witness_TankHaltResumeSkip :
    let t (x : Service) (p : Option Phase) (h : Bool) (k : Step) := ((regenerating
      { service := x, phase := p, halt := h, step := some k, claim := .granted } 3).tank .a)
    ((regenerating {} 3).stopped = false ∧ (regenerating {} 3).link.handling = none ∧ 1 < (255 : Byte).toNat)
    ∧ ((t .exhausted none false .backwash).service = .exhausted ∧ (t .exhausted none false .backwash).halt = false)
    ∧ ((t .regenerating (some .toStep) false .brine).phase = some .toStep
      ∧ (t .regenerating (some .toStep) false .brine).service = .regenerating
      ∧ (t .regenerating (some .toStep) false .brine).halt = false)
    ∧ (t .regenerating (some .stepEnded) false .brine).phase = some .stepEnded
    ∧ (t .regenerating (some .toReady) false .refill).phase = some .toReady
    ∧ ((t .faulted none false .brine).service ≠ .exhausted ∧ (t .faulted none false .brine).service ≠ .regenerating
      ∧ (t .faulted none false .brine).phase ≠ some .halted)
    ∧ ((t .exhausted none true .backwash).service = .exhausted ∧ (t .exhausted none true .backwash).halt = true)
    ∧ ((t .faulted none true .brine).service = .faulted ∧ (t .faulted none true .brine).halt = true)
    ∧ (t .regenerating (some .halted) true .brine).phase = some .halted
    ∧ ((t .regenerating (some .inStep) true .brine).phase ≠ some .halted
      ∧ (t .regenerating (some .inStep) true .brine).halt = true)
    ∧ ((t .ready none false .brine).phase ≠ some .halted ∧ (t .ready none false .brine).halt = false
      ∧ (t .ready none false .brine).service ≠ .regenerating)
    ∧ ((t .regenerating (some .inStep) false .backwash).phase = some .inStep
      ∧ (t .regenerating (some .inStep) false .backwash).step = some .backwash) := by decide +kernel

theorem witness_PostRegenerationReading :
    let s : State := { rest with brine :=
      { postDue := some 0, height := some 400, bridge := some { height := 400, inventory := 50000 } } }
    s.stopped = false ∧ s.supply.state = .mains ∧ s.brine.measure = none ∧ s.brine.refill = none ∧ s.brine.postDue = some 0
    ∧ 0 ≤ s.now ∧ s.brine.postTried = false ∧ s.settings.inst.sensorFitted = true ∧ s.brine.saltFault = false
    ∧ ((49 : Int) < 50) ∧ ((1200 : Int) < 1201) ∧ s.brine.height = some 400
    ∧ s.brine.bridge = some { height := 400, inventory := 50000 }
    ∧ ((50 : Int) ≤ 502 ∧ (502 : Int) ≤ 1200 ∧ s.settings.inst.tankDepth - (502 : Int).toNat < 400 + 50
      ∧ 400 < s.settings.inst.tankDepth - (502 : Int).toNat + 10) := by decide +kernel

/-- Of the fault mark, the first height, a fill, and the three cases of the bridge reference. -/
theorem witness_PostRegenerationReading_cases :
    let s (f : Bool) (h : Option Nat) (r : Option BridgeRef) (n : Nat) : State := { rest with brine :=
      { postDue := some 0, height := h, bridge := r, inventory := n, saltFault := f } }
    let h : Nat := 900 - (500 : Int).toNat
    ((s true none none 0).stopped = false ∧ (s true none none 0).brine.saltFault = true
      ∧ (s true none none 0).brine.height = none ∧ (50 : Int) ≤ 50 ∧ (1200 : Int) ≤ 1200)
    ∧ ((s false (some 350) none 0).brine.height = some 350 ∧ 350 + 50 ≤ h)
    ∧ (h < 351 + 50 ∧ (s false (some 351) none 0).brine.bridge = none)
    ∧ ((s false (some 400) (some ⟨410, 9⟩) 0).brine.bridge = some ⟨410, 9⟩ ∧ h + 10 ≤ 410)
    ∧ ((s false (some 400) (some ⟨409, 9000⟩) 6000).brine.bridge = some ⟨409, 9000⟩ ∧ 409 < h + 10
      ∧ (s false (some 400) (some ⟨409, 9000⟩) 6000).brine.bridgePosted = false ∧ 6000 + 3000 ≤ 9000)
    ∧ ((s false none none 0).brine.salt = .ok ∧ saltCode .ok < saltCode .low
      ∧ (s false none none 0).notices.queue.length < 16) := by decide +kernel

/-- Of SALT_FILLED: with and without the sensor, and a forecast that it changes. -/
theorem witness_SaltFilled :
    let s (f : Bool) (log : List SaltEntry) (n : Nat) : State := { rest with
      clock := { day := 10 }, settings := { inst := { sensorFitted := f } }, brine := { inventory := n, log := log } }
    let log : List SaltEntry := [⟨5000, 0⟩, ⟨5000, 86400⟩]
    ((s true [] 0).stopped = false ∧ (s true [] 0).link.handling = none ∧ (s true [] 0).settings.inst.sensorFitted = true)
    ∧ ((s false log 9000).settings.inst.sensorFitted = false ∧ (s false log 9000).settings.user.salt.forecastDays ≠ 0
      ∧ min (90 * 1000) (9000 + (5000#32).toNat) ≠ 9000 ∧ forecast (s false log 14000) = some 14)
    ∧ ((s true [⟨1, 2⟩] 0).brine.log.length < 2 ∧ (s true log 0).brine.log = ⟨5000, 0⟩ :: ⟨5000, 86400⟩ :: []
      ∧ 0 < (s true log 0).now ∧ (rest.now ≤ (⟨5000, 0⟩ : SaltEntry).stamp)
      ∧ (s true [⟨0, 0⟩, ⟨0, 5⟩] 0).brine.log = ⟨0, 0⟩ :: ⟨0, 5⟩ :: [])
    ∧ saltCode .ok < saltCode .out := by decide +kernel

theorem witness_BaselineAndFlushVolume :
    let s (b : Bool) (v : Nat) : State := { rest with
      filter := { baselineDue := b, volume := v, acq := 60 }, meter := { now := { vTr := 420 } } }
    let l := rest.settings.user.filter.flushVolume * 1000
    (rest.stopped = false ∧ (s false 0).filter.baselineDue = false)
    ∧ ((s true 0).filter.baselineDue = true ∧ (s true 0).filter.state ≠ .flushing)
    ∧ (l ≠ 0 ∧ l ≤ (s true l).filter.volume ∧ (s true l).filter.volume < l + (s true l).meter.now.vTr)
    ∧ (s true (l - 1)).filter.volume < l ∧ l + (s true (l + 420)).meter.now.vTr ≤ (s true (l + 420)).filter.volume := by
  decide +kernel

/-- Of the samples and the index: the 30th second of enough flow, the last of the acquisition. -/
theorem witness_BaselineAndFlushVolume_index :
    let s : State := { rest with filter := { flowHold := 29, acq := 59 } }
    s.stopped = false ∧ s.filter.state ≠ .flushing ∧ s.line.flush = none ∧ min 30 (s.filter.flowHold + 1) = 30
    ∧ s.filter.acq = 59 ∧ min 30 (rest.filter.flowHold + 1) < 30 ∧ (0 : Int) ≤ 1000 ∧ ¬ (1001 : Int) ≤ 1000 := by decide +kernel

/-- Of the counts of a second: a flush under way and its last second, an enough and too small a flush, the cartridge at its limit and
its age, and a quiet house. -/
theorem witness_BaselineAndFlushVolume_counts :
    let s (f : FilterState) (g : FlushRecord) (l : Line) : State := { rest with filter := { state := f, flush := g }, line := l }
    let on : Line := { flush := some ⟨true, false⟩ }
    let old (v d : Nat) : State := { rest with filter := { cartVolume := v, cartDays := d }, clock := { midnightDue := true } }
    ((s .clean {} {}).stopped = false ∧ (s .clean {} {}).filter.state ≠ .flushing)
    ∧ ((s .flushing { elapsed := 28 } on).filter.state = .flushing ∧ (s .flushing { elapsed := 28 } on).line.flushGranted = true
      ∧ (s .flushing { elapsed := 28 } on).filter.flush.elapsed + 1 < (s .flushing { elapsed := 28 } on).filter.flush.time)
    ∧ (s .flushing { elapsed := 29 } on).filter.flush.time ≤ 29 + 1
    ∧ after (exec (.meteringSecond { calm with pulsesProc := 3 }) (s .flushing { elapsed := 29, volume := 990 } on))
        (fun t => (t.filter.state, t.filter.volume, t.filter.quiet)) = some (.clean, 0, 1)
    ∧ ((old 0 0).settings.user.filter.cartVolume ≠ 0 ∧ (old 0 0).settings.user.filter.cartMonths ≠ 0)
    ∧ ((old 40000000 0).filter.cartDue = false
      ∧ (old 0 0).settings.user.filter.cartVolume * 1000 ≤ min 4294967295 ((old 40000000 0).filter.cartVolume + 0))
    ∧ ((old 0 179).stopped = false ∧ (old 0 179).clock.midnightDue = true
      ∧ (old 0 179).settings.user.filter.cartMonths ≤ min 65535 ((old 0 179).filter.cartDays + 1) / 30
      ∧ ¬ (old 0 178).settings.user.filter.cartMonths ≤ min 65535 ((old 0 178).filter.cartDays + 1) / 30) := by decide +kernel

theorem witness_FlushClaimed :
    let s (d : DueSet) (q : Nat) (l : Line) : State := { rest with filter := { due := d, quiet := q }, line := l }
    let taken : Line := { regen := some ⟨true, .a, false⟩ }
    let low : Line := { regen := some ⟨true, .a, false⟩, flush := some ⟨false, false⟩ }
    (rest.stopped = false ∧ (s { loaded := true } 59 {}).line.flush = none ∧ (s { loaded := true } 59 {}).filter.quiet ≠ 60)
    ∧ ((s { volume := true } 60 {}).filter.quiet = 60 ∧ (s { volume := true } 60 {}).line = {}
      ∧ (s { volume := true } 60 {}).supply.state = .mains ∧ (s { volume := true } 60 {}).valve.state = .opened
      ∧ (s { volume := true } 60 {}).filter.state ≠ .flushing)
    ∧ ((s { blocked := true } 0 taken).line.flush = none ∧ (s { blocked := true } 0 taken).line.owner ≠ .none)
    ∧ ((s { blocked := true } 0 low).line.flush = some { granted := false, high := false }
      ∧ (s { blocked := true } 0 low).line.owner ≠ .none) := by decide +kernel

theorem witness_FlushEnds :
    let s (n v : Nat) : State := { rest with
      filter := { state := .flushing, flush := { elapsed := n, volume := v } }, line := { flush := some ⟨true, false⟩ } }
    ((s 29 0).stopped = false ∧ (s 29 0).filter.state = .flushing ∧ (s 29 0).line = { flush := some ⟨true, false⟩ }
      ∧ (s 29 0).filter.flush.elapsed < (s 29 0).filter.flush.time)
    ∧ ((s 30 1000).filter.flush.time ≤ 30 ∧ 1000 ≤ (s 30 1000).filter.flush.volume)
    ∧ ((s 30 999).filter.flush.time ≤ 30 ∧ (s 30 999).filter.flush.volume < 1000) := by decide +kernel

/-- Of the cut of a flush. -/
theorem witness_FlushEnds_cut :
    let s : State := { rest with filter := { state := .flushing, solenoid := true }, line := { flush := some ⟨true, true⟩ } }
    s.stopped = false ∧ s.supply.state = .mains ∧ s.supply.below105 < 10 ∧ s.supply.below114 < 10
    ∧ s.leak.test.phase.closes = false ∧ s.link.handling = none ∧ s.valve.reasons = {} ∧ s.valve.state = .opened
    ∧ s.pins.closedEnd = false := by decide +kernel

theorem witness_FlowEventsBeginAndEnd :
    let s (d : Detector) (loss : Bool) : State := { rest with leak := { detector := d }, meter := { cond := { lossActive := loss } } }
    let set := thresholdSet rest.settings.user.leak
    (rest.stopped = false ∧ (s { rising := 2 } false).leak.detector.rising < 3)
    ∧ ((s { rising := 3 } true).leak.detector.active = none ∧ (s { rising := 3 } true).meter.cond.lossActive = true)
    ∧ (3 ≤ (s { rising := 3, risingVolume := 450 } false).leak.detector.rising
      ∧ (s { rising := 3, risingVolume := 450 } false).meter.cond.lossActive = false ∧ 3 < set.continuous
      ∧ 450 / 1000 < set.volume ∧ 0 < set.burstTime)
    ∧ (s { active := some set, gap := 19 } false).leak.detector.gap < rest.settings.user.leak.quietGap
    ∧ ((s { active := some set, gap := 20 } false).leak.detector.active ≠ none
      ∧ rest.settings.user.leak.quietGap ≤ (s { active := some set, gap := 20 } false).leak.detector.gap) := by decide +kernel

/-- Of the detector's second. -/
theorem witness_FlowEventsBeginAndEnd_second :
    let s (d : Detector) (v : ValveState) : State := { rest with leak := { detector := d }, valve := { state := v } }
    let set := thresholdSet rest.settings.user.leak
    (rest.stopped = false ∧ (s {} .closed).valve.state ≠ .opened)
    ∧ (rest.valve.state = .opened ∧ rest.valve.exercise = .none ∧ rest.line.test = none ∧ rest.leak.detector.active = none
      ∧ 4 < set.trickle ∧ set.trickle ≤ 5 ∧ (s { rising := 1 } .opened).leak.detector.rising < 2
      ∧ 2 ≤ (s { rising := 2 } .opened).leak.detector.rising)
    ∧ ((s { active := some set } .opened).leak.detector.active = some set ∧ 0 < rest.settings.user.leak.quietGap) := by
  decide +kernel

theorem witness_FlowTripLatches :
    let set : Thresholds := ⟨5, 3600, 400, 500, 120⟩
    let s (n : Nat) (l : Option Trip) (act : LeakAction) : State := { rest with
      leak := { detector := { active := some set, seconds := n, volume := 18000 }, latch := l }
      settings := { user := { leak := { action := act } } } }
    let zone : Trip := { first := .zone 0, time := 0, detail := 20, further := [], litres := 0 }
    ((s 3599 none .close).stopped = false ∧ (s 3599 none .close).leak.detector.active = some set
      ∧ (s 3599 none .close).leak.test.phase = .idle ∧ 3599 < set.continuous ∧ 18000 / 1000 < set.volume ∧ 0 < set.burstTime)
    ∧ ((s 3600 none .notify).meter.cond.lossActive = false ∧ set.continuous ≤ 3600
      ∧ (s 3600 none .notify).settings.user.leak.action = .notify ∧ (s 3600 none .notify).leak.latch = none)
    ∧ ((s 3600 none .close).settings.user.leak.action = .close ∧ (s 3600 none .close).valve.reasons = {}
      ∧ (s 3600 none .close).valve.state = .opened ∧ (s 3600 none .close).pins.closedEnd = false)
    ∧ ((s 3600 (some zone) .close).leak.latch = some zone ∧ zone.first ≠ .continuous ∧ .continuous ∉ zone.further)
    ∧ ((s 3600 (some { zone with further := [.continuous] }) .close).leak.latch = some { zone with further := [.continuous] }
      ∧ .continuous ∈ ({ zone with further := [.continuous] } : Trip).further) := by decide +kernel

/-- Of VOLUME and BURST alone, and of all three causes at once. -/
theorem witness_FlowTripLatches_causes :
    let set : Thresholds := ⟨5, 3600, 400, 500, 120⟩
    let s (n v b : Nat) : State := { rest with
      leak := { detector := { active := some set, seconds := n, volume := v, burst := b } } }
    ((s 10 400000 0).leak.detector.active = some set ∧ (s 10 400000 0).leak.test.phase = .idle ∧ ¬ set.continuous ≤ 10
      ∧ set.volume ≤ 400000 / 1000 ∧ ¬ set.burstTime ≤ 0)
    ∧ ((s 10 0 120).leak.detector.burst = 120 ∧ ¬ set.volume ≤ 0 / 1000 ∧ set.burstTime ≤ 120)
    ∧ ((s 3600 400000 120).stopped = false ∧ set.continuous ≤ 3600 ∧ (s 3600 400000 120).leak.latch = none
      ∧ (s 3600 400000 120).meter.cond.lossActive = false) := by decide +kernel

theorem witness_NightlyTestIsDue :
    let s (l : Option Trip) (ln : Line) (p : TestPhase) : State := { rest with
      leak := { testDue := true, detector := { quiet := 1800 }, latch := l, test := { phase := p } }, line := ln }
    let trip : Trip := { first := .burst, time := 0, detail := 120, further := [], litres := 60 }
    (rest.stopped = false ∧ rest.leak.testDue = false)
    ∧ ((s none {} .hold).leak.testDue = true ∧ (s none {} .hold).leak.test.phase ≠ .idle)
    ∧ ((s (some trip) {} .idle).leak.detector.active = none ∧ 1800 ≤ (s (some trip) {} .idle).leak.detector.quiet
      ∧ (s (some trip) {} .idle).leak.latch ≠ none)
    ∧ ((s none {} .idle).leak.latch = none ∧ (s none {} .idle).supply.state = .mains ∧ (s none {} .idle).valve.state = .opened
      ∧ (s none {} .idle).line = {} ∧ (s none {} .idle).valve.reasons = {} ∧ (s none {} .idle).pins.closedEnd = false)
    ∧ ((s none { flush := some ⟨true, false⟩ } .idle).line.owner ≠ .none
      ∧ (s none { flush := some ⟨true, false⟩ } .idle).line.test = none) := by decide +kernel

/-- Of the four preconditions, each the first that fails. -/
theorem witness_NightlyTestIsDue_skips :
    let s (n : Nat) (l : Option Trip) (p : SupplyState) (v : ValveState) : State := { rest with
      leak := { testDue := true, detector := { quiet := n }, latch := l }, supply := { state := p }, valve := { state := v } }
    let trip : Trip := { first := .burst, time := 0, detail := 120, further := [], litres := 60 }
    ((s 1799 none .mains .opened).stopped = false ∧ (s 1799 none .mains .opened).leak.testDue = true
      ∧ (s 1799 none .mains .opened).leak.test.phase = .idle ∧ (s 1799 none .mains .opened).leak.detector.quiet < 1800)
    ∧ ((s 1800 (some trip) .mains .opened).leak.latch ≠ none ∧ ¬ (s 1800 (some trip) .mains .opened).leak.detector.quiet < 1800
      ∧ (s 1800 (some trip) .mains .opened).leak.detector.active.isSome = false)
    ∧ ((s 1800 none .battery .opened).supply.state ≠ .mains ∧ (s 1800 none .battery .opened).leak.latch = none)
    ∧ ((s 1800 none .mains .closed).valve.state ≠ .opened ∧ (s 1800 none .mains .closed).supply.state = .mains)
    ∧ (s 1800 none .mains .closed).notices.queue.length < 16 := by decide +kernel

theorem witness_PressureTestPhases :
    let s (t : TestRun) (v : ValveState) (h : Bool) : State := { rest with
      leak := { test := t }, valve := { state := v }, filter := { p3 := { reading := 412, held := h } }
      line := { regen := some ⟨true, .a, false⟩, test := some ⟨false⟩ } }
    let wait := s { phase := .claiming, wait := 1800 } .opened false
    let closing := s { phase := .closing } .closed false
    let settled (h : Bool) := s { phase := .settle, settle := 10 } .closed h
    let held := s { phase := .hold, hold := 300, duration := 300 } .closed false
    (wait.stopped = false ∧ wait.leak.test.phase = .claiming ∧ 1800 ≤ wait.leak.test.wait ∧ wait.line.test = some ⟨false⟩)
    ∧ (s { phase := .claiming, wait := 1799 } .opened false).leak.test.wait < 1800
    ∧ (closing.leak.test.phase = .closing ∧ closing.valve.state = .closed) ∧ rest.valve.state ≠ .closed
    ∧ ((settled false).leak.test.phase = .settle ∧ 10 ≤ (settled false).leak.test.settle
      ∧ (settled false).filter.p3.held = false ∧ (settled true).filter.p3.held = true)
    ∧ (s { phase := .settle, settle := 9 } .closed false).leak.test.settle < 10
    ∧ (held.leak.test.phase = .hold ∧ held.leak.test.duration ≤ held.leak.test.hold)
    ∧ (s { phase := .hold, hold := 299, duration := 300 } .closed false).leak.test.hold < 300 := by decide +kernel

/-- Of a second of HOLD: a sample out of range, a fall of 81 kPa and one of 80 against a draw drop of 80, the last second but one. -/
theorem witness_PressureTestPhases_hold :
    let s (h : Bool) : State := { rest with
      valve := { state := .closed, reasons := { test := true } }, pins := { openEnd := false, closedEnd := true }
      filter := { p3 := { reading := 331, held := h } }
      leak := { test := { phase := .hold, hold := 298, duration := 300, draw := 80, p0 := 412, window := [412] } } }
    ((s false).stopped = false ∧ (s false).leak.test.phase = .hold ∧ (s false).valve.state = .closed
      ∧ (s false).pins.openEnd = false ∧ (s false).supply.state = .mains
      ∧ (s false).clock.advance.second ≠ (s false).settings.user.leak.testMinute * 60)
    ∧ ((1000 : Int) < 1001 ∧ (-1 : Int) < 0)
    ∧ ((∃ p ∈ (s false).leak.test.window.drop 0 ++ [(331 : Int).toNat], (s false).leak.test.draw + (331 : Int).toNat < p)
      ∧ (∀ p ∈ (s false).leak.test.window.drop 0 ++ [(332 : Int).toNat], p ≤ (s false).leak.test.draw + (332 : Int).toNat)
      ∧ (s false).leak.test.hold + 1 < (s false).leak.test.duration)
    ∧ ((s true).filter.p3.held = true ∧ (s false).filter.p3.held = false ∧ (s true).notices.queue.length < 16) := by decide +kernel

/-- Of the abandonments by TRIP, SUPPLY and VALVE, and of the third MICROLEAK with the action CLOSE, nothing latched or a trip. -/
theorem witness_PressureTestPhases_abandoned :
    let trip : Trip := { first := .burst, time := 0, detail := 120, further := [], litres := 60 }
    let s (p : TestPhase) (n : Nat) (l : Option Trip) : State := { withPod { serial := some 1, state := .missing, missed := 10 } with
      leak := { test := { phase := p, p0 := 412, window := [382], duration := 300, hold := 300, decay := 30 }, latch := l
                record := { microleaks := n } }
      valve := { state := .closing, drive := .toClosed, second := true, reasons := { test := true } }
      pins := { openEnd := false }
      settings := { user := { leak := { podLostAction := .close, microleakAction := .close } } } }
    ((s .closing 0 none).stopped = false ∧ (s .claiming 0 none).leak.test.phase ≠ .idle
      ∧ latched .burst (s .claiming 0 none) = false ∧ latched .burst (s .claiming 0 (some trip)) = true)
    ∧ (((s .hold 0 none).slot 0).state = .missing ∧ 10 ≤ ((s .hold 0 none).slot 0).missed
      ∧ (s .hold 0 none).settings.user.leak.podLostAction = .close ∧ latched (.podLost 0) (s .hold 0 none) = false)
    ∧ ((s .closing 0 none).leak.test.phase.closes = true ∧ (s .closing 0 none).supply.state = .mains
      ∧ (s .closing 0 none).supply.below105 < 10 ∧ (s .closing 0 none).pins.bothMade = false)
    ∧ ((s .closing 0 none).valve.drive = driveTo .closedEnd ∧ (s .closing 0 none).valve.second = true
      ∧ (s .closing 0 none).valve.exercise ≠ .closeRun)
    ∧ ((s .hold 2 none).leak.test.duration ≤ (s .hold 2 none).leak.test.hold ∧ 3 ≤ min 255 (2 + 1) ∧ ¬ 3 ≤ min 255 (1 + 1)
      ∧ (412 : Int) - 382 = 30 ∧ (s .hold 2 none).settings.user.leak.microleakAction = .close
      ∧ (s .hold 2 none).settings.user.leak.action = .close ∧ (s .hold 2 (some trip)).leak.latch = some trip)
    ∧ (s .hold 2 none).notices.queue.length < 16 := by decide +kernel

theorem witness_LeakRequests :
    let trip : Trip := { first := .burst, time := 0, detail := 120, further := [], litres := 60 }
    let wet := withPod { serial := some 1, state := .active, wet := true }
    let s (l : Option Trip) (p : TestPhase) (u : SupplyState) (v : ValveState) (ln : Line) : State := { rest with
      leak := { latch := l, test := { phase := p } }, supply := { state := u }, valve := { state := v }, line := ln }
    let idle := s none .idle .mains .opened { flush := some ⟨true, false⟩ }
    (rest.stopped = false ∧ rest.link.handling = none ∧ 1 < (2 : Byte).toNat ∧ (1 : Byte).toNat ≤ 1)
    ∧ anyWetGuarded wet = true ∧ (anyWetGuarded rest = false ∧ rest.leak.latch = none)
    ∧ (anyWetGuarded (s (some trip) .idle .mains .opened {}) = false ∧ (s (some trip) .idle .mains .opened {}).leak.latch = some trip)
    ∧ (s none .hold .mains .closed {}).leak.test.phase ≠ .idle ∧ (s (some trip) .idle .mains .opened {}).leak.latch ≠ none
    ∧ (s none .idle .battery .opened {}).supply.state ≠ .mains ∧ (s none .idle .mains .closed {}).valve.state ≠ .opened
    ∧ (idle.leak.test.phase = .idle ∧ idle.leak.latch = none ∧ idle.supply.state = .mains ∧ idle.valve.state = .opened
      ∧ idle.line.owner ≠ .none ∧ idle.line.test = none) := by decide +kernel

theorem witness_TravelArrives :
    let run : State := { exercising .closeRun with
      valve := { (exercising .closeRun).valve with drive := .toClosed }, pins := { openEnd := false } }
    let s := travelling .openEnd false
    let c := travelling .closedEnd false
    let held : State := { c with pins := { openEnd := true } }
    (run.stopped = false ∧ run.pins.switch .closedEnd = false ∧ run.pins.switch .openEnd = false
      ∧ run.valve.exercise = .closeRun)
    ∧ (s.stopped = false ∧ s.pins.switch .openEnd = false ∧ s.pins.switch .closedEnd = false
      ∧ driveEnd s.valve.drive = some .openEnd ∧ s.valve.exercise ≠ .closeRun ∧ s.valve.state = travelState .openEnd ∧ s.line = {})
    ∧ (driveEnd c.valve.drive = some .closedEnd ∧ c.valve.state = travelState .closedEnd ∧ c.line = {})
    ∧ (held.pins.switch .closedEnd = false ∧ held.pins.switch (otherEnd .closedEnd) = true
      ∧ driveEnd held.valve.drive = some .closedEnd)
    ∧ (rest.pins.switch .closedEnd = false ∧ rest.pins.switch (otherEnd .closedEnd) = true ∧ driveEnd rest.valve.drive = none) := by
  decide +kernel

/-- R143, R145: a ball that never leaves OPEN_END while the valve closes is at its target when that returns to OPEN: after the reversal
pause the travel arrives at once, the motor not driven. -/
theorem test_jammed_at_the_open_end :
    let s : State := { rest with valve := { state := .closing, drive := .toClosed, reasons := { test := true } } }
    after (exec .valvePauseEnd (removeReason .test s)) (fun t => (t.valve.state, t.valve.drive, t.pins.openEnd))
      = some (.opened, .stopped, true) := by decide +kernel

theorem witness_AttemptsFail :
    let s (b : Bool) := travelling .closedEnd b
    let o := travelling .openEnd true
    (rest.stopped = false ∧ rest.valve.exercise ≠ .closeRun ∧ rest.valve.drive = .stopped)
    ∧ ((s false).stopped = false ∧ (s false).valve.drive = driveTo .closedEnd ∧ (s false).valve.second = false)
    ∧ ((s true).valve.second = true ∧ (s true).valve.state = travelState .closedEnd ∧ (s true).leak.test.phase.closes = false)
    ∧ (o.valve.drive = driveTo .openEnd ∧ o.valve.second = true ∧ o.valve.state = travelState .openEnd) := by decide +kernel

theorem witness_PausesEnd :
    let s (p : Bool) : State := { rest with
      valve := { state := .opening, pause := .reversal }, pins := { openEnd := p, closedEnd := false } }
    (rest.stopped = false ∧ rest.valve.pause = .none)
    ∧ ((s false).valve.pause ≠ .none ∧ (s false).pins.switch (s false).targetEnd = false ∧ (s false).valve.state ≠ .opened)
    ∧ ((s true).pins.switch (s true).targetEnd = true ∧ (s true).valve.state = travelState (s true).targetEnd
      ∧ (s true).line = {}) := by decide +kernel

theorem witness_EndSwitchesDisagree :
    let both : State := { rest with pins := { openEnd := true, closedEnd := true } }
    (both.stopped = false ∧ both.pins.openEnd = true ∧ both.pins.closedEnd = true)
    ∧ (rest.pins.bothMade = false ∧ rest.leak.test.phase.closes = false ∧ rest.valve.exercise ≠ .closeRun)
    ∧ rest.valve.state ≠ restState .closedEnd
    ∧ (rest.valve.state = restState .openEnd ∧ rest.pins.switch (otherEnd .openEnd) = false) := by decide +kernel

theorem witness_ExerciseRuns :
    let none' := exercising .none
    let armed : State := { exercising .armed with valve := { (exercising .armed).valve with exerciseTime := 1800 } }
    let run (r : Bool) : State := { exercising .closeRun with valve := { (exercising .closeRun).valve with released := r } }
    let day : State := { exercising .none with valve := { (exercising .none).valve with exerciseDays := 29 } }
    (none'.stopped = false ∧ none'.valve.exercise = .none ∧ none'.settings.user.leak.exerciseDays ≠ 0
      ∧ none'.settings.user.leak.exerciseDays ≤ none'.valve.exerciseDays)
    ∧ day.valve.exerciseDays < day.settings.user.leak.exerciseDays ∧ none'.valve.exercise ≠ .armed
    ∧ (armed.valve.exercise = .armed ∧ armed.valve.state = .opened ∧ armed.valve.reasons = {} ∧ armed.meter.now.vIn = 0
      ∧ armed.supply.state = .mains ∧ armed.filter.state ≠ .flushing ∧ 1800 ≤ armed.valve.exerciseTime)
    ∧ none'.valve.exercise ≠ .closeRun ∧ ((run true).valve.exercise = .closeRun ∧ (run true).valve.released = true)
    ∧ (run false).valve.released = false := by decide +kernel

theorem witness_ShutoffRequests :
    let closed (r : Reasons) : State := { rest with
      valve := { state := .closed, reasons := r }, pins := { openEnd := false, closedEnd := true } }
    let stuck : State := { rest with
      valve := { state := .stuck, stuck := some (.stuck 1) }, pins := { openEnd := false, closedEnd := false } }
    (rest.stopped = false ∧ rest.link.handling = none ∧ rest.valve.reasons = {} ∧ rest.valve.state = .opened
      ∧ rest.pins.closedEnd = false ∧ rest.valve.state ≠ .stuck)
    ∧ ((closed { host := true }).valve.reasons = { host := true } ∧ (closed { host := true }).valve.state = .closed
      ∧ (closed { host := true }).pins.openEnd = false)
    ∧ (closed { host := true, trip := true }).valve.reasons = { host := true, trip := true }
    ∧ (stuck.valve.state = .stuck ∧ stuck.pins.switch stuck.targetEnd = false) := by decide +kernel

theorem witness_MainsComesAndGoes :
    let s : State := { rest with supply := { state := .battery } }
    rest.stopped = false ∧ rest.supply.state = .mains ∧ s.stopped = false ∧ s.supply.state ≠ .mains := by decide +kernel

theorem witness_SteadyVoltageDecides :
    let s (n : SupplyState) (a b c : Nat) (act : LowBatteryAction) : State := { rest with
      supply := { state := n, below105 := a, below114 := b, above119 := c }
      settings := { user := { leak := { lowBatteryAction := act } } } }
    (rest.stopped = false ∧ rest.supply.state = .mains)
    ∧ ((s .battery 9 9 0 .hold).stopped = false ∧ (s .battery 9 9 0 .hold).supply.state = .battery
      ∧ (s .battery 9 9 0 .hold).supply.below105 < 10 ∧ (s .battery 9 9 0 .hold).supply.below114 < 10)
    ∧ ((s .batteryLow 9 10 9 .hold).supply.state = .batteryLow ∧ (s .batteryLow 9 10 9 .hold).supply.above119 < 10)
    ∧ (10 ≤ (s .battery 9 10 0 .hold).supply.below114 ∧ (s .battery 9 10 0 .hold).settings.user.leak.lowBatteryAction = .hold)
    ∧ ((s .battery 9 10 0 .close).settings.user.leak.lowBatteryAction = .close ∧ (s .battery 9 10 0 .close).valve.reasons = {}
      ∧ (s .battery 9 10 0 .close).valve.state = .opened ∧ (s .battery 9 10 0 .close).pins.closedEnd = false)
    ∧ 10 ≤ (s .batteryLow 0 0 10 .hold).supply.above119
    ∧ ((s .battery 10 10 0 .hold).supply.state ≠ .mains ∧ 10 ≤ (s .battery 10 10 0 .hold).supply.below105) := by decide +kernel

theorem witness_PollsAndAnswers :
    let p (c : Option Bool) (m : Nat) := withPod { serial := some 1, state := .active, candidate := c, missed := m }
    let asked (c : Option Bool) (m : Nat) : State := { p c m with pods := { (p c m).pods with awaiting := some (0, 5) } }
    let gone : State := { rest with pods := { rest.pods with awaiting := some (0, 5) } }
    (rest.stopped = false ∧ ∀ n : Fin 8, (rest.slot n).state = .empty) ∧ ((p none 0).slot 0).state ≠ .empty ∧ rest.pods.awaiting = none
    ∧ (gone.pods.awaiting = some (0, 5) ∧ (gone.slot 0).state = .empty)
    ∧ ((asked (some true) 0).pods.awaiting = some (0, 5) ∧ ((asked (some true) 0).slot 0).state ≠ .empty
      ∧ (-40 : Int) ≤ -40 ∧ (85 : Int) ≤ 85 ∧ ((asked (some true) 0).slot 0).candidate ≠ some false)
    ∧ (((asked none 1).slot 0).missed < 2 ∧ (-41 : Int) < -40 ∧ (85 : Int) < 86 ∧ (5 : Byte) ≠ 6) := by decide +kernel

/-- Of a guarded pod that becomes wet. -/
theorem witness_PollsAndAnswers_wet :
    let p := withPod { serial := some 1, state := .active, candidate := some true }
    let s : State := { p with pods := { p.pods with awaiting := some (0, 5) } }
    s.stopped = false ∧ s.pods.awaiting = some (0, 5) ∧ (s.slot 0).state ≠ .empty ∧ (-40 : Int) ≤ 20 ∧ (20 : Int) ≤ 85
    ∧ (s.slot 0).candidate = some true ∧ (s.slot 0).wet = false ∧ (s.slot 0).shutoff = true ∧ s.leak.test.phase = .idle
    ∧ s.leak.latch = none ∧ s.settings.user.leak.action = .close := by decide +kernel

theorem witness_PodsGoMissingAndLost :
    let p (st : SlotState) (m : Nat) (w : Bool) (act : LeakAction) : State :=
      let s := withPod { serial := some 1, state := st, missed := m }
      { s with
        pods := { s.pods with awaiting := if w then some (0, 5) else none }
        settings := { user := { leak := { podLostAction := act } } } }
    let missed (st : SlotState) (m : Nat) : Prop := (p st m true .notify).pods.awaiting = some (0, 5)
      ∧ ((p st m true .notify).slot 0).state = st ∧ ((p st m true .notify).slot 0).missed = m
    ((p .active 0 false .notify).stopped = false ∧ (p .active 0 false .notify).pods.awaiting = none)
    ∧ missed .empty 0 ∧ missed .active 1 ∧ missed .active 2 ∧ missed .active 8 ∧ missed .active 9 ∧ missed .missing 8
    ∧ missed .missing 9 ∧ missed .lost 255 ∧ (p .missing 9 true .notify).settings.user.leak.podLostAction = .notify
    ∧ (p .missing 9 true .close).settings.user.leak.podLostAction = .close
    ∧ (3 ≤ ((p .active 3 false .notify).slot 0).missed) ∧ ((p .missing 9 false .notify).slot 0).missed < 10
    ∧ (((p .missing 10 false .notify).slot 0).state = .missing ∧ 10 ≤ ((p .missing 10 false .notify).slot 0).missed
      ∧ (p .missing 10 false .notify).settings.user.leak.podLostAction = .notify)
    ∧ ((p .missing 10 false .close).settings.user.leak.podLostAction = .close
      ∧ (p .missing 10 false .close).leak.latch = none) := by decide +kernel

theorem witness_PodsEnrol :
    let s (t : State) (c : Bool) (n : Nat) : State := { t with
      pods := { t.pods with calling := c, window := some { tag := 23, remaining := n } } }
    let full : State := { rest with pods := { slots := Vector.replicate 8 { serial := some 9, state := .active } } }
    let one : State := full.withSlot 7 {}
    (rest.stopped = false ∧ rest.pods.window = none ∧ rest.pods.calling = false) ∧ (s rest false 60).pods.window ≠ none
    ∧ ((s rest true 60).pods.calling = true ∧ (s rest true 60).pods.window ≠ none ∧ (0 : BitVec 32) = 0 ∧ 40 < 41 ∧ 40 ≤ 40)
    ∧ (slotOf 9 (s full true 60) = some 0 ∧ (s full true 60).pods.calling = true ∧ (9 : BitVec 32) ≠ 0)
    ∧ (slotOf 5 (s rest true 60) = none ∧ lowestEmpty (s rest true 60) = some 0 ∧ ((s rest true 60).slot 1).state = .empty)
    ∧ (slotOf 5 (s one true 60) = none ∧ lowestEmpty (s one true 60) = some 7
      ∧ ∀ m : Fin 8, m ≠ 7 → ((s one true 60).slot m).state ≠ .empty)
    ∧ (slotOf 5 (s full true 60) = none ∧ lowestEmpty (s full true 60) = none)
    ∧ (s rest false 1).pods.window = some { tag := 23, remaining := 1 }
    ∧ (s rest false 0).pods.window = some { tag := 23, remaining := 0 } := by decide +kernel

theorem witness_PodRequests :
    let p := withPod { serial := some 1, state := .active }
    (p.stopped = false ∧ p.link.handling = none ∧ 8 ≤ (8 : Byte).toNat ∧ ([] : List Byte).length ≤ 16)
    ∧ ((0 : Byte).toNat = (0 : Fin 8).val ∧ (p.slot 0).state ≠ .empty ∧ (rest.slot 0).state = .empty)
    ∧ (1 < (2 : Byte).toNat ∧ (0 : Byte) ∈ ([65, 0] : List Byte))
    ∧ ((1 : Byte).toNat ≤ 1 ∧ (0 : Byte) ∉ ([65, 66] : List Byte) ∧ (p.slot 0).wet = false) := by decide +kernel

/-- Of a label that newly guards a wet pod, with no trip and with one latched. -/
theorem witness_PodRequests_guards :
    let p := withPod { serial := some 1, state := .missing, wet := true, shutoff := false }
    let trip : Trip := { first := .burst, time := 0, detail := 120, further := [], litres := 60 }
    let l : State := { p with leak := { latch := some trip } }
    (p.stopped = false ∧ p.link.handling = none ∧ (1 : Byte).toNat = 1 ∧ (p.slot 0).shutoff = false ∧ (p.slot 0).wet = true
      ∧ (p.slot 0).state = .missing ∧ p.leak.test.phase = .idle ∧ p.leak.latch = none ∧ p.settings.user.leak.action = .close)
    ∧ (l.leak.latch = some trip ∧ trip.first ≠ .zone 0 ∧ .zone 0 ∉ trip.further) := by decide +kernel

theorem witness_FramesAreChecked :
    let s := handling .plain
    let h : State := { s with link := { s.link with held := some { kind := 1, tag := 2, payload := [], crc := 0 } } }
    (rest.stopped = false ∧ rest.link.handling = none ∧ (List.replicate 248 (0 : Byte)).length ≤ 248)
    ∧ (h.stopped = false ∧ h.link.handling.isSome = true ∧ h.link.handling.map Handling.completion = some .plain
      ∧ h.link.held = some { kind := 1, tag := 2, payload := [], crc := 0 }) := by decide +kernel

theorem witness_ReceiverAndDispatch :
    (rest.stopped = false ∧ (1 : Byte).toNat < 2 ∧ 250 < (251 : Byte).toNat ∧ 2 ≤ (2 : Byte).toNat ∧ (250 : Byte).toNat ≤ 250)
    ∧ frameOfBytes [2, 1] = none ∧ requestOf (.identify 5 true) = some (.identify, true, 5)
    ∧ (0x0C ≤ (0x0C : Byte).toNat ∧ (0x0F : Byte).toNat ≤ 0x0F ∧ 0x20 < (0x21 : Byte).toNat)
    ∧ parseRequest 0x0C [] = .unknownKind ∧ parseRequest 1 [0] = .badLength := by decide +kernel

/-- Of a complete frame: handled, held and lost. -/
theorem witness_ReceiverAndDispatch_frames :
    let held : State := { handling .plain with link := { (handling .plain).link with held := some (Request.status.frame 6) } }
    frameOfBytes (Request.status.frame 5).bytes = some (Request.status.frame 5)
    ∧ (rest.stopped = false ∧ rest.link.handling = none)
    ∧ ((handling .plain).link.handling.isSome = true ∧ (handling .plain).link.held = none)
    ∧ (held.link.handling.isSome = true ∧ held.link.held = some (Request.status.frame 6)) := by decide +kernel

theorem witness_RequestsWaitAndComplete :
    let held (c : Completion) : State := { handling c with link := { (handling c).link with held := some (Request.status.frame 6) } }
    (requestOf (.status 2 false) = some (.status, false, 2) ∧ (handling .plain).stopped = false
      ∧ (handling .plain).link.handling.isSome = true ∧ (handling .plain).link.held = none)
    ∧ (held .plain).link.held ≠ none ∧ (rest.stopped = false ∧ rest.link.handling = none)
    ∧ (handling .plain).link.handling.map Handling.completion = some .plain
    ∧ (handling .noticeTake).link.handling.map Handling.completion = some .noticeTake
    ∧ (handling (.historyRead 3 true)).link.handling.map Handling.completion = some (.historyRead 3 true)
    ∧ (held .reset).link.handling.map Handling.completion = some .reset := by decide +kernel

theorem witness_RepliesAndReads : requestOf (.status 2 false) = some (.status, false, 2) ∧ Request.status.wf ∧ rest.free
    ∧ rest.meter.week.length ≤ 7 := ⟨rfl, trivial, ⟨rfl, rfl⟩, by decide⟩

/-- Of the records that the reads carry: a notice, an hour, a day, a fault and an open enrolment window. -/
theorem witness_RepliesAndReads_records :
    let r : FaultRecord :=
      { code := .shutoffStuck, subject := .none, first := 0, last := 0, count := 1, active := true, detail := 1 }
    let s : State := { (unreadRecords 1 true) with
      notices := { queue := List.replicate 4 { kind := .filterState, subject := .none, stamp := 0, v1 := 1, v2 := 2, v3 := 3 } }
      faults := { records := [r] }, pods := { rest.pods with window := some { tag := 1, remaining := 60 } }
      meter := { (unreadRecords 1 true).meter with week := [5] } }
    s.notices.queue[3]?.isSome = true ∧ s.meter.history.ring[s.meter.history.cursor + 0]?.isSome = true
    ∧ s.meter.week[0]?.isSome = true ∧ s.faults.records[0]? = some r ∧ s.pods.window.isSome = true
    ∧ [s.meter.totals.inlet][0]? = some s.meter.totals.inlet := by decide +kernel

theorem witness_SettingsAreReadAndSet :
    let s (x : Service) (c : Option Changeover) : State := { rest with
      seq := { tanks := ⟨{ service := x }, { service := .inService }⟩, changeover := c } }
    let row : SettingRow := ⟨true, true, 50, 1000⟩
    (settingRow 44 = some (.user 10 120) ∧ (10 : Int) ≤ 10 ∧ (120 : Int) ≤ 120 ∧ (120 : Int) < 121 ∧ (9 : Int) < 10
      ∧ settingRow 14 = none ∧ settingRow 1 = some row ∧ row.orZero = true ∧ (0 : Int) < 49 ∧ (49 : Int) < row.lo)
    ∧ (settingRow (11 : Byte).toNat = some (.inst 5 60) ∧ (SettingRow.inst 5 60).installer = true ∧ rest.stopped = false
      ∧ rest.link.handling = none ∧ (SettingRow.user 10 120).installer = false ∧ 2 < (3 : Byte).toNat)
    ∧ ((1 : Byte) = tankByte .a + 1 ∧ (2 : Byte) = tankByte .b + 1 ∧ row.clamp (250#32).toInt = rest.resin .a
      ∧ row.clamp (300#32).toInt ≠ rest.resin .a ∧ row.clamp (0#32).toInt = 0)
    ∧ (((s .inService none).tank .a).service = .inService ∧ ((s .regenerating none).tank .a).service = .regenerating
      ∧ ((s .faulted none).tank .a).service = .faulted ∧ ((s .ready none).tank .a).service = .ready)
    ∧ (s .ready (some { outgoing := .b, phase := .toChange })).seq.changeover ≠ none
    ∧ ((rest.tank .a).service = .ready ∧ (rest.tank .b).service ≠ .inService ∧ rest.seq.chosen = .a
      ∧ rest.seq.changeover = none) := by decide +kernel

/-- Of the owners of a new value. -/
theorem witness_SettingsAreReadAndSet_owners :
    let v (id : Nat) (x : BitVec 32) : Option Int := (settingRow id).map fun r => r.clamp x.toInt
    let trip : Trip := { first := .burst, time := 0, detail := 120, further := [], litres := 60 }
    let s (d : DiscMode) (f : FilterState) (p : SupplyState) (l : Option Trip) (fitted : Bool) : State := { rest with
      disc := { rest.disc with mode := d }, filter := { state := f }, supply := { state := p }, leak := { latch := l }
      brine := { inventory := 11000 }, settings := { inst := { sensorFitted := fitted } } }
    let a := s .auto .clean .batteryLow (some trip) false
    let b := s .manual .flushing .mains none true
    (a.free ∧ b.free) ∧ (v 7 300 = some 300 ∧ v 3 4500 = some (a.settings.get 3) ∧ v 3 4501 ≠ some (a.settings.get 3))
    ∧ (v 4 100 ≠ some (a.settings.get 4) ∧ v 5 500 ≠ some (a.settings.get 5) ∧ v 5 500 ≠ some 0 ∧ v 5 0 = some 0)
    ∧ (v 8 0 = some 0 ∧ b.settings.get 8 ≠ 0 ∧ v 8 1 = some 1 ∧ a.settings.get 8 ≠ 1)
    ∧ (v 10 11 = some 11 ∧ (a.brine.inventory : Int) ≤ 11 * 1000 ∧ v 10 10 = some 10 ∧ 10 * 1000 < (a.brine.inventory : Int))
    ∧ (v 20 300 = some 300 ∧ v 35 1 = some 1 ∧ v 35 0 = some 0 ∧ a.disc.state = .atPosition ∧ a.disc.mode = .auto
      ∧ b.disc.mode = .manual ∧ a.seq.changeover = none ∧ State.reset.disc.state ≠ .atPosition)
    ∧ (v 40 61 ≠ some (a.settings.get 40) ∧ a.filter.state ≠ .flushing ∧ b.filter.state = .flushing)
    ∧ (v 50 2 = some 2 ∧ a.settings.get 50 ≠ 2 ∧ v 51 1 = some 1 ∧ a.leak.latch ≠ none ∧ b.leak.latch = none ∧ v 51 0 = some 0)
    ∧ (v 69 1 = some 1 ∧ a.supply.state = .batteryLow ∧ b.supply.state ≠ .batteryLow ∧ v 69 0 = some 0)
    ∧ (v 81 11 ≠ some (a.settings.get 81) ∧ a.settings.inst.sensorFitted = false ∧ b.settings.inst.sensorFitted = true) :=
  ⟨⟨⟨rfl, rfl⟩, ⟨rfl, rfl⟩⟩, by decide +kernel⟩

theorem witness_NoticesAndHistoryAreTaken :
    let s : State := { rest with meter := { history := { ring := [{ day := 0, hour := 1, litres := 37, flags := {}, repeats := 1 }] } } }
    s.stopped = false ∧ s.link.handling = none ∧ s.link.held = none ∧ (∀ n ∈ s.notices.queue, n.inFlight = false)
    ∧ (∀ r ∈ s.meter.history.ring, r.inFlight = false) ∧ s.meter.history.cursor ≤ s.meter.history.ring.length := by
  decide +kernel

theorem witness_ClearsAndRestores :
    (rest.stopped = false ∧ rest.link.handling = none ∧ 86399 < (86400#32).toNat ∧ (86399#32).toNat ≤ 86399)
    ∧ (rest.meter.hour.day = (0#16).toNat ∧ rest.meter.hour.hour = (3599#32).toNat / 3600)
    ∧ rest.disc.mode = .auto := by decide +kernel

theorem witness_NoticesAndFaultsAreKept :
    let n (k : NoticeKind) : Notice := { kind := k, subject := .none, stamp := 0, v1 := 0, v2 := 0, v3 := 0 }
    let r : FaultRecord :=
      { code := .batteryLow, subject := .none, first := 0, last := 0, count := 255, active := true, detail := 0 }
    let log (l : List FaultRecord) : State := { rest with faults := { records := l } }
    (([n .supplyState] = [] ++ n .supplyState :: []) ∧ isStateKind (n .supplyState).kind = true)
    ∧ (isStateKind (n .fault).kind = false ∧ (List.replicate 23 (n .fault)).length < 24)
    ∧ ((List.replicate 23 (n .fault) ++ [n .supplyState]).length = 24
      ∧ (∀ x ∈ List.replicate 23 (n .fault), isStateKind x.kind = false))
    ∧ ((List.replicate 24 (n .fault)).length = 24 ∧ ∀ x ∈ List.replicate 24 (n .fault), isStateKind x.kind = false)
    ∧ ((log [r]).faults.records = [] ++ r :: [] ∧ r.code = .batteryLow ∧ r.subject = .none)
    ∧ ((log []).faults.records.length < 8 ∧ (log (List.replicate 8 r)).faults.records.length = 8
      ∧ ∀ x ∈ (log (List.replicate 8 r)).faults.records, x.code ≠ .podLost ∨ x.subject ≠ .none) := by decide +kernel

theorem witness_RequestsRoundTrip : (Request.podLabel 0 1 (List.replicate 16 65)).wf
    ∧ parseRequest 0x1C ([0, 1] ++ List.replicate 16 65) = .request (.podLabel 0 1 (List.replicate 16 65)) :=
  ⟨by simp [Request.wf], by decide +kernel⟩

/-- Of LineKeepsOneOwner and LogsStayBounded: a step of a state that meets the invariants. -/
theorem witness_LineKeepsOneOwner_LogsStayBounded : let s : State := { handling .plain with notices := {}, pending := [.replyComplete false] }
    s.line.oneOwner = true ∧ s.valve.wf ∧ s.Bounded ∧ s.CapacityBounded ∧ s.RosterDistinct
    ∧ (∃ t, step s = .next t) := by
  have no (P : Retained → Prop) : ∀ m, (State.reset.before) = some m → P m := fun m h => nomatch h
  refine ⟨rfl, fun _ => rfl, ⟨⟨Nat.zero_le _, .nil⟩, ⟨⟨Nat.zero_le _, .nil⟩, ⟨Nat.zero_le _, Nat.le_refl _⟩⟩, no _⟩,
    ⟨fun k => ?_, no _⟩, ⟨?_, no _⟩, ⟨_, rfl⟩⟩
  · cases k <;> exact ⟨by decide, by decide⟩
  · have h : rosterWf (handling .plain).kept.slots := ?_
    · exact h
    unfold rosterWf
    decide +kernel

end Sys2Proof.Tests
end

/-! The dose curve of R23: the curve as one equation per segment, the range of a clamped setting, and the statement `DoseCurve`. -/

namespace Sys2Proof.Machine

/-! ### The segments of the curve -/

theorem doseCapacity_below_120 {d : Nat} (hi : d < 120) : doseCapacity d = 40000 + 10000 * (d - 80) / 40 := by
  rw [doseCapacity, if_neg (by omega), if_neg (by omega), if_neg (by omega), if_neg (by omega)]

theorem doseCapacity_from_120 {d : Nat} (lo : 120 ≤ d) (hi : d < 160) :
    doseCapacity d = 50000 + 7000 * (d - 120) / 40 := by
  rw [doseCapacity, if_neg (by omega), if_neg (by omega), if_neg (by omega), if_pos lo]

theorem doseCapacity_from_160 {d : Nat} (lo : 160 ≤ d) (hi : d < 200) :
    doseCapacity d = 57000 + 6000 * (d - 160) / 40 := by
  rw [doseCapacity, if_neg (by omega), if_neg (by omega), if_pos lo]

theorem doseCapacity_from_200 {d : Nat} (lo : 200 ≤ d) (hi : d < 240) :
    doseCapacity d = 63000 + 5000 * (d - 200) / 40 := by
  rw [doseCapacity, if_neg (by omega), if_pos lo]

/-- The last point has no segment above it. -/
theorem doseCapacity_from_240 {d : Nat} (lo : 240 ≤ d) : doseCapacity d = 68000 := by
  rw [doseCapacity, if_pos lo]

/-! ### The clamp -/

/-- Without the "0 or" of its range, a row's clamp (R175 step 3) keeps every value within the range. -/
theorem SettingRow.clamp_mem_range {r : SettingRow} (hz : r.orZero = false) (hr : r.lo ≤ r.hi) (v : Int) :
    r.lo ≤ r.clamp v ∧ r.clamp v ≤ r.hi := by
  rw [SettingRow.clamp, hz, Bool.false_and, if_neg Bool.false_ne_true]
  split
  · exact ⟨le_rfl, hr⟩
  next hlo =>
    split
    · exact ⟨hr, le_rfl⟩
    next hhi => exact ⟨not_lt.mp hlo, not_lt.mp hhi⟩

/-! ### The statement -/

/-- Settles O11: each segment, and with it each of the five points and the two examples, is an equation of the curve; the bounds of a dose
are those of a clamp without "0 or". -/
theorem doseCurve : Obligations.DoseCurve := by
  unfold Obligations.DoseCurve
  refine ⟨?segments, doseCapacity_below_120 (by decide), doseCapacity_from_120 (by decide) (by decide),
    doseCapacity_from_160 (by decide) (by decide), doseCapacity_from_200 (by decide) (by decide),
    doseCapacity_from_240 (by decide), doseCapacity_from_120 (by decide) (by decide), doseCapacity_below_120 (by decide),
    rfl, rfl, SettingRow.clamp_mem_range (r := .user 80 240) rfl (by decide)⟩
  case segments =>
    simp only [List.forall_mem_cons]
    exact ⟨fun _ _ hi => doseCapacity_below_120 hi, fun _ lo hi => doseCapacity_from_120 lo hi,
      fun _ lo hi => doseCapacity_from_160 lo hi, fun _ lo hi => doseCapacity_from_200 lo hi, List.forall_mem_nil _⟩

end Sys2Proof.Machine

/-! The frame check of R170 and the identity of R176: what handles a frame, a REJECT written out, a line command of a running part, and the
statements `FramesAreChecked` and `IdentifyAnswers`. -/

namespace Sys2Proof.Machine

/-! ### The frame check -/

/-- The check compares the CRC carried with that of bytes 1 through the last payload byte. -/
theorem Frame.checked_iff (f : Frame) : f.checked = true ↔ f.crc = frameCrc f.kind f.tag f.payload := beq_iff_eq

/-- The REJECT that answers a frame that fails its check: the status FRAME_CHECK, the header of `v`, and no body. -/
def Frame.reject (f : Frame) (v : State) : Handling :=
  { frame := f, completion := .plain
    reply := goodFrame 0xFF f.tag ([0x24] ++ unsignedField 1 v.notices.queue.length ++ headerFlags v) }

/-- The state after a frame that fails its check is answered: the REJECT is in progress, and the marks OVERRUN and LOST, which its header
reported, are cleared. -/
def State.rejecting (f : Frame) (v : State) : State :=
  { v with
    link := { v.link with overrun := false, handling := some (f.reject v) }
    notices := { v.notices with lost := false } }

/-- The payload of a refusal FRAME_CHECK ends with the header: the status has no reason byte and carries no body. -/
theorem replyPayload_frameCheck (v : State) : replyPayload { status := .frameCheck } v
    = [0x24] ++ unsignedField 1 v.notices.queue.length ++ headerFlags v := by
  simp [replyPayload, reasonField, Status.carriesBody, statusCode]

theorem buildReply_frameCheck (f : Frame) (v : State) :
    buildReply f rejectKind (refuse .frameCheck v) = v.rejecting f := by
  simp only [buildReply, refuse, replyPayload_frameCheck, rejectKind, State.rejecting, Frame.reject]

/-- A frame that passes its check is dispatched, and one that fails it is answered by REJECT (R170). -/
theorem handleFrame_eq (f : Frame) (v : State) : handleFrame f v
    = if f.checked then buildReply f (replyKind f.kind) (dispatch f v) else v.rejecting f := by
  rw [handleFrame, buildReply_frameCheck]

/-! ### Commands of the serial line -/

theorem lineEvent_running {s : State} (hs : s.stopped = false) (svc : Bool) (f : State → State) :
    lineEvent svc f s = commit s (f (s.withSvc svc)) := by
  rw [lineEvent, whenOn, hs, if_neg Bool.false_ne_true]

/-- A frame that completes while no request is being handled is handled in that event (R171). -/
theorem deliver_idle {v : State} (hv : v.link.handling = none) {f : Frame} (hf : f.payload.length ≤ 248) :
    deliver f v = handleFrame f (frameDropped v) := by
  rw [deliver, if_pos hf, receive, hv]
  rfl

/-- The end of a reply whose request needs no completion effect lets the held frame be handled (R171). -/
theorem replyDone_plain_held {v : State} {h : Handling} (hh : v.link.handling = some h) (hc : h.completion = .plain)
    {f : Frame} (hf : v.link.held = some f) :
    replyDone v = handleFrame f { v with link := { v.link with handling := none, held := none } } := by
  simp only [replyDone, hh, hc, nextRequest, hf]

theorem exec_frameReject (f : Frame) (svc : Bool) (s : State) :
    exec (.frameReject f.kind f.tag f.payload f.crc svc) s = lineEvent svc (deliver f) s := rfl

theorem exec_replyComplete (svc : Bool) (s : State) : exec (.replyComplete svc) s = lineEvent svc replyDone s := rfl

theorem exec_identify (svc : Bool) (tag : Byte) (s : State) : exec (.identify tag svc) s = request svc .identify tag s := rfl

/-! ### The statements -/

/-- Settles O48: a frame handled as it completes and a held one whose turn comes both reach `handleFrame`, where the check decides. -/
theorem framesAreChecked : Obligations.FramesAreChecked := by
  unfold Obligations.FramesAreChecked
  intro f svc s
  refine ⟨f.checked_iff, handleFrame_eq f, ?atOnce, ?held⟩
  case atOnce =>
    intro v hfree hlen
    obtain ⟨hrun, hidle⟩ := hfree
    have hhandled : deliver f (s.withSvc svc) = handleFrame f v := deliver_idle (v := s.withSvc svc) hidle hlen
    rw [exec_frameReject, lineEvent_running hrun, hhandled, handleFrame_eq]
    rfl
  case held =>
    intro h hrun hh hc hf w v
    have hhandled : replyDone w = handleFrame f v := replyDone_plain_held (v := w) hh hc hf
    rw [exec_replyComplete, lineEvent_running hrun, hhandled, handleFrame_eq]
    rfl

/-- The body of IDENTIFY, byte by byte (R176). -/
theorem identifyBody_eq : identifyBody = [0x53, 0x4A, 220, 0, 1, 2, 8, 0, 2, 24, 8] := by decide

/-- IDENTIFY only reads (R176). -/
theorem takeRequest_identify (tag : Byte) (s : State) :
    takeRequest tag s .identify = (s, { status := .ok, body := identifyBody }) := rfl

/-- Settles O49: a request handled at once is answered by its owner, and the owner of IDENTIFY answers with the constant body. -/
theorem identifyAnswers : Obligations.IdentifyAnswers := by
  unfold Obligations.IdentifyAnswers
  rw [← identifyBody_eq]
  refine ⟨by decide, takeRequest_identify, ?answer⟩
  case answer =>
    intro svc tag s hfree
    have hparse : parseRequest Request.identify.kind Request.identify.payload = .request .identify := rfl
    rw [exec_identify, request_free hfree svc .identify tag (Nat.zero_le _) hparse, takeRequest_identify, answers]

end Sys2Proof.Machine

/-! What every operation of the part upholds, whatever the state: the clauses of Safety.lean, the queue of commands and the note of the last
group. `Upholds s t` says that `t` keeps each of them where `s` has it, and there is one lemma for each operation. -/

namespace Sys2Proof.Machine

set_option Elab.async false

/-! ### The relation -/

/-- `t` keeps what `s` has of the promises of Safety.lean, each on its own, and the queue of commands and the note of the last group. -/
structure Upholds (s t : State) : Prop where
  owner : s.line.oneOwner = true → t.line.oneOwner = true
  valve : s.valve.wf → t.valve.wf
  notices : s.notices.wf → t.notices.wf
  faults : s.faults.wf → t.faults.wf
  history : s.meter.history.wf → t.meter.history.wf
  capacity : (∀ k, (s.record k).wf) → ∀ k, (t.record k).wf
  roster : rosterWf s.pods.slots → rosterWf t.pods.slots
  before : t.before = s.before
  pending : t.pending = s.pending

/-- What the clauses of `Upholds` read. -/
def State.guarded (s : State) :
    Line × Valve × NoticeQueue × FaultLog × History × PerTank CapacityRecord × Vector PodSlot 8 × Option Retained × List Instr :=
  (s.line, s.valve, s.notices, s.faults, s.meter.history, s.cap.recs, s.pods.slots, s.before, s.pending)

section
variable {s t u : State}

theorem Upholds.refl (s : State) : Upholds s s := ⟨id, id, id, id, id, id, id, rfl, rfl⟩

/-- An update of what no clause reads. -/
theorem Upholds.same (h : Upholds s t) (e : u.guarded = t.guarded := by rfl) : Upholds s u := by
  simp only [State.guarded, Prod.mk.injEq] at e
  obtain ⟨hl, hv, hn, hf, hh, hr, hp, hb, hq⟩ := e
  have hrec : u.record = t.record := funext fun k => by rw [State.record, State.record, hr]
  exact ⟨by rw [hl]; exact h.owner, by rw [hv]; exact h.valve, by rw [hn]; exact h.notices, by rw [hf]; exact h.faults,
    by rw [hh]; exact h.history, by rw [hrec]; exact h.capacity, by rw [hp]; exact h.roster, hb.trans h.before,
    hq.trans h.pending⟩

theorem Upholds.ite {c : Prop} [Decidable c] {a b : State} (ha : c → Upholds s a) (hb : ¬c → Upholds s b) :
    Upholds s (if c then a else b) := by
  split
  next hc => exact ha hc
  next hc => exact hb hc

/-! ### The shared operations -/

theorem upholds_post (h : Upholds s t) (k : NoticeKind) (x : Subject) (a b c : Int) : Upholds s (post k x a b c t) :=
  { h with notices := fun w => post_wf (h.notices w) k x a b c }

theorem upholds_post1 (h : Upholds s t) (k : NoticeKind) (x : Subject) (a : Int) : Upholds s (post1 k x a t) :=
  upholds_post h k x _ _ _

theorem upholds_post2 (h : Upholds s t) (k : NoticeKind) (x : Subject) (a b : Int) : Upholds s (post2 k x a b t) :=
  upholds_post h k x _ _ _

theorem upholds_requestDone (h : Upholds s t) (x : Subject) (g : Byte) (k : Nat) (o : DoneOutcome) (v : Int) :
    Upholds s (requestDone x g k o v t) := upholds_post h _ _ _ _ _

theorem upholds_requestDoneIf (h : Upholds s t) (x : Subject) (g : Option Byte) (k : Nat) (o : DoneOutcome) (v : Int) :
    Upholds s (requestDoneIf x g k o v t) := by
  cases g with
  | none => exact h
  | some g => exact upholds_requestDone h x g k o v

theorem upholds_faultReport (h : Upholds s t) (c : FaultCode) (x : Subject) (d : Int) : Upholds s (faultReport c x d t) :=
  have h' : Upholds s { t with faults := t.faults.report c x d t.now } :=
    { h with faults := fun w => FaultLog.report_wf (h.faults w) c x d t.now }
  upholds_post h' _ _ _ _ _

theorem upholds_faultGone (h : Upholds s t) (c : FaultCode) (x : Subject) : Upholds s (faultGone c x t) :=
  { h with faults := fun w => FaultLog.gone_wf (h.faults w) c x }

theorem upholds_withTank (h : Upholds s t) (k : Tank) (r : TankRecord) : Upholds s (t.withTank k r) := h.same

theorem upholds_changeTank (h : Upholds s t) (k : Tank) (r : TankRecord) : Upholds s (changeTank k r t) :=
  .ite (fun _ => upholds_withTank h k r) fun _ => upholds_post (upholds_withTank h k r) _ _ _ _ _

theorem withRecord_record_ne (t : State) {j k : Tank} (e : j ≠ k) (r : CapacityRecord) :
    (t.withRecord k r).record j = t.record j := by
  rw [State.record, State.withRecord, PerTank.get_set, if_neg e, State.record]

theorem upholds_withRecord (h : Upholds s t) (k : Tank) {r : CapacityRecord} (hr : (t.record k).wf → r.wf) :
    Upholds s (t.withRecord k r) where
  __ := h
  capacity := fun w j => by
    have hw := h.capacity w
    by_cases e : j = k
    · subst e
      rw [withRecord_record_same]
      exact hr (hw j)
    · rw [withRecord_record_ne _ e]
      exact hw j

/-! ### The Capacity Unit -/

theorem CapacityRecord.deplete_wf {r : CapacityRecord} (h : r.wf) (e v : Nat) : (r.deplete e v).wf := by
  obtain ⟨hlo, hhi⟩ := h
  simp only [CapacityRecord.wf, CapacityRecord.deplete]
  omega

theorem CapacityRecord.front_wf (r : CapacityRecord) (p : Nat) : (r.front p).wf := by
  simp only [CapacityRecord.wf, CapacityRecord.front, clampInt]
  omega

theorem CapacityRecord.credit_wf (r : CapacityRecord) (c b : Nat) : (r.credit c b).wf := by
  simp only [CapacityRecord.wf, CapacityRecord.credit]
  omega

theorem upholds_creditTank (h : Upholds s t) (k : Tank) (b : Nat) : Upholds s (creditTank k b t) :=
  (upholds_withRecord h k fun _ => CapacityRecord.credit_wf _ _ b).same

theorem upholds_disableCapacity (h : Upholds s t) (k : Tank) : Upholds s (disableCapacity k t) :=
  (upholds_withRecord h k (r := { t.record k with
    credited := 0, remaining := 0, consumed := 0, carry := 0, frontSeen := false, hardPosted := false, exhaustionRaised := false })
    fun _ => by simp [CapacityRecord.wf]).same

theorem upholds_resetLearning (h : Upholds s t) (k : Tank) : Upholds s (resetLearning k t) := upholds_withRecord h k id

theorem upholds_clearRun (h : Upholds s t) (k : Tank) : Upholds s (clearRun k t) := h.same

theorem upholds_hardWater (h : Upholds s t) (k : Tank) : Upholds s (hardWater k t) :=
  .ite (fun _ => upholds_post (upholds_withRecord h k (r := { t.record k with hardPosted := true }) id) _ _ _ _ _) fun _ => h

theorem upholds_depleteTank (h : Upholds s t) (k : Tank) (v : Nat) : Upholds s (depleteTank k v t) :=
  have h' := upholds_withRecord h k fun w => CapacityRecord.deplete_wf w t.cap.hEff v
  .ite (fun _ => upholds_hardWater h' k) fun _ => h'

theorem upholds_frontDetected (h : Upholds s t) (k : Tank) : Upholds s (frontDetected k t) :=
  .ite (fun _ => upholds_hardWater (upholds_post (upholds_withRecord (upholds_clearRun h k) k
    fun _ => CapacityRecord.front_wf _ _) _ _ _ _ _) k) fun _ => h

theorem upholds_probeCount (h : Upholds s t) (k : Tank) (x : Int) : Upholds s (probeCount k x t) :=
  upholds_frontDetected h.same k

theorem upholds_probeSample (h : Upholds s t) (k : Tank) (x : Int) : Upholds s (probeSample k x t) :=
  .ite (fun _ => .ite (fun _ => upholds_clearRun h k) fun _ => upholds_faultReport h.same _ _ _)
    fun _ => .ite (fun _ => upholds_probeCount (upholds_faultGone h.same _ _) k x) fun _ => upholds_probeCount h k x

theorem upholds_probeSecond (h : Upholds s t) (k : Tank) (x : Int) : Upholds s (probeSecond k x t) :=
  .ite (fun _ => upholds_probeSample h k x) fun _ => h

theorem upholds_probeFaultGone (h : Upholds s t) (k : Tank) : Upholds s (probeFaultGone k t) :=
  .ite (fun _ => upholds_faultGone h.same _ _) fun _ => h

theorem upholds_probeDepthChanged (h : Upholds s t) : Upholds s (probeDepthChanged t) :=
  have h' : Upholds s { t with cap := { t.cap with runs := ⟨0, 0⟩ } } := h.same
  .ite (fun _ => upholds_probeFaultGone (upholds_probeFaultGone h' .a) .b) fun _ => h'

theorem upholds_recomputeHardness (h : Upholds s t) : Upholds s (recomputeHardness t) := h.same

theorem upholds_capacityRestart (h : Upholds s t) : Upholds s (capacityRestart t) :=
  upholds_faultGone (upholds_faultGone h.same _ _) _ _

/-! ### The Brine Monitor -/

theorem upholds_saltReminder (h : Upholds s t) (n : Nat) : Upholds s (saltReminder n t) := upholds_post h _ _ _ _ _

theorem upholds_forecastReminder (h : Upholds s t) : Upholds s (forecastReminder t) := by
  refine .ite (fun _ => h) fun _ => ?_
  split
  · exact .ite (fun _ => .ite (fun _ => (upholds_saltReminder h 2).same) fun _ => h) fun _ => h.same
  · exact h.same

theorem upholds_setSalt (h : Upholds s t) (n : SaltState) : Upholds s (setSalt n t) :=
  have h' := upholds_post (h.same (u := { t with brine := { t.brine with salt := n } }) rfl)
  .ite (fun _ => h) fun _ => .ite (fun _ => (upholds_saltReminder (h' _ _ _ _ _) 0).same) fun _ => h' _ _ _ _ _

theorem upholds_evaluateSaltMass (h : Upholds s t) : Upholds s (evaluateSaltMass t) :=
  .ite (fun _ => h) fun _ => upholds_setSalt h _

theorem upholds_inventoryChanged (h : Upholds s t) (n : Nat) : Upholds s (inventoryChanged n t) :=
  .ite (fun _ => h) fun _ => upholds_forecastReminder (upholds_evaluateSaltMass h)

theorem upholds_judgeDraw (h : Upholds s t) : Upholds s (judgeDraw t) := by
  unfold judgeDraw
  split
  · exact h
  · exact .ite (fun _ => h.same) fun _ => .ite (fun _ => upholds_faultReport h.same _ _ _)
      fun _ => upholds_faultGone h.same _ _

theorem upholds_brineEnd (h : Upholds s t) : Upholds s (brineEnd t) := by
  unfold brineEnd
  split <;> exact h.same

theorem upholds_refillEnd (h : Upholds s t) : Upholds s (refillEnd t) := by
  unfold refillEnd
  split <;> exact h.same

theorem upholds_refillSecond (h : Upholds s t) (v : Nat) : Upholds s (refillSecond v t) := by
  refine .ite (fun _ => ?_) fun _ => h
  split
  · exact h.same
  · exact .ite (fun _ => h.same) fun _ => h

theorem upholds_brineRegenEnd (h : Upholds s t) : Upholds s (brineRegenEnd t) :=
  upholds_forecastReminder (upholds_evaluateSaltMass h.same)

theorem upholds_levelSample (h : Upholds s t) (x : Int) : Upholds s (levelSample x t) :=
  .ite (fun _ => .ite (fun _ => upholds_faultGone h.same _ _) fun _ => h.same)
    fun _ => .ite (fun _ => h) fun _ => upholds_faultReport h.same _ _ _

theorem upholds_levelSecond (h : Upholds s t) (x : Int) : Upholds s (levelSecond x t) :=
  .ite (fun _ => upholds_levelSample h.same x) fun _ => h

theorem upholds_fillDetection (h : Upholds s t) (n : Nat) : Upholds s (fillDetection n t) := by
  unfold fillDetection
  split
  · exact upholds_inventoryChanged h.same _
  · exact .ite (fun _ => upholds_inventoryChanged (upholds_post h.same _ _ _ _ _) _) fun _ => h

theorem upholds_bridgeReference (h : Upholds s t) (n : Nat) : Upholds s (bridgeReference n t) := by
  unfold bridgeReference
  split
  · exact h.same
  · exact .ite (fun _ => h.same) fun _ => h

theorem upholds_bridgeTest (h : Upholds s t) (n : Nat) : Upholds s (bridgeTest n t) := by
  unfold bridgeTest
  split
  · exact h
  · exact .ite (fun _ => upholds_post h.same _ _ _ _ _) fun _ => h

theorem upholds_goodReading (h : Upholds s t) (d : Nat) : Upholds s (goodReading d t) :=
  have ended := Upholds.ite (c := t.brine.saltFault = true) (fun _ => upholds_faultGone
    (h.same (u := { t with brine := { t.brine with saltFault := false } }) ) .saltSensor .none) fun _ => h
  have judged := upholds_setSalt ((upholds_bridgeReference (upholds_fillDetection ended _) _).same) _
  .ite (fun _ => upholds_bridgeTest (judged.same) _) fun _ => judged

theorem upholds_saltReading (h : Upholds s t) (x : Int) : Upholds s (saltReading x t) :=
  .ite (fun _ => upholds_goodReading h _) fun _ => .ite (fun _ => h) fun _ => upholds_faultReport h.same _ _ _

theorem upholds_saltSecond (h : Upholds s t) (x : Int) : Upholds s (saltSecond x t) :=
  .ite (fun _ => .ite (fun _ => upholds_saltReading h.same x) fun _ => h.same) fun _ => h

theorem upholds_postReading (h : Upholds s t) (x : Int) : Upholds s (postReading x t) :=
  .ite (fun _ => upholds_saltReading h.same x) fun _ => h

theorem upholds_capacityClamp (h : Upholds s t) : Upholds s (capacityClamp t) := upholds_inventoryChanged h.same _

theorem upholds_sensorFittedChanged (h : Upholds s t) : Upholds s (sensorFittedChanged t) :=
  .ite (fun _ => h) fun _ => upholds_evaluateSaltMass
    (.ite (fun _ => upholds_faultGone h.same _ _) fun _ => h)

theorem upholds_saltFilledEffect (h : Upholds s t) (g : BitVec 32) : Upholds s (saltFilledEffect g t) :=
  .ite (fun _ => upholds_evaluateSaltMass h.same)
    fun _ => upholds_forecastReminder (upholds_evaluateSaltMass h.same)

theorem upholds_repeatReminder (h : Upholds s t) : Upholds s (repeatReminder t) :=
  .ite (fun _ => h) fun _ => .ite (fun _ => h.same) fun _ => .ite (fun _ => (upholds_saltReminder h 1).same) fun _ => h

theorem upholds_brineMidnight (h : Upholds s t) : Upholds s (brineMidnight t) :=
  upholds_forecastReminder (upholds_repeatReminder h)

theorem upholds_brineRestart (h : Upholds s t) (cold : Bool) : Upholds s (brineRestart cold t) :=
  upholds_faultGone (upholds_faultGone h.same _ _) _ _

/-! ### The Disc Positioner -/

theorem upholds_discRequest (h : Upholds s t) (p : Pos) : Upholds s (discRequest p t) := by
  unfold discRequest
  split <;> exact h.same

theorem upholds_failedMove (h : Upholds s t) : Upholds s (failedMove t) :=
  have one {t : State} (h : Upholds s t) (k : Tank) : Upholds s
      (if (t.tank k).service = .regenerating then changeTank k { t.tank k with service := .faulted } t else t) :=
    .ite (fun _ => upholds_changeTank h k _) fun _ => h
  .ite (fun _ => h) fun _ => one (one h .a) .b

theorem upholds_moveResumed (h : Upholds s t) : Upholds s (moveResumed t) :=
  have one {t : State} (h : Upholds s t) (k : Tank) : Upholds s
      (if (t.tank k).service = .faulted then changeTank k { t.tank k with service := .regenerating } t else t) :=
    .ite (fun _ => upholds_changeTank h k _) fun _ => h
  one (one h .a) .b

theorem upholds_discFaultReports (h : Upholds s t) (d : Disc) (c : FaultCode) : Upholds s (discFaultReports d c t) := by
  unfold discFaultReports
  refine upholds_requestDoneIf ?_ _ _ _ _ _
  split
  · exact upholds_failedMove h
  · exact .ite (fun _ => upholds_requestDone h _ _ _ _ _) fun _ => h
  · exact h

theorem upholds_discFault (h : Upholds s t) (c : FaultCode) (d : Int) : Upholds s (discFault c d t) :=
  upholds_discFaultReports (upholds_faultReport h.same _ _ _) _ c

theorem upholds_discRestart (h : Upholds s t) : Upholds s (discRestart t) :=
  (upholds_faultGone (upholds_faultGone (upholds_faultGone (upholds_faultGone h .discStall .none) .discCode .none)
    .discMissed .none) .discTimeout .none).same

/-! ### Scheduling -/

theorem upholds_defer (h : Upholds s t) (k : Tank) (r : DeferReason) : Upholds s (defer k r t) :=
  .ite (fun _ => h) fun _ => upholds_post1 (upholds_withTank h k _) _ _ _

/-- A REGEN entry that is not granted, or none, gives the line no owner. -/
theorem Line.oneOwner_regen {l : Line} (h : l.oneOwner = true) {r : Option RegenEntry} (hr : ({ l with regen := r } : Line).regenGranted = false) :
    ({ l with regen := r } : Line).oneOwner = true := by
  simp only [Line.oneOwner, hr, Bool.and_eq_true] at h ⊢
  exact ⟨⟨rfl, rfl⟩, h.2⟩

/-- A FLUSH entry that is not granted, or none, gives the line no owner. -/
theorem Line.oneOwner_flush {l : Line} (h : l.oneOwner = true) {r : Option FlushEntry} (hr : ({ l with flush := r } : Line).flushGranted = false) :
    ({ l with flush := r } : Line).oneOwner = true := by
  simp only [Line.oneOwner, hr, Bool.and_eq_true, Bool.and_false, Bool.false_and] at h ⊢
  exact ⟨⟨rfl, h.1.2⟩, rfl⟩

/-- A TEST entry that is not granted, or none, gives the line no owner. -/
theorem Line.oneOwner_test {l : Line} (h : l.oneOwner = true) {r : Option TestEntry} (hr : ({ l with test := r } : Line).testGranted = false) :
    ({ l with test := r } : Line).oneOwner = true := by
  simp only [Line.oneOwner, hr, Bool.and_eq_true, Bool.and_false] at h ⊢
  exact ⟨⟨h.1.1, rfl⟩, rfl⟩

theorem upholds_regenEntry (h : Upholds s t) {r : Option RegenEntry}
    (hr : ({ t.line with regen := r } : Line).regenGranted = false) : Upholds s { t with line := { t.line with regen := r } } :=
  { h with owner := fun w => Line.oneOwner_regen (h.owner w) hr }

theorem upholds_flushEntry (h : Upholds s t) {r : Option FlushEntry}
    (hr : ({ t.line with flush := r } : Line).flushGranted = false) : Upholds s { t with line := { t.line with flush := r } } :=
  { h with owner := fun w => Line.oneOwner_flush (h.owner w) hr }

theorem upholds_testEntry (h : Upholds s t) {r : Option TestEntry}
    (hr : ({ t.line with test := r } : Line).testGranted = false) : Upholds s { t with line := { t.line with test := r } } :=
  { h with owner := fun w => Line.oneOwner_test (h.owner w) hr }

theorem upholds_withdrawRegen (h : Upholds s t) (k : Tank) : Upholds s (withdrawRegen k t) := by
  have h' : Upholds s (match t.line.regen with
      | some e => if e.tank = k ∧ e.granted = false then { t with line := { t.line with regen := none } } else t
      | none => t) := by
    split
    · exact .ite (fun _ => upholds_regenEntry h rfl) fun _ => h
    · exact h
  exact .ite (fun _ => upholds_withTank h' k _) fun _ => h'

theorem upholds_askProjection (h : Upholds s t) (k : Tank) : Upholds s (askProjection k t) := by
  unfold askProjection
  split
  · dsimp only
    split <;> exact h.same
  · exact h

theorem upholds_forceUrgent (h : Upholds s t) (k : Tank) : Upholds s (forceUrgent k t) := h.same

theorem upholds_stepStarted (h : Upholds s t) (k : Tank) (n : Step) : Upholds s (stepStarted k n t) := by
  cases n <;> exact h.same

theorem upholds_enterOtherStep (h : Upholds s t) (k : Tank) (n : Step) : Upholds s (enterOtherStep k n t) :=
  upholds_stepStarted (upholds_changeTank (.ite (fun _ => upholds_brineEnd h) fun _ => h) k _) k n

theorem upholds_stepArrival (h : Upholds s t) (k : Tank) (n : Step) : Upholds s (stepArrival k n t) :=
  .ite (fun _ => .ite (fun _ => upholds_stepStarted (upholds_changeTank h k _) k n) fun _ => upholds_changeTank h k _)
    fun _ => upholds_enterOtherStep h k n

theorem upholds_changeArrival (h : Upholds s t) (k : Tank) : Upholds s (changeArrival k t) :=
  (upholds_changeTank h k.other _).same

theorem upholds_changeoverBegin (h : Upholds s t) : Upholds s (changeoverBegin t) := by
  unfold changeoverBegin
  split
  · exact h
  · exact .ite (fun _ => .ite (fun _ => upholds_changeArrival (upholds_discRequest h.same _) _)
      fun _ => upholds_discRequest h.same _) fun _ => h

theorem upholds_changeoverPending (h : Upholds s t) (k : Tank) : Upholds s (changeoverPending k t) :=
  .ite (fun _ => upholds_forceUrgent (upholds_post1 h _ _ _) _) fun _ => upholds_post1 h _ _ _

theorem upholds_takeExhaustion (h : Upholds s t) (k : Tank) : Upholds s (takeExhaustion k t) :=
  .ite (fun _ => .ite (fun _ => upholds_changeoverBegin h.same) fun _ => upholds_changeoverPending h.same k)
    fun _ => h

theorem upholds_deferFailing (h : Upholds s t) (k : Tank) : Upholds s (deferFailing k t) := by
  unfold deferFailing
  generalize startConditions k t = l
  induction l generalizing t with
  | nil => exact h
  | cons c l ih => exact ih (.ite (fun _ => h) fun _ => upholds_defer h k c.2)

theorem upholds_manualReported (h : Upholds s t) : Upholds s (manualReported t) :=
  have one {t : State} (h : Upholds s t) (k : Tank) : Upholds s (if ((withdrawRegen k t).tank k).service = .exhausted then
      defer k .manual (withdrawRegen k t) else withdrawRegen k t) :=
    .ite (fun _ => upholds_defer (upholds_withdrawRegen h k) k _) fun _ => upholds_withdrawRegen h k
  one (one h .a) .b

theorem upholds_applyManual (h : Upholds s t) : Upholds s (applyManual t) :=
  .ite (fun _ => upholds_manualReported h.same) fun _ => h


/-! ### The Filter Monitor -/

theorem upholds_pressureSample (h : Upholds s t) (n : Fin 3) (x : Int) : Upholds s (pressureSample n x t) :=
  .ite (fun _ => .ite (fun _ => upholds_faultGone h.same _ _) fun _ => h.same)
    fun _ => .ite (fun _ => h) fun _ => upholds_faultReport h.same _ _ _

theorem upholds_setFilter (h : Upholds s t) (n : FilterState) : Upholds s (setFilter n t) :=
  .ite (fun _ => h) fun _ => upholds_post h.same _ _ _ _ _

theorem upholds_filterEvaluateNow (h : Upholds s t) : Upholds s (filterEvaluateNow t) := upholds_setFilter h _

theorem upholds_filterEvaluate (h : Upholds s t) : Upholds s (filterEvaluate t) :=
  .ite (fun _ => h) fun _ => upholds_filterEvaluateNow h

theorem upholds_cartridgeDue (h : Upholds s t) (n : Nat) (c : Bool) : Upholds s (cartridgeDue n c t) :=
  .ite (fun _ => upholds_post h.same _ _ _ _ _) fun _ => h

theorem upholds_cartridgeFittedEffect (h : Upholds s t) : Upholds s (cartridgeFittedEffect t) := upholds_filterEvaluate h.same

theorem upholds_baselineSet (h : Upholds s t) : Upholds s (baselineSet t) :=
  .ite (fun _ => upholds_cartridgeDue (upholds_filterEvaluate h.same) _ _) fun _ => h

theorem upholds_indexSecond (h : Upholds s t) (q : Nat) : Upholds s (indexSecond q t) :=
  .ite (fun _ => .ite (fun _ => upholds_baselineSet h.same) fun _ => upholds_filterEvaluate h.same) fun _ => h.same

theorem upholds_flushVolumeReached (h : Upholds s t) : Upholds s (flushVolumeReached t) := .ite (fun _ => h.same) fun _ => h

theorem upholds_screenSecond (h : Upholds s t) (v q : Nat) : Upholds s (screenSecond v q t) :=
  upholds_cartridgeDue (upholds_flushVolumeReached h.same) _ _

theorem upholds_filterMidnight (h : Upholds s t) : Upholds s (filterMidnight t) := upholds_cartridgeDue h.same _ _

theorem upholds_flushStart (h : Upholds s t) : Upholds s (flushStart t) :=
  (upholds_setFilter (t := { t with filter := { t.filter with
    flush := { elapsed := 0, volume := 0, time := t.settings.user.filter.flushTime, startIndex := t.filter.rs }
    solenoid := true } }) h.same .flushing).same

theorem upholds_flushSecond (h : Upholds s t) (v : Nat) : Upholds s (flushSecond v t) := .ite (fun _ => h.same) fun _ => h

theorem upholds_dropFlush (h : Upholds s t) : Upholds s (dropFlush t) := .ite (fun _ => upholds_flushEntry h rfl) fun _ => h

theorem upholds_flushCut (h : Upholds s t) : Upholds s (flushCut t) :=
  .ite (fun _ => upholds_post (upholds_dropFlush (upholds_filterEvaluateNow h.same)) _ _ _ _ _) fun _ => h

theorem upholds_filterRestart (h : Upholds s t) : Upholds s (filterRestart t) :=
  have gone := upholds_faultGone (upholds_faultGone (upholds_faultGone h .pressureSensor (.sensor 0)) .pressureSensor (.sensor 1))
    .pressureSensor (.sensor 2)
  .ite (fun _ => upholds_filterEvaluateNow gone.same) fun _ => gone.same

/-! ### The Shutoff Controller -/

/-- A stopped motor meets the promise of R141 in every state. -/
theorem Valve.wf_of_stopped {v : Valve} (h : v.drive = .stopped) : v.wf := fun _ => h

/-- A travelling valve meets it whatever its motor does. -/
theorem Valve.wf_of_travelling {v : Valve} {e : ValveEnd} (h : v.state = travelState e) : v.wf := by
  cases e <;> simp [Valve.wf, h, travelState]

/-- The valve takes a state that its motor fits, whatever it was before. -/
theorem upholds_valveChange (h : Upholds s t) {x : Valve} {v : ValveState}
    (hx : s.valve.wf → ({ x with state := v } : Valve).wf) : Upholds s (valveChange v { t with valve := x }) := by
  have h' : Upholds s { t with valve := { x with state := v } } := { h with valve := hx }
  unfold valveChange
  dsimp only
  split
  next he =>
    subst he
    exact h'
  next =>
    exact .ite (fun _ => upholds_flushCut (upholds_post h' _ _ _ _ _)) fun _ => upholds_post h' _ _ _ _ _

theorem upholds_answerTag (h : Upholds s t) : Upholds s (answerTag t) := by
  have h' : Upholds s { t with valve := { t.valve with tag := none } } := { h with valve := h.valve }
  unfold answerTag
  split
  · exact h
  · dsimp only
    split
    · exact .ite (fun _ => h) fun _ => upholds_requestDone h' _ _ _ _ _
    · exact .ite (fun _ => upholds_requestDone h' _ _ _ _ _) fun _ => h
    · exact upholds_requestDone h' _ _ _ _ _
    · exact h

theorem upholds_valveArrive (h : Upholds s t) (e : ValveEnd) : Upholds s (valveArrive e t) :=
  have h' := upholds_valveChange h (v := restState e) (x := { t.valve with
    drive := .stopped, pause := .none, second := false, retried := false
    exercise := if e = .openEnd ∧ t.valve.exercise = .openRun then .none else t.valve.exercise })
    fun _ => Valve.wf_of_stopped rfl
  upholds_answerTag (.ite (fun _ => upholds_faultGone h' _ _) fun _ => h')

theorem flushCut_valve (t : State) : (flushCut t).valve = t.valve := by
  unfold flushCut dropFlush filterEvaluateNow setFilter
  dsimp only
  repeat' split
  all_goals rfl

/-- A change of the valve's state changes nothing else of its record. -/
theorem valveChange_valve (v : ValveState) (t : State) : (valveChange v t).valve = { t.valve with state := v } := by
  unfold valveChange
  dsimp only
  repeat' split
  next he => exact he ▸ rfl
  next => exact flushCut_valve _
  next => rfl

/-- The motor starts after the valve has taken its travelling state. -/
theorem upholds_driveOff (h : Upholds s t) (e : ValveEnd) (x : Valve) :
    Upholds s (drive e (valveChange (travelState e) { t with valve := x })) where
  __ := (upholds_valveChange h (x := x) fun _ => Valve.wf_of_travelling (e := e) rfl : Upholds s _)
  valve := fun _ => Valve.wf_of_travelling (e := e) (by simp only [drive, valveChange_valve])

theorem upholds_driveOrArrive (h : Upholds s t) (e : ValveEnd) : Upholds s (driveOrArrive e t) :=
  .ite (fun _ => upholds_valveArrive h e) fun _ => upholds_driveOff h e t.valve

theorem upholds_beginTravel (h : Upholds s t) : Upholds s (beginTravel t) :=
  have h' : Upholds s { t with valve := { t.valve with second := false, retried := false } } := { h with valve := h.valve }
  upholds_driveOrArrive h' _

theorem upholds_reverseTravel (h : Upholds s t) : Upholds s (reverseTravel t) :=
  upholds_valveChange h fun _ => Valve.wf_of_stopped rfl

theorem upholds_exerciseCue (h : Upholds s t) : Upholds s (exerciseCue t) :=
  .ite (fun _ => { h with valve := h.valve }) fun _ => h

theorem upholds_exercisePassed (h : Upholds s t) : Upholds s (exercisePassed t) :=
  have h' : Upholds s { t with valve := { t.valve with exerciseDays := 0 } } := { h with valve := h.valve }
  upholds_faultGone h' _ _

theorem upholds_exerciseBegin (h : Upholds s t) : Upholds s (exerciseBegin t) :=
  upholds_valveChange h fun _ => Valve.wf_of_travelling (e := .closedEnd) rfl

theorem upholds_closeRunEnd (h : Upholds s t) (ms : Nat) : Upholds s (closeRunEnd ms t) :=
  have h' : Upholds s { t with valve := { t.valve with
      drive := .stopped, pause := .reversal, second := false, exercise := .openRun, exerciseTime := ms } } :=
    { h with valve := fun _ => Valve.wf_of_stopped rfl }
  .ite (fun _ => .ite (fun _ => upholds_exercisePassed h') fun _ => upholds_faultReport h' _ _ _) fun _ => h

theorem upholds_closeRunTravels (h : Upholds s t) : Upholds s (closeRunTravels t) :=
  have h1 : Upholds s { t with valve := { t.valve with exercise := .none, second := false } } := { h with valve := h.valve }
  have h2 := Upholds.ite (c := t.valve.released = true) (fun _ => upholds_exercisePassed h1) fun _ => h1
  .ite (fun _ => upholds_valveArrive h2 _) fun _ => h2

theorem upholds_targetBecameClosed (h : Upholds s t) : Upholds s (targetBecameClosed t) := by
  have h' : Upholds s { t with valve := { t.valve with exercise := .none } } := { h with valve := h.valve }
  unfold targetBecameClosed
  split
  · exact upholds_beginTravel h
  · exact upholds_closeRunTravels h
  · exact upholds_reverseTravel h'
  · exact upholds_reverseTravel h'
  · exact upholds_reverseTravel h
  · exact upholds_reverseTravel h
  · exact h
  · exact h

theorem upholds_reasons (h : Upholds s t) (r : Reasons) : Upholds s { t with valve := { t.valve with reasons := r } } :=
  { h with valve := h.valve }

theorem upholds_addReason (h : Upholds s t) (n : Reason) : Upholds s (addReason n t) :=
  .ite (fun _ => upholds_reasons h _) fun _ => upholds_targetBecameClosed (upholds_reasons h _)

theorem upholds_dropReason (h : Upholds s t) (n : Reason) : Upholds s (dropReason n t) := by
  have h' := upholds_reasons h (t.valve.reasons.put n false)
  refine .ite (fun _ => ?_) fun _ => h'
  split
  · exact upholds_beginTravel h'
  · exact upholds_reverseTravel h'
  · exact upholds_reverseTravel h'
  · exact h'

theorem upholds_valveStuckCore (h : Upholds s t) (c : StuckCause) (d : Int) : Upholds s (valveStuckCore c d t) :=
  upholds_answerTag (upholds_faultReport (upholds_valveChange h fun _ => Valve.wf_of_stopped rfl) _ _ _)

/-! ### The Process Line Arbiter -/

theorem upholds_askStepMove (h : Upholds s t) (k : Tank) (n : Step) : Upholds s (askStepMove k n t) :=
  .ite (fun _ => upholds_applyManual (upholds_stepArrival (upholds_discRequest h _) k n)) fun _ => upholds_discRequest h _

/-- A line without an owner has no granted entry. -/
theorem Line.owner_none {l : Line} (h : l.owner = .none) :
    l.regenGranted = false ∧ l.flushGranted = false ∧ l.testGranted = false := by
  unfold Line.owner at h
  cases hr : l.regenGranted <;> cases hf : l.flushGranted <;> cases ht : l.testGranted <;> simp_all

/-- On a line without an owner a REGEN entry may be granted. -/
theorem Line.oneOwner_grantRegen {l : Line} (h : l.owner = .none) (r : Option RegenEntry) :
    ({ l with regen := r } : Line).oneOwner = true := by
  obtain ⟨-, hf, ht⟩ := Line.owner_none h
  have hf' : ({ l with regen := r } : Line).flushGranted = false := hf
  have ht' : ({ l with regen := r } : Line).testGranted = false := ht
  simp [Line.oneOwner, hf', ht']

/-- On a line without an owner a FLUSH entry may be granted. -/
theorem Line.oneOwner_grantFlush {l : Line} (h : l.owner = .none) (r : Option FlushEntry) :
    ({ l with flush := r } : Line).oneOwner = true := by
  obtain ⟨hr, -, ht⟩ := Line.owner_none h
  have hr' : ({ l with flush := r } : Line).regenGranted = false := hr
  have ht' : ({ l with flush := r } : Line).testGranted = false := ht
  simp [Line.oneOwner, hr', ht']

/-- On a line without an owner a TEST entry may be granted. -/
theorem Line.oneOwner_grantTest {l : Line} (h : l.owner = .none) (r : Option TestEntry) :
    ({ l with test := r } : Line).oneOwner = true := by
  obtain ⟨hr, hf, -⟩ := Line.owner_none h
  have hr' : ({ l with test := r } : Line).regenGranted = false := hr
  have hf' : ({ l with test := r } : Line).flushGranted = false := hf
  simp [Line.oneOwner, hr', hf']

theorem upholds_grantRegen (h : Upholds s t) (ho : t.line.owner = .none) (e : RegenEntry) : Upholds s (grantRegen e t) :=
  have h' : Upholds s { t with line := { t.line with regen := some { e with granted := true } } } :=
    { h with owner := fun _ => Line.oneOwner_grantRegen ho _ }
  .ite (fun _ => upholds_askStepMove (upholds_changeTank h' _ _) _ _) fun _ => upholds_withTank h' _ _

theorem upholds_grantFlush (h : Upholds s t) (ho : t.line.owner = .none) (e : FlushEntry) : Upholds s (grantFlush e t) :=
  have h' : Upholds s { t with line := { t.line with flush := some { e with granted := true } } } :=
    { h with owner := fun _ => Line.oneOwner_grantFlush ho _ }
  upholds_flushStart h'

theorem upholds_testAccept (h : Upholds s t) : Upholds s (testAccept t) := upholds_addReason h.same _

theorem Line.owner_without_test {l : Line} (h : l.owner = .none) : ({ l with test := none } : Line).owner = .none := by
  obtain ⟨hr, hf, -⟩ := Line.owner_none h
  have hr' : ({ l with test := none } : Line).regenGranted = false := hr
  have hf' : ({ l with test := none } : Line).flushGranted = false := hf
  simp [Line.owner, hr', hf', Line.testGranted]

theorem upholds_grantTest (h : Upholds s t) (ho : t.line.owner = .none) : Upholds s (grantTest t) := by
  have granted : Upholds s { t with line := { t.line with test := some { granted := true } } } :=
    { h with owner := fun _ => Line.oneOwner_grantTest ho _ }
  have released := upholds_testEntry h (r := none) rfl
  refine .ite (fun _ => upholds_testAccept granted) fun _ => ?_
  dsimp only
  split
  · exact upholds_grantFlush released (Line.owner_without_test ho) _
  · exact released

theorem upholds_grantDecision (h : Upholds s t) : Upholds s (grantDecision t) := by
  refine .ite (fun hg => ?_) fun _ => h
  have ho : t.line.owner = .none := by
    simp only [grantAllowed, Bool.and_eq_true, beq_iff_eq] at hg
    exact hg.1.1
  split
  · exact h
  · exact upholds_grantRegen h ho _
  · exact upholds_grantFlush h ho _
  · exact upholds_grantTest h ho

theorem upholds_claimRegen (h : Upholds s t) (k : Tank) (c : Bool) : Upholds s (claimRegen k c t) := by
  have pend : Upholds s { t.withTank k { t.tank k with claim := .pending } with
      line := { t.line with regen := some { granted := false, tank := k, continuation := c } } } :=
    upholds_regenEntry (upholds_withTank h k { t.tank k with claim := .pending }) rfl
  unfold claimRegen
  split
  · exact upholds_grantDecision pend
  · exact .ite (fun _ => h) fun _ => pend

theorem upholds_claimFlush (h : Upholds s t) (hi : Bool) : Upholds s (claimFlush hi t) := by
  have pend : Upholds s { t with line := { t.line with flush := some { granted := false, high := hi } } } :=
    upholds_flushEntry h rfl
  unfold claimFlush
  split
  · exact upholds_grantDecision pend
  · exact .ite (fun _ => h) fun _ => .ite (fun _ => upholds_grantDecision pend) fun _ => pend

theorem upholds_claimTest (h : Upholds s t) : Upholds s (claimTest t) := by
  unfold claimTest
  split
  · exact upholds_grantDecision (upholds_testEntry h rfl)
  · exact h

theorem upholds_releaseRegen (h : Upholds s t) : Upholds s (releaseRegen t) :=
  .ite (fun _ => upholds_grantDecision (upholds_regenEntry h rfl)) fun _ => h

theorem upholds_releaseFlush (h : Upholds s t) : Upholds s (releaseFlush t) :=
  .ite (fun _ => upholds_grantDecision (upholds_flushEntry h rfl)) fun _ => h

theorem upholds_giveUpTest (h : Upholds s t) : Upholds s (giveUpTest t) :=
  .ite (fun _ => upholds_grantDecision (upholds_testEntry h rfl)) fun _ => upholds_testEntry h rfl

theorem upholds_keepClaim (h : Upholds s t) (k : Tank) : Upholds s (keepClaim k t) :=
  .ite (fun _ => upholds_claimRegen h k false) fun _ => h

theorem upholds_changeDecision (h : Upholds s t) : Upholds s (changeDecision t) :=
  upholds_grantDecision (upholds_keepClaim (upholds_keepClaim h .a) .b)

theorem upholds_openedDecision (h : Upholds s t) (old : State) : Upholds s (openedDecision old t) :=
  .ite (fun _ => upholds_changeDecision h) fun _ => h

theorem upholds_removeReason (h : Upholds s t) (n : Reason) : Upholds s (removeReason n t) :=
  upholds_openedDecision (upholds_dropReason h n) t

theorem upholds_flushOutcome (h : Upholds s t) : Upholds s (flushOutcome t) :=
  .ite (fun _ => upholds_faultGone (upholds_filterEvaluateNow h.same) _ _)
    fun _ => upholds_filterEvaluateNow (upholds_faultReport h.same _ _ _)

theorem upholds_answerFlush (h : Upholds s t) (d : Bool) : Upholds s (answerFlush d t) := upholds_requestDoneIf h.same _ _ _ _ _

theorem upholds_flushEnd (h : Upholds s t) : Upholds s (flushEnd t) :=
  .ite (fun _ => upholds_answerFlush (upholds_post (upholds_releaseFlush (upholds_flushOutcome h.same)) _ _ _ _ _) _) fun _ => h

theorem upholds_flushClaim (h : Upholds s t) : Upholds s (flushClaim t) := by
  unfold flushClaim
  dsimp only
  split
  · exact .ite (fun _ => upholds_claimFlush h true) fun _ => h
  · exact .ite (fun _ => upholds_claimFlush h _) fun _ => h

/-! ### The Regeneration Sequencer -/

theorem upholds_regenEnd (h : Upholds s t) (k : Tank) : Upholds s (regenEnd k t) :=
  upholds_changeoverBegin (upholds_requestDoneIf (upholds_withTank (upholds_post (upholds_releaseRegen (upholds_withdrawRegen
    (upholds_withTank (upholds_brineRegenEnd (upholds_creditTank (upholds_changeTank h k _) k _)) k _) k)) _ _ _ _ _) k _) _ _ _ _ _)

theorem upholds_holdArrival (h : Upholds s t) (k : Tank) (d : Nat) : Upholds s (holdArrival k d t) :=
  have arrived := upholds_changeTank (upholds_clearRun h k) k { t.tank k with service := .exhausted }
  have told := upholds_post2 (arrived.same (u := { changeTank k { t.tank k with service := .exhausted } (clearRun k t) with seq :=
    { (changeTank k { t.tank k with service := .exhausted } (clearRun k t)).seq with changeover := none } })) _ _ _ _
  upholds_askProjection (upholds_requestDoneIf (upholds_withTank told k _) _ _ _ _ _) k

theorem upholds_commission (h : Upholds s t) (p : Pos) : Upholds s (commission p t) :=
  .ite (fun _ => upholds_changeTank h _ _) fun _ => h

theorem upholds_sequencerArrival (h : Upholds s t) (p : Pos) : Upholds s (sequencerArrival p t) := by
  unfold sequencerArrival
  split
  · split
    · exact .ite (fun _ => upholds_changeArrival h _) fun _ => h
    · exact h
    · exact .ite (fun _ => upholds_holdArrival h _ _) fun _ => h
  · split
    · refine .ite (fun _ => .ite (fun _ => upholds_regenEnd h _) fun _ => h) fun _ => ?_
      split
      · exact upholds_stepArrival h _ _
      · exact h
    · exact upholds_commission h p

theorem upholds_askMove (h : Upholds s t) (p : Pos) : Upholds s (askMove p t) :=
  .ite (fun _ => upholds_applyManual (upholds_sequencerArrival (upholds_discRequest h p) p)) fun _ => upholds_discRequest h p

theorem upholds_recoverChangeover (h : Upholds s t) (c : Changeover) (x : Pos) : Upholds s (recoverChangeover c x t) := by
  unfold recoverChangeover
  split
  · exact upholds_askMove h _
  · exact .ite (fun _ => h) fun _ => upholds_askMove h.same _
  · exact upholds_askMove h _

theorem upholds_recoverRegeneration (h : Upholds s t) (k : Tank) (x : Pos) : Upholds s (recoverRegeneration k x t) := by
  unfold recoverRegeneration
  split
  · exact upholds_askMove h _
  · exact .ite (fun _ => .ite (fun _ => upholds_stepArrival h _ _) fun _ => h) fun _ => upholds_enterOtherStep h _ _

theorem upholds_recoverService (h : Upholds s t) (x : Pos) : Upholds s (recoverService x t) :=
  .ite (fun _ => upholds_commission h x) fun _ => upholds_askMove h _

theorem upholds_recoveryPass (h : Upholds s t) : Upholds s (recoveryPass t) := by
  unfold recoveryPass
  split
  · exact h
  · split
    · exact upholds_recoverChangeover h _ _
    · split
      · exact .ite (fun _ => upholds_askMove h _) fun _ => upholds_recoverRegeneration h _ _
      · exact upholds_recoverService h _

theorem upholds_modeChange (h : Upholds s t) : Upholds s (modeChange t) :=
  .ite (fun _ => upholds_recoveryPass h.same) fun _ => upholds_applyManual h

theorem upholds_restartPosition (h : Upholds s t) (p : Pos) : Upholds s (restartPosition p t) :=
  have h' : Upholds s (if commissioning t then { t with seq := { t.seq with
      chosen := (servicePosition (firstForward (fun q => (servicePosition q).isSome) 14 p)).getD .a } } else t) :=
    .ite (fun _ => h.same) fun _ => h
  .ite (fun _ => upholds_recoveryPass h') fun _ => h'

theorem upholds_discArrival (h : Upholds s t) (p : Pos) : Upholds s (discArrival p t) := by
  have placed : Upholds s { t with disc := { t.disc.arrive with position := some p, retriedFault := none } } := h.same
  refine upholds_modeChange ?_
  have reported : Upholds s (match t.disc.requester with
      | some .sequencer => sequencerArrival p { t with disc := { t.disc.arrive with position := some p, retriedFault := none } }
      | some (.discStep tag) => if t.disc.retryTag.isNone then requestDone .none tag kindDiscStep .done 0
          { t with disc := { t.disc.arrive with position := some p, retriedFault := none } }
        else { t with disc := { t.disc.arrive with position := some p, retriedFault := none } }
      | some .restart => restartPosition p { t with disc := { t.disc.arrive with position := some p, retriedFault := none } }
      | none => { t with disc := { t.disc.arrive with position := some p, retriedFault := none } }) := by
    split
    · exact upholds_sequencerArrival placed p
    · exact .ite (fun _ => upholds_requestDone placed _ _ _ _ _) fun _ => placed
    · exact upholds_restartPosition placed p
    · exact placed
  split
  · exact upholds_faultGone (upholds_requestDoneIf reported _ _ _ _ _) _ _
  · exact upholds_requestDoneIf reported _ _ _ _ _

theorem upholds_inPlaceSet (h : Upholds s t) (c : BitVec 4) : Upholds s (inPlaceSet c t) := by
  refine .ite (fun _ => h) fun _ => .ite (fun _ => ?_) fun _ => h.same
  split
  · exact upholds_discArrival h.same _
  · exact h.same
  · exact upholds_discFault h.same _ _

theorem upholds_inPlaceClear (h : Upholds s t) : Upholds s (inPlaceClear t) :=
  .ite (fun _ => .ite (fun _ => h.same) fun _ => h.same) fun _ => h

theorem upholds_discObserved (h : Upholds s t) (lit : Bool) (c : BitVec 4) : Upholds s (discObserved lit c t) := by
  refine .ite (fun _ => .ite (fun _ => ?_) fun _ => h.same) fun _ => h
  dsimp only
  split
  · exact upholds_modeChange (upholds_restartPosition h.same _)
  · exact upholds_discFault h.same _ _

theorem upholds_discTimeout (h : Upholds s t) : Upholds s (discTimeout t) :=
  .ite (fun _ => upholds_discFault h.same _ _) fun _ => h

theorem upholds_discStall (h : Upholds s t) : Upholds s (discStall t) :=
  .ite (fun _ => upholds_discFault h.same _ _) fun _ => h

theorem upholds_retryMove (h : Upholds s t) (g : Byte) : Upholds s (retryMove g t) := by
  have resumed (x : Option Pos) : Upholds s (if t.disc.requester = some .sequencer then moveResumed { t with disc := { t.disc with
      retryTag := some g, retriedFault := t.disc.fault.map Prod.fst, fault := none, position := x } }
      else { t with disc := { t.disc with
      retryTag := some g, retriedFault := t.disc.fault.map Prod.fst, fault := none, position := x } }) :=
    .ite (fun _ => upholds_moveResumed h.same) fun _ => h.same
  unfold retryMove
  dsimp only
  split
  · exact .ite (fun _ => upholds_discArrival (resumed _) _) fun _ => Upholds.same (resumed _) rfl
  · exact Upholds.same (resumed _) rfl

theorem upholds_stepReported (h : Upholds s t) (n : Option Step) : Upholds s (stepReported n t) := by
  unfold stepReported
  split
  · exact upholds_brineEnd h
  · exact upholds_refillEnd h
  · exact h

theorem upholds_phaseAfter (h : Upholds s t) (k : Tank) : Upholds s (phaseAfter k t) :=
  .ite (fun _ => upholds_requestDoneIf (upholds_changeTank h k _) _ _ _ _ _) fun _ => upholds_changeTank h k _

theorem upholds_skipStep (h : Upholds s t) (k : Tank) : Upholds s (skipStep k t) :=
  upholds_phaseAfter (upholds_stepReported h _) k

theorem upholds_endStep (h : Upholds s t) (k : Tank) : Upholds s (endStep k t) :=
  upholds_skipStep (.ite (fun _ => .ite (fun _ => upholds_faultGone h _ _) fun _ => upholds_faultReport h _ _ _) fun _ => h) k

theorem upholds_stepEnd (h : Upholds s t) (k : Tank) : Upholds s (stepEnd k t) := .ite (fun _ => upholds_endStep h k) fun _ => h

theorem upholds_brine1200 (h : Upholds s t) (k : Tank) : Upholds s (brine1200 k t) :=
  .ite (fun _ => upholds_judgeDraw h) fun _ => h

theorem upholds_stepSecond (h : Upholds s t) (k : Tank) : Upholds s (stepSecond k t) :=
  .ite (fun _ => upholds_stepEnd (upholds_brine1200 (upholds_withTank h k _) k) k) fun _ => h

theorem upholds_stepMove (h : Upholds s t) (k : Tank) : Upholds s (stepMove k t) := by
  refine .ite (fun _ => ?_) fun _ => h
  split
  · exact h
  · split
    · exact upholds_askMove (upholds_changeTank h k _) _
    · exact upholds_askMove (upholds_changeTank h k _) _

theorem upholds_dwellEnd (h : Upholds s t) : Upholds s (dwellEnd t) := by
  unfold dwellEnd
  split
  · exact .ite (fun _ => upholds_askMove h.same _) fun _ => h
  · exact h

theorem upholds_dwellSecond (h : Upholds s t) : Upholds s (dwellSecond t) := by
  unfold dwellSecond
  split
  · exact .ite (fun _ => upholds_dwellEnd h.same) fun _ => h
  · exact h

theorem upholds_changeoverMove (h : Upholds s t) : Upholds s (changeoverMove t) := by
  unfold changeoverMove
  split
  · split
    · exact .ite (fun _ => upholds_askMove h _) fun _ => h
    · exact h
    · exact .ite (fun _ => upholds_askMove h _) fun _ => h
  · exact h

theorem upholds_firstMove (h : Upholds s t) (k : Tank) : Upholds s (firstMove k t) := by
  unfold firstMove
  dsimp only
  split
  · exact .ite (fun _ => upholds_askStepMove h k _) fun _ => h
  · exact h

theorem upholds_waitingMoves (h : Upholds s t) : Upholds s (waitingMoves t) :=
  upholds_stepMove (upholds_stepMove (upholds_firstMove (upholds_firstMove (upholds_changeoverMove h) .a) .b) .a) .b

theorem upholds_regenClaim (h : Upholds s t) (k : Tank) : Upholds s (regenClaim k t) :=
  .ite (fun _ => upholds_keepClaim h k) fun _ => .ite (fun _ => upholds_deferFailing (upholds_withdrawRegen h k) k) fun _ => h

theorem upholds_lineBusy (h : Upholds s t) (k : Tank) : Upholds s (lineBusy k t) :=
  .ite (fun _ => upholds_defer h k _) fun _ => h

theorem upholds_suspension (h : Upholds s t) (k : Tank) : Upholds s (suspension k t) := upholds_changeTank h k _

theorem upholds_standing (h : Upholds s t) : Upholds s (standing t) :=
  upholds_suspension (upholds_suspension (upholds_flushClaim (upholds_regenClaim (upholds_regenClaim
    (upholds_stepMove (upholds_stepMove h .a) .b) .a) .b)) .a) .b

theorem upholds_follow (h : Upholds s t) : Upholds s (follow t) := .ite (fun _ => h) fun _ => upholds_standing h

theorem upholds_calendarFallback (h : Upholds s t) : Upholds s (calendarFallback t) := by
  refine .ite (fun _ => ?_) fun _ => h
  dsimp only
  split
  · exact upholds_takeExhaustion h.same _
  · exact h.same

theorem upholds_calendarSecond (h : Upholds s t) : Upholds s (calendarSecond t) :=
  .ite (fun _ => upholds_calendarFallback h.same) fun _ => h

theorem upholds_serviceHour (h : Upholds s t) (k : Tank) : Upholds s (serviceHour k t) :=
  .ite (fun _ => upholds_withTank h k _) fun _ => h

theorem upholds_maxServiceDays (h : Upholds s t) : Upholds s (maxServiceDays t) := by
  unfold maxServiceDays
  dsimp only
  split
  · exact .ite (fun _ => upholds_takeExhaustion h _) fun _ => h
  · exact h

theorem upholds_projectionHour (h : Upholds s t) (k : Tank) : Upholds s (projectionHour k t) :=
  .ite (fun _ => upholds_askProjection h k) fun _ => h

theorem upholds_sequencerHour (h : Upholds s t) : Upholds s (sequencerHour t) :=
  upholds_projectionHour (upholds_projectionHour (upholds_maxServiceDays (upholds_serviceHour
    (upholds_serviceHour h .a) .b)) .a) .b

theorem upholds_sequencerSecond (h : Upholds s t) : Upholds s (sequencerSecond t) :=
  upholds_changeoverBegin (upholds_waitingMoves (upholds_dwellSecond (upholds_stepSecond (upholds_stepSecond
    (upholds_lineBusy (upholds_lineBusy h.same .a) .b) .a) .b)))

theorem upholds_waitingChangeover (h : Upholds s t) (k : Tank) (r : Bool) : Upholds s (waitingChangeover k r t) :=
  have told := Upholds.ite (c := r = true)
    (fun _ => upholds_post1 h .changeoverPending (.tank k.other) (serviceCode (t.tank k).service)) fun _ => h
  .ite (fun _ => .ite (fun _ => upholds_forceUrgent told k) fun _ => told) fun _ => h

theorem upholds_madeExhausted (h : Upholds s t) (k : Tank) : Upholds s (madeExhausted k t) :=
  upholds_waitingChangeover (upholds_askProjection (upholds_changeTank h k _) k) k _

theorem upholds_madeDisabled (h : Upholds s t) (k : Tank) : Upholds s (madeDisabled k t) :=
  upholds_waitingChangeover (upholds_requestDoneIf (upholds_disableCapacity (upholds_changeTank
    (upholds_withdrawRegen h k) k _) k) _ _ _ _ _) k _

theorem upholds_vrChanged (h : Upholds s t) (k : Tank) (v : Nat) : Upholds s (vrChanged k v t) := by
  have h' := upholds_resetLearning h k
  unfold vrChanged
  dsimp only
  split
  · exact h'
  · exact .ite (fun _ => upholds_madeDisabled h' k) fun _ => upholds_madeExhausted h' k
  · exact .ite (fun _ => upholds_madeDisabled h' k) fun _ => h'
  · exact .ite (fun _ => h') fun _ => upholds_madeExhausted h' k
  · exact h'

end
end Sys2Proof.Machine

/-! What the operations of the metering second, of the valve's failures and of the pods uphold. -/

namespace Sys2Proof.Machine

set_option Elab.async false

section
variable {s t u : State}

/-! ### The Metering Unit -/

theorem upholds_takePulses (h : Upholds s t) (i p : Nat) : Upholds s (takePulses i p t) := h.same

theorem upholds_meterLossBegin (h : Upholds s t) : Upholds s (meterLossBegin t) :=
  .ite (fun _ => upholds_faultReport h.same _ _ _) fun _ => h

theorem upholds_meterLossEnd (h : Upholds s t) : Upholds s (meterLossEnd t) :=
  .ite (fun _ => upholds_faultGone h.same _ _) fun _ => h

theorem upholds_lossSecond (h : Upholds s t) : Upholds s (lossSecond t) :=
  .ite (fun _ => upholds_meterLossEnd h.same) fun _ => upholds_meterLossBegin h.same

theorem upholds_unownedBegin (h : Upholds s t) : Upholds s (unownedBegin t) :=
  .ite (fun _ => upholds_faultReport h.same _ _ _) fun _ => h

theorem upholds_unownedEnd (h : Upholds s t) : Upholds s (unownedEnd t) :=
  .ite (fun _ => upholds_faultGone h.same _ _) fun _ => h

theorem upholds_unownedSecond (h : Upholds s t) : Upholds s (unownedSecond t) :=
  .ite (fun _ => upholds_unownedEnd h.same) fun _ => upholds_unownedBegin h.same

theorem upholds_passingSecond (h : Upholds s t) : Upholds s (passingSecond t) :=
  .ite (fun _ => .ite (fun _ => upholds_faultReport h.same _ _ _) fun _ => h.same)
    fun _ => .ite (fun _ => upholds_faultGone h.same _ _) fun _ => h.same

theorem upholds_accumulate (h : Upholds s t) : Upholds s (accumulate t) := h.same

theorem upholds_meteringWork (h : Upholds s t) (i p : Nat) : Upholds s (meteringWork i p t) :=
  upholds_accumulate (upholds_passingSecond (upholds_unownedSecond (upholds_lossSecond (upholds_takePulses h i p))))

/-- The usage history is replaced by one whose form follows from the form of the one before. -/
theorem upholds_history (h : Upholds s t) {x : History} (hx : t.meter.history.wf → x.wf) :
    Upholds s { t with meter := { t.meter with history := x } } :=
  { h with history := fun w => hx (h.history w) }

theorem upholds_historyPending (h : Upholds s t) (n : Nat) : Upholds s (historyPending n t) :=
  .ite (fun _ => upholds_post1 (upholds_history h (x := { t.meter.history with armed := false }) id) _ _ _) fun _ => h

theorem upholds_appendHour (h : Upholds s t) (o : OpenHour) : Upholds s (appendHour o t) :=
  have appended := upholds_history h (x := (t.meter.history.append o.record).rearm)
    fun w => History.rearm_wf (History.append_wf w _)
  upholds_historyPending appended.same _

theorem upholds_placeHour (h : Upholds s t) (o : OpenHour) : Upholds s (placeHour o t) := by
  refine .ite (fun _ => h) fun _ => ?_
  split
  · exact upholds_appendHour h o
  next r hr =>
    refine .ite (fun _ => h) fun _ => .ite (fun _ => upholds_history h fun w => ?_) fun _ => upholds_appendHour h o
    have kept : (t.meter.history.ring.dropLast ++ [{ r with repeats := r.repeats + 1 }]).length = t.meter.history.ring.length := by
      have pos : 0 < t.meter.history.ring.length := by
        cases e : t.meter.history.ring with
        | nil => simp [e] at hr
        | cons => simp
      simp only [List.length_append, List.length_dropLast, List.length_singleton]
      omega
    exact ⟨kept.trans_le w.1, w.2.trans_eq kept.symm⟩

theorem upholds_closeHour (h : Upholds s t) : Upholds s (closeHour t) :=
  Upholds.same (upholds_placeHour h t.meter.hour)

theorem upholds_closeDay (h : Upholds s t) : Upholds s (closeDay t) := h.same

theorem upholds_meteringRestart (h : Upholds s t) : Upholds s (meteringRestart t) :=
  upholds_faultGone (upholds_faultGone (upholds_faultGone h.same _ _) _ _) _ _

theorem upholds_historyRestart (h : Upholds s t) : Upholds s (historyRestart t) :=
  .ite (fun _ => upholds_post1 (upholds_history h (x := { t.meter.history with armed := false }) id) _ _ _)
    fun _ => upholds_history h id

theorem upholds_exerciseMidnight (h : Upholds s t) : Upholds s (exerciseMidnight t) := { h with valve := h.valve }

theorem upholds_midnight (h : Upholds s t) : Upholds s (midnight t) :=
  .ite (fun _ => upholds_brineMidnight (upholds_exerciseMidnight (upholds_filterMidnight (upholds_closeDay h.same)))) fun _ => h

theorem upholds_hourClose (h : Upholds s t) : Upholds s (hourClose t) :=
  .ite (fun _ => upholds_sequencerHour (upholds_closeHour h.same)) fun _ => h

/-! ### The Leak Monitor -/

theorem upholds_latchCore (h : Upholds s t) (c : Cause) (d : Int) : Upholds s (latchCore c d t) := by
  unfold latchCore
  split
  · exact .ite (fun _ => upholds_addReason (upholds_post h.same _ _ _ _ _) _) fun _ => upholds_post h.same _ _ _ _ _
  · exact .ite (fun _ => h) fun _ => upholds_post h.same _ _ _ _ _

theorem upholds_microleakResult (h : Upholds s t) (r : TestResult) (d : Int) : Upholds s (microleakResult r d t) := by
  unfold microleakResult
  split
  · exact h.same
  · exact .ite (fun _ => .ite (fun _ => upholds_latchCore (upholds_post h.same _ _ _ _ _) _ _)
      fun _ => upholds_post h.same _ _ _ _ _) fun _ => h.same
  · exact h

theorem upholds_recordResult (h : Upholds s t) (r : TestResult) (v : Int) (p0 : Nat) (d : Int) :
    Upholds s (recordResult r v p0 d t) :=
  have recorded : Upholds s { t with leak := { t.leak with record := { t.leak.record with
    result := some r, time := t.now, p0 := p0, decay := d } } } := h.same
  upholds_exerciseCue (upholds_requestDoneIf (upholds_post recorded .testResult .none (testResultCode r) v p0) .none
    t.leak.test.tag kindPressureTest (if r = .pass ∨ r = .microleak then .done else .cancelled) 0).same

theorem upholds_endTest (h : Upholds s t) (r : TestResult) (v d : Int) : Upholds s (endTest r v d t) :=
  have told := upholds_microleakResult h r d
  upholds_recordResult (upholds_giveUpTest (.ite (c := t.leak.test.phase.closes = true)
    (fun _ => upholds_removeReason told .test) fun _ => told)) r v _ d

theorem upholds_abandonTest (h : Upholds s t) (r : EndReason) : Upholds s (abandonTest r t) :=
  .ite (fun _ => h) fun _ => upholds_endTest h _ _ _

theorem upholds_abandonClosing (h : Upholds s t) (r : EndReason) : Upholds s (abandonClosing r t) :=
  .ite (fun _ => upholds_abandonTest h r) fun _ => h

theorem upholds_latchCause (h : Upholds s t) (c : Cause) (d : Int) : Upholds s (latchCause c d t) :=
  .ite (fun _ => h) fun _ => upholds_abandonTest (upholds_latchCore h c d) _

theorem upholds_tripTests (h : Upholds s t) : Upholds s (tripTests t) := by
  unfold tripTests
  split
  · exact h
  next set _ =>
    have first := Upholds.ite (c := set.continuous ≤ t.leak.detector.seconds)
      (fun _ => upholds_latchCause h .continuous t.leak.detector.seconds) fun _ => h
    have second := Upholds.ite (c := set.volume ≤ t.leak.detector.litres)
      (fun _ => upholds_latchCause first .volume t.leak.detector.litres) fun _ => first
    exact .ite (fun _ => upholds_latchCause second _ _) fun _ => second

theorem upholds_flowTrip (h : Upholds s t) (held : Bool) : Upholds s (flowTrip held t) :=
  .ite (fun _ => h) fun _ => upholds_tripTests h

theorem upholds_eventBegin (h : Upholds s t) (held : Bool) : Upholds s (eventBegin held t) :=
  .ite (fun _ => upholds_flowTrip h.same held) fun _ => h

theorem upholds_eventEnd (h : Upholds s t) : Upholds s (eventEnd t) := .ite (fun _ => h.same) fun _ => h

theorem upholds_detectorSecond (h : Upholds s t) (v : Nat) (held : Bool) : Upholds s (detectorSecond v held t) := by
  refine .ite (fun _ => h.same) fun _ => ?_
  split
  · exact upholds_eventBegin h.same held
  · exact upholds_eventEnd (upholds_flowTrip h.same held)

theorem upholds_leakModeChanged (h : Upholds s t) : Upholds s (leakModeChanged t) := .ite (fun _ => h.same) fun _ => h

theorem upholds_leakActionTaken (h : Upholds s t) : Upholds s (leakActionTaken t) :=
  .ite (fun _ => .ite (fun _ => upholds_addReason h _) fun _ => h) fun _ => upholds_removeReason h _

theorem upholds_testClaim (h : Upholds s t) (g : Option Byte) : Upholds s (testClaim g t) := upholds_claimTest h.same

theorem upholds_testDue (h : Upholds s t) : Upholds s (testDue t) := by
  refine .ite (fun _ => .ite (fun _ => ?_) fun _ => h.same) fun _ => h
  split
  · exact upholds_recordResult h.same _ _ _ _
  · exact upholds_testClaim h.same _

theorem upholds_claimWaitExpiry (h : Upholds s t) : Upholds s (claimWaitExpiry t) :=
  .ite (fun _ => upholds_endTest h _ _ _) fun _ => h

theorem upholds_testSettle (h : Upholds s t) : Upholds s (testSettle t) := .ite (fun _ => h.same) fun _ => h

theorem upholds_holdBegin (h : Upholds s t) : Upholds s (holdBegin t) :=
  .ite (fun _ => .ite (fun _ => upholds_abandonTest h _) fun _ => h.same) fun _ => h

theorem upholds_holdEnd (h : Upholds s t) : Upholds s (holdEnd t) := .ite (fun _ => upholds_endTest h _ _ _) fun _ => h

theorem upholds_holdSecond (h : Upholds s t) : Upholds s (holdSecond t) :=
  .ite (fun _ => upholds_abandonTest h.same _) fun _ => .ite (fun _ => upholds_abandonTest h.same _)
    fun _ => upholds_holdEnd h.same

theorem upholds_testSecond (h : Upholds s t) : Upholds s (testSecond t) := by
  unfold testSecond
  dsimp only
  split
  · exact h
  · exact upholds_claimWaitExpiry h.same
  · exact upholds_testSettle h
  · exact upholds_holdBegin h.same
  · exact upholds_holdSecond h

theorem upholds_leakRestart (h : Upholds s t) : Upholds s (leakRestart t) := h.same

/-! ### Valve failures that end a test -/

theorem upholds_valveStuck (h : Upholds s t) (c : StuckCause) (d : Int) : Upholds s (valveStuck c d t) :=
  upholds_abandonClosing (upholds_valveStuckCore h c d) _

theorem upholds_switchFault (h : Upholds s t) : Upholds s (switchFault t) := upholds_valveStuck h _ _

theorem upholds_attemptFails (h : Upholds s t) (stall : Bool) : Upholds s (attemptFails stall t) := by
  unfold attemptFails
  split
  · exact h
  · exact .ite (fun _ => h) fun _ => .ite (fun _ => upholds_valveStuck h _ _)
      fun _ => { h with valve := fun _ => Valve.wf_of_stopped rfl }

theorem upholds_pauseEnd (h : Upholds s t) : Upholds s (pauseEnd t) :=
  have h' : Upholds s { t with valve := { t.valve with pause := .none } } := { h with valve := h.valve }
  .ite (fun _ => h) fun _ => upholds_openedDecision (upholds_driveOrArrive h' _) t

theorem upholds_retryValve (h : Upholds s t) : Upholds s (retryValve t) :=
  have h' : Upholds s { t with valve := { t.valve with second := true, retried := true, stuck := none } } :=
    { h with valve := h.valve }
  .ite (fun _ => upholds_switchFault (upholds_valveChange h fun _ => Valve.wf_of_travelling (e := t.targetEnd) rfl))
    fun _ => .ite (fun _ => upholds_openedDecision (upholds_faultGone (upholds_valveArrive h' _) _ _) t)
      fun _ => upholds_driveOff h _ _

/-! ### The Pod Loop Controller -/

/-- The roster read slot by slot. -/
theorem rosterWf_iff (t : State) : rosterWf t.pods.slots ↔
    (∀ n, (t.slot n).state = .empty ↔ (t.slot n).serial = none)
    ∧ ∀ n m, n ≠ m → (t.slot n).serial ≠ none → (t.slot n).serial ≠ (t.slot m).serial := Iff.rfl

/-- A slot keeps the roster's form when its new record is EMPTY just where it has no serial, and no other slot has its serial. -/
theorem rosterWf_withSlot (h : rosterWf t.pods.slots) (n : Fin 8) {p : PodSlot} (hp : p.state = .empty ↔ p.serial = none)
    (hs : p.serial ≠ none → ∀ m, m ≠ n → (t.slot m).serial ≠ p.serial) : rosterWf (t.withSlot n p).pods.slots := by
  rw [rosterWf_iff] at h ⊢
  obtain ⟨hempty, hapart⟩ := h
  refine ⟨fun m => ?_, fun a b hab ha => ?_⟩
  · by_cases e : m = n
    · rw [e, withSlot_slot_same]
      exact hp
    · rw [withSlot_slot_other _ _ _ _ e]
      exact hempty m
  · by_cases ea : a = n
    · subst ea
      rw [withSlot_slot_same] at ha ⊢
      rw [withSlot_slot_other _ _ _ _ (Ne.symm hab)]
      exact Ne.symm (hs ha b (Ne.symm hab))
    · rw [withSlot_slot_other _ _ _ _ ea] at ha ⊢
      by_cases eb : b = n
      · subst eb
        rw [withSlot_slot_same]
        intro e
        exact hs (e ▸ ha) a ea e
      · rw [withSlot_slot_other _ _ _ _ eb]
        exact hapart a b hab ha

/-- A record with the serial of the one before, and EMPTY only where that is. -/
theorem upholds_withSlot (h : Upholds s t) (n : Fin 8) {p : PodSlot} (hserial : p.serial = (t.slot n).serial)
    (hstate : p.state = .empty ↔ (t.slot n).state = .empty) : Upholds s (t.withSlot n p) where
  __ := h
  roster w := by
    have wf := h.roster w
    obtain ⟨hempty, hapart⟩ := (rosterWf_iff t).1 wf
    refine rosterWf_withSlot wf n (by rw [hstate, hserial]; exact hempty n) fun hp m hm => ?_
    rw [hserial] at hp ⊢
    exact Ne.symm (hapart n m (Ne.symm hm) hp)

theorem upholds_postPod (h : Upholds s t) (n : Fin 8) : Upholds s (postPod n t) := upholds_post h _ _ _ _ _

/-- A slot record is replaced, told or not. -/
theorem upholds_changeSlot_of (n : Fin 8) {p : PodSlot} (h : Upholds s (t.withSlot n p)) : Upholds s (changeSlot n p t) :=
  .ite (fun _ => h) fun _ => upholds_postPod h n

theorem upholds_podWet (h : Upholds s t) (n : Fin 8) : Upholds s (podWet n t) := upholds_latchCause h _ _

theorem upholds_pollSend (h : Upholds s t) : Upholds s (pollSend t) := by
  unfold pollSend
  split
  · exact h
  · exact h.same

theorem upholds_podMissing (h : Upholds s t) (n : Fin 8) : Upholds s (podMissing n t) := by
  refine .ite (fun hc => upholds_changeSlot_of n (upholds_withSlot h n rfl ?_)) fun _ => h
  simp [hc.1]

theorem upholds_podLost (h : Upholds s t) (n : Fin 8) : Upholds s (podLost n t) := by
  refine .ite (fun hc => ?_) fun _ => h
  have hne : (t.slot n).state ≠ .empty := by rcases hc.1 with e | e <;> simp [e]
  have lost := upholds_faultReport (upholds_changeSlot_of n (upholds_withSlot h n
    (p := { t.slot n with state := .lost, wet := false, wetSince := none, candidate := none }) rfl (by simp [hne])))
    .podLost (.slot n) (t.slot n).serialNat
  exact .ite (fun _ => upholds_latchCause lost _ _) fun _ => lost

theorem upholds_missedAnswer (h : Upholds s t) (n : Fin 8) : Upholds s (missedAnswer n t) :=
  .ite (fun _ => h) fun _ => upholds_podLost (upholds_podMissing (upholds_withSlot h n
    (p := { t.slot n with missed := satAdd 255 (t.slot n).missed 1 }) rfl Iff.rfl) n) n

theorem upholds_freezeTest (h : Upholds s t) (n : Fin 8) : Upholds s (freezeTest n t) :=
  .ite (fun _ => upholds_post (upholds_withSlot h n (p := { t.slot n with freeze := true }) rfl Iff.rfl) _ _ _ _ _)
    fun _ => .ite (fun _ => upholds_withSlot h n rfl Iff.rfl) fun _ => h

theorem upholds_goodAnswer (h : Upholds s t) (n : Fin 8) (a : Answer) (hne : (t.slot n).state ≠ .empty) :
    Upholds s (goodAnswer n a t) := by
  have found : Upholds s (if (t.slot n).state = .lost then faultGone .podLost (.slot n) t else t) :=
    .ite (fun _ => upholds_faultGone h _ _) fun _ => h
  have same : (if (t.slot n).state = .lost then faultGone .podLost (.slot n) t else t).slot n = t.slot n := by
    split <;> rfl
  have changed := upholds_changeSlot_of n (upholds_withSlot found n (p := (t.slot n).answered a t.now)
    (by rw [same]; rfl) (by rw [same]; simp [PodSlot.answered, hne]))
  exact upholds_freezeTest (.ite (fun _ => upholds_podWet changed n) fun _ => changed) n

theorem upholds_takeAnswer (h : Upholds s t) (slot seq : Byte) (a : Answer) (good : Bool) :
    Upholds s (takeAnswer slot seq a good t) := by
  unfold takeAnswer
  split
  · exact h
  · exact .ite (fun _ => h.same) fun hne => .ite (fun _ => upholds_goodAnswer h.same _ a hne) fun _ => upholds_missedAnswer h.same _

theorem upholds_answerMissed (h : Upholds s t) : Upholds s (answerMissed t) := by
  unfold answerMissed
  split
  · exact h
  · exact upholds_missedAnswer h.same _

theorem upholds_windowClose (h : Upholds s t) (w : Enrolment) : Upholds s (windowClose w t) := upholds_requestDone h.same _ _ _ _ _

theorem upholds_enrolWindowClose (h : Upholds s t) : Upholds s (enrolWindowClose t) := by
  unfold enrolWindowClose
  split
  · exact .ite (fun _ => upholds_windowClose h _) fun _ => h
  · exact h

theorem upholds_enrolSecond (h : Upholds s t) : Upholds s (enrolSecond t) := by
  unfold enrolSecond
  split
  · exact upholds_enrolWindowClose h.same
  · exact h

theorem upholds_enrolCall (h : Upholds s t) : Upholds s (enrolCall t) := .ite (fun _ => h.same) fun _ => h

theorem mem_allSlots (n : Fin 8) : n ∈ allSlots := by
  revert n
  decide

/-- No slot holds a serial that the search does not find. -/
theorem serial_ne_of_slotOf_none {x : BitVec 32} (h : slotOf x t = none) (m : Fin 8) : (t.slot m).serial ≠ some x := by
  intro e
  have := List.find?_eq_none.mp h m (mem_allSlots m)
  simp [e] at this

theorem upholds_reassign (h : Upholds s t) (x : BitVec 32) (n : Fin 8) (w : Enrolment) : Upholds s (reassign x n w t) :=
  upholds_post h.same _ _ _ _ _

theorem upholds_assign (h : Upholds s t) {x : BitVec 32} (n : Fin 8) (w : Enrolment) (hx : slotOf x t = none) :
    Upholds s (assign x n w t) := by
  have sent : Upholds s { t with pods := { t.pods with
      out := some (.assign x n), window := some { w with new := w.new + 1 } } } := h.same
  have placed : Upholds s (State.withSlot { t with pods := { t.pods with
      out := some (.assign x n), window := some { w with new := w.new + 1 } } } n { serial := some x, state := .missing }) :=
    { sent with roster := fun w => rosterWf_withSlot (sent.roster w) n (by simp) fun _ m _ => serial_ne_of_slotOf_none hx m }
  have told := upholds_post (upholds_changeSlot_of n placed) .podEnrolled (.slot n) 1 x.toNat n.val
  exact .ite (fun _ => upholds_windowClose told _) fun _ => told

theorem upholds_enrolSerial (h : Upholds s t) (x : BitVec 32) (w : Enrolment) : Upholds s (enrolSerial x w t) := by
  unfold enrolSerial
  split
  · exact upholds_reassign h x _ w
  next hx _ => exact upholds_assign h _ w hx
  · exact h

theorem upholds_enrolAnswer (h : Upholds s t) (x : BitVec 32) (good : Bool) (d : Nat) : Upholds s (enrolAnswer x good d t) := by
  unfold enrolAnswer
  split
  · exact .ite (fun _ => h.same) fun _ => .ite (fun _ => upholds_enrolSerial h x _) fun _ => h
  · exact h

/-- A slot may always become EMPTY. -/
theorem upholds_clearSlot (h : Upholds s t) (n : Fin 8) : Upholds s (t.withSlot n {}) :=
  { h with roster := fun w => rosterWf_withSlot (h.roster w) n (by simp) fun e => absurd rfl e }

theorem upholds_emptySlot (h : Upholds s t) (n : Fin 8) : Upholds s (emptySlot n t) := upholds_postPod (upholds_clearSlot h n) n

theorem upholds_emptyRoster (h : Upholds s t) : Upholds s (emptyRoster t) := by
  unfold emptyRoster
  generalize allSlots = l
  induction l generalizing t with
  | nil => exact h
  | cons n l ih => exact ih (.ite (fun _ => upholds_clearSlot h n) fun _ => upholds_emptySlot h n)

theorem podsRestart_slot (t : State) (n : Fin 8) : (podsRestart t).slot n = { t.slot n with missed := 0, candidate := none } := by
  simp [State.slot, podsRestart, Vector.get_eq_getElem]

theorem upholds_podsRestart (h : Upholds s t) : Upholds s (podsRestart t) where
  __ := h
  roster w := by
    have wf := h.roster w
    rw [rosterWf_iff] at wf ⊢
    simpa only [podsRestart_slot] using wf

/-! ### The Supply Monitor -/

theorem upholds_voltageSecond (h : Upholds s t) (mv : Nat) : Upholds s (voltageSecond mv t) := h.same

theorem upholds_shutdown (h : Upholds s t) : Upholds s (shutdown t) where
  __ := h
  valve _ := Valve.wf_of_stopped rfl
  notices _ := ⟨Nat.zero_le _, List.Pairwise.nil⟩

theorem upholds_mainsLeft (h : Upholds s t) : Upholds s (mainsLeft t) := upholds_abandonClosing (upholds_flushCut h) _

theorem upholds_mainsEntered (h : Upholds s t) : Upholds s (mainsEntered t) := upholds_changeDecision (upholds_removeReason h _)

theorem upholds_lowEntered (h : Upholds s t) : Upholds s (lowEntered t) :=
  have told := upholds_faultReport h .batteryLow .none t.supply.battery
  .ite (fun _ => upholds_addReason told _) fun _ => told

theorem upholds_supplyChange (h : Upholds s t) (n : SupplyState) : Upholds s (supplyChange n t) := by
  refine .ite (fun _ => h) fun _ => ?_
  have told := upholds_post2 (h.same (u := { t with supply := { t.supply with state := n } }) rfl) .supplyState .none
    (supplyCode n) t.supply.battery
  have gone := Upholds.ite (c := t.supply.state = .batteryLow) (fun _ => upholds_faultGone told .batteryLow .none) fun _ => told
  have left := Upholds.ite (c := t.supply.state = .mains) (fun _ => upholds_mainsLeft gone) fun _ => gone
  cases n with
  | mains => exact upholds_mainsEntered left
  | battery => exact left
  | batteryLow => exact upholds_lowEntered left
  | shutdown => exact upholds_shutdown left

theorem upholds_voltageSteady (h : Upholds s t) : Upholds s (voltageSteady t) := by
  unfold voltageSteady
  split
  · exact upholds_supplyChange h _
  · exact h

theorem upholds_lowBatteryTaken (h : Upholds s t) : Upholds s (lowBatteryTaken t) :=
  .ite (fun _ => .ite (fun _ => upholds_addReason h _) fun _ => h) fun _ => upholds_removeReason h _

/-! ### The metering second -/

theorem upholds_samplePressures (h : Upholds s t) (x : SecondInputs) : Upholds s (samplePressures x t) :=
  upholds_pressureSample (upholds_pressureSample (upholds_pressureSample h _ _) _ _) _ _

theorem upholds_depleteShare (h : Upholds s t) (k : Tank) (f : Bool) : Upholds s (depleteShare k f t) :=
  .ite (fun _ => upholds_depleteTank h k _) fun _ => h

theorem upholds_raiseExhaustion (h : Upholds s t) : Upholds s (raiseExhaustion t) := by
  unfold raiseExhaustion
  split
  · exact h
  next k _ =>
    have raised := upholds_withRecord h k (r := { t.record k with exhaustionRaised := true }) id
    exact .ite (fun _ => upholds_takeExhaustion raised k) fun _ => h

theorem upholds_capacitySecond (h : Upholds s t) (x : SecondInputs) (f : Bool) : Upholds s (capacitySecond x f t) :=
  upholds_probeSecond (upholds_probeSecond (upholds_raiseExhaustion (upholds_depleteShare (upholds_depleteShare h .a f) .b f))
    .a _) .b _

theorem upholds_brineSecond (h : Upholds s t) (x : SecondInputs) : Upholds s (brineSecond x t) :=
  upholds_saltSecond (upholds_refillSecond (upholds_levelSecond h _) _) _

theorem upholds_filterSecond (h : Upholds s t) : Upholds s (filterSecond t) :=
  upholds_flushEnd (upholds_flushSecond (upholds_screenSecond (upholds_indexSecond h _) _ _) _)

theorem upholds_armedExpiry (h : Upholds s t) : Upholds s (armedExpiry t) :=
  .ite (fun _ => { h with valve := h.valve }) fun _ => h

theorem upholds_exerciseStart (h : Upholds s t) : Upholds s (exerciseStart t) := .ite (fun _ => upholds_exerciseBegin h) fun _ => h

theorem upholds_exerciseSecond (h : Upholds s t) : Upholds s (exerciseSecond t) := by
  have timed (n : Nat) : Upholds s { t with valve := { t.valve with exerciseTime := n } } := { h with valve := h.valve }
  unfold exerciseSecond
  split
  · exact upholds_armedExpiry (upholds_exerciseStart (timed _))
  · exact timed _
  · exact h

theorem upholds_testMinuteReached (h : Upholds s t) : Upholds s (testMinuteReached t) := upholds_testDue h.same

theorem upholds_offCue (h : Upholds s t) : Upholds s (offCue t) := .ite (fun _ => upholds_exerciseCue h) fun _ => h

theorem upholds_leakSecond (h : Upholds s t) (f : Bool) : Upholds s (leakSecond f t) :=
  upholds_offCue (upholds_testMinuteReached (upholds_testSecond (upholds_detectorSecond h _ f)))

theorem upholds_driveTimes (h : Upholds s t) : Upholds s (driveTimes t) where
  __ := h
  valve w := by
    have hv := h.valve w
    simp only [driveTimes]
    split
    · exact hv
    · exact hv

theorem upholds_advanceClock (h : Upholds s t) : Upholds s (advanceClock t) := h.same

/-- The work of a second after its metering stage. -/
def afterMetering (x : SecondInputs) (frozen : Bool) (s : State) : State :=
  follow (voltageSteady (enrolSecond (leakSecond frozen (exerciseSecond (calendarSecond (hourClose (midnight
    (sequencerSecond (filterSecond (brineSecond x (capacitySecond x frozen s)))))))))))

/-- The pins, the motors' times, the clock, the voltage and the pressures of a second, before its metering stage. -/
def beforeMetering (x : SecondInputs) (s : State) : State :=
  samplePressures x (voltageSecond x.battery.toNat (advanceClock (driveTimes { s with pins := { s.pins with svc := x.svc } })))

/-- METER_LOSS holds a second's depletion and trip tests back when it is active before its metering stage or after. -/
def secondFrozen (x : SecondInputs) (s : State) : Bool :=
  s.meter.cond.lossActive || (meteringWork x.pulsesIn x.pulsesProc (beforeMetering x s)).meter.cond.lossActive

/-- A metering second in its three stages. -/
theorem runSecond_stages (x : SecondInputs) (s : State) : runSecond x s =
    afterMetering x (secondFrozen x s) (meteringWork x.pulsesIn x.pulsesProc (beforeMetering x s)) := by
  simp only [runSecond, afterMetering, secondFrozen, beforeMetering]

theorem upholds_beforeMetering (h : Upholds s t) (x : SecondInputs) : Upholds s (beforeMetering x t) :=
  have started : Upholds s { t with pins := { t.pins with svc := x.svc } } := h.same
  upholds_samplePressures (upholds_voltageSecond (upholds_advanceClock (upholds_driveTimes started)) _) x

theorem upholds_afterMetering (h : Upholds s t) (x : SecondInputs) (f : Bool) : Upholds s (afterMetering x f t) :=
  have worked := upholds_sequencerSecond (upholds_filterSecond (upholds_brineSecond (upholds_capacitySecond h x f) x))
  upholds_follow (upholds_voltageSteady (upholds_enrolSecond (upholds_leakSecond (upholds_exerciseSecond
    (upholds_calendarSecond (upholds_hourClose (upholds_midnight worked)))) f)))

theorem upholds_runSecond (h : Upholds s t) (x : SecondInputs) : Upholds s (runSecond x t) := by
  rw [runSecond_stages]
  exact upholds_afterMetering (upholds_meteringWork (upholds_beforeMetering h x) _ _) x _

end
end Sys2Proof.Machine

/-! What the restarts, the requests and the serial line uphold, what a loss of the last group leaves, and the statements that every step
keeps its promises: O2, O58, O59 and O60. -/

namespace Sys2Proof.Machine

set_option Elab.async false

section
variable {s t u : State}

/-! ### Restarts -/

theorem upholds_supplyRestart (h : Upholds s t) (x : RestartInputs) : Upholds s (supplyRestart x t) :=
  have told := upholds_post2 (upholds_faultGone (h.same (u := { t with
    supply := { state := classify x, battery := x.battery.toNat }
    pins := { mains := x.mains, openEnd := x.openEnd, closedEnd := x.closedEnd, svc := x.svc } }) rfl) .batteryLow .none)
    .supplyState .none (supplyCode (classify x)) x.battery.toNat
  .ite (fun _ => upholds_faultReport told _ _ _) fun _ => told

/-- A valve placed by its end switches has its motor stopped at rest and in STUCK. -/
theorem upholds_placeValve (h : Upholds s t) (hv : t.valve.drive = .stopped) : Upholds s (placeValve t) :=
  have stuck : Upholds s { t with valve := { t.valve with state := .stuck, stuck := some .switch } } :=
    { h with valve := fun _ => Valve.wf_of_stopped hv }
  .ite (fun _ => upholds_faultReport stuck _ _ _) fun _ => .ite
    (fun _ => { h with valve := fun _ => Valve.wf_of_stopped hv })
    fun _ => { h with valve := fun _ => Valve.wf_of_travelling (e := t.targetEnd) rfl }

theorem upholds_valveRestart (h : Upholds s t) : Upholds s (valveRestart t) :=
  have gone := upholds_faultGone (upholds_faultGone h .shutoffStuck .none) .shutoffSwitch .none
  have afresh : Upholds s { faultGone .shutoffSwitch .none (faultGone .shutoffStuck .none t) with
      valve := { reasons := rebuiltReasons t, exerciseDays := t.valve.exerciseDays } } :=
    { gone with valve := fun _ => Valve.wf_of_stopped rfl }
  upholds_post (upholds_placeValve afresh rfl) _ _ _ _ _

theorem upholds_tankRestart (h : Upholds s t) (k : Tank) : Upholds s (tankRestart k t) := upholds_changeTank h k _

theorem upholds_sequencerRestart (h : Upholds s t) : Upholds s (sequencerRestart t) :=
  Upholds.same (upholds_tankRestart (upholds_tankRestart h .a) .b)

theorem upholds_scheduleAfresh (h : Upholds s t) (k : Tank) : Upholds s (scheduleAfresh k t) :=
  .ite (fun _ => .ite (fun _ => upholds_forceUrgent h k) fun _ => upholds_askProjection h k) fun _ => h

theorem upholds_continueClaim (h : Upholds s t) (k : Tank) : Upholds s (continueClaim k t) :=
  .ite (fun _ => upholds_claimRegen h k true) fun _ => h

theorem upholds_openHour (h : Upholds s t) : Upholds s (openHour t) := h.same

theorem upholds_warmHour (h : Upholds s t) : Upholds s (warmHour t) := .ite (fun _ => upholds_closeHour h) fun _ => h

theorem upholds_coldHour (h : Upholds s t) : Upholds s (coldHour t) :=
  upholds_openHour (Upholds.same (upholds_placeHour h t.meter.hour))

/-- The state in which the blocks restart: no notice, no claim, no request. -/
def State.emptied (s : State) : State := { s with notices := {}, line := {}, link := {} }

theorem upholds_emptied (h : Upholds s t) : Upholds s t.emptied :=
  { h with owner := fun _ => rfl, notices := fun _ => ⟨Nat.zero_le _, List.Pairwise.nil⟩ }

/-- The blocks from the Disc Positioner to the Pod Loop Controller at a restart. -/
def restartHeld (cold : Bool) (s : State) : State :=
  podsRestart (leakRestart (filterRestart (brineRestart cold (capacityRestart (meteringRestart (discRestart s))))))

/-- The blocks of a restart up to the Regeneration Sequencer. -/
def restartSequenced (cold : Bool) (x : RestartInputs) (s : State) : State :=
  sequencerRestart (valveRestart (restartHeld cold (supplyRestart x s.emptied)))

/-- What a restart that leaves the part running ends with: the history's notice, the schedules, the claims and what follows. -/
def restartClaims (s : State) : State :=
  follow (continueClaim .b (continueClaim .a (scheduleAfresh .b (scheduleAfresh .a (historyRestart s)))))

theorem restartBlocks_stages (cold : Bool) (x : RestartInputs) (s : State) : restartBlocks cold x s =
    if (restartSequenced cold x s).supply.state = .shutdown then shutdown (restartSequenced cold x s)
    else restartClaims (restartSequenced cold x s) := rfl

theorem upholds_restartHeld (h : Upholds s t) (cold : Bool) : Upholds s (restartHeld cold t) :=
  upholds_podsRestart (upholds_leakRestart (upholds_filterRestart (upholds_brineRestart (upholds_capacityRestart
    (upholds_meteringRestart (upholds_discRestart h))) cold)))

theorem upholds_restartSequenced (h : Upholds s t) (cold : Bool) (x : RestartInputs) : Upholds s (restartSequenced cold x t) :=
  upholds_sequencerRestart (upholds_valveRestart (upholds_restartHeld (upholds_supplyRestart (upholds_emptied h) x) cold))

theorem upholds_restartClaims (h : Upholds s t) : Upholds s (restartClaims t) :=
  upholds_follow (upholds_continueClaim (upholds_continueClaim (upholds_scheduleAfresh (upholds_scheduleAfresh
    (upholds_historyRestart h) .a) .b) .a) .b)

theorem upholds_restartBlocks (h : Upholds s t) (cold : Bool) (x : RestartInputs) : Upholds s (restartBlocks cold x t) := by
  have sequenced := upholds_restartSequenced h cold x
  rw [restartBlocks_stages]
  exact .ite (fun _ => upholds_shutdown sequenced) fun _ => upholds_restartClaims sequenced

theorem upholds_loseFlights (h : Upholds s t) : Upholds s (loseFlights t) where
  __ := h
  notices _ := ⟨Nat.zero_le _, List.Pairwise.nil⟩
  history w := by simpa [loseFlights, History.wf] using h.history w

/-! ### Requests -/

theorem upholds_settingTaken (h : Upholds s t) (id : Nat) (c : Bool) : Upholds s (settingTaken id c t) := by
  unfold settingTaken
  dsimp only
  split
  · exact .ite (fun _ => upholds_vrChanged h _ _) fun _ => h
  · exact .ite (fun _ => upholds_vrChanged h _ _) fun _ => h
  · exact .ite (fun _ => h.same) fun _ => h
  · exact .ite (fun _ => h.same) fun _ => h
  · exact .ite (fun _ => upholds_probeDepthChanged h) fun _ => h
  · exact .ite (fun _ => upholds_sensorFittedChanged h) fun _ => h
  · exact .ite (fun _ => upholds_capacityClamp h) fun _ => h
  · exact upholds_recomputeHardness h
  · exact upholds_recomputeHardness h
  · exact upholds_recomputeHardness h
  · exact upholds_modeChange h
  · exact .ite (fun _ => upholds_filterEvaluate h) fun _ => h
  · exact .ite (fun _ => upholds_filterEvaluate h) fun _ => h
  · exact .ite (fun _ => upholds_leakModeChanged h) fun _ => h
  · exact upholds_leakActionTaken h
  · exact upholds_lowBatteryTaken h
  · exact .ite (fun _ => upholds_evaluateSaltMass h) fun _ => h
  · exact h

theorem upholds_settingsRestored (h : Upholds s t) (svc : Bool) (old : Settings) : Upholds s (settingsRestored svc old t) := by
  unfold settingsRestored
  generalize restoredIds svc = l
  induction l generalizing t with
  | nil => exact h
  | cons n l ih => exact ih (upholds_settingTaken h n _)

/-- The Fault Log may always be emptied. -/
theorem upholds_clearFaults (h : Upholds s t) : Upholds s { t with faults := {} } :=
  { h with faults := fun _ => ⟨Nat.zero_le _, List.Pairwise.nil⟩ }

theorem upholds_furtherItems (h : Upholds s t) : Upholds s (furtherItems t) :=
  upholds_clearFaults (upholds_emptyRoster (upholds_resetLearning (upholds_resetLearning h .a) .b))

theorem upholds_takeGet (h : Upholds s t) (n : Byte) : Upholds s (takeGet n t).1 := by
  unfold takeGet
  split <;> exact h

theorem upholds_takeSet (h : Upholds s t) (n : Byte) (v : BitVec 32) : Upholds s (takeSet n v t).1 := by
  unfold takeSet
  split
  · exact h
  · split
    · exact h
    · dsimp only
      split
      · exact h
      · exact upholds_follow (upholds_settingTaken h.same _ _)

theorem upholds_takeDefaults (h : Upholds s t) : Upholds s (takeDefaults t).1 := by
  have restored := upholds_settingsRestored (h.same (u := { t with
    settings := if t.pins.svc then {} else { t.settings with user := {} } }) rfl) t.pins.svc t.settings
  exact upholds_follow (.ite (fun _ => upholds_furtherItems restored) fun _ => restored)

theorem upholds_shiftRefillEnd (h : Upholds s t) (a b : Nat) : Upholds s (shiftRefillEnd a b t) := h.same

theorem upholds_setClock (h : Upholds s t) (d n : Nat) : Upholds s (setClock d n t) :=
  have shifted := upholds_shiftRefillEnd (h.same (u := { t with clock := { day := d, second := n, unset := false } }) rfl)
  .ite (fun _ => upholds_closeHour (shifted _ _).same) fun _ => shifted _ _

theorem upholds_takeClock (h : Upholds s t) (d : BitVec 16) (n : BitVec 32) : Upholds s (takeClock d n t).1 := by
  unfold takeClock
  split
  · exact h
  · exact upholds_follow (upholds_setClock h _ _)

/-- Marking the carried notices in flight keeps the queue's form. -/
theorem NoticeQueue.wf_marked {q : NoticeQueue} (h : q.wf) (n : Nat) : ({ q with
    queue := (q.queue.take n).map (fun m : Notice => { m with inFlight := true }) ++ q.queue.drop n } : NoticeQueue).wf := by
  obtain ⟨hl, hp⟩ := h
  refine ⟨by simp only [List.length_append, List.length_map, List.length_take, List.length_drop]; omega, ?_⟩
  rw [← List.take_append_drop n q.queue, List.pairwise_append] at hp
  obtain ⟨hfront, hback, hcross⟩ := hp
  refine List.pairwise_append.2 ⟨List.pairwise_map.2 hfront, hback, fun a ha b hb => ?_⟩
  obtain ⟨m, hm, rfl⟩ := List.mem_map.1 ha
  exact hcross m hm b hb

theorem upholds_takeNotices (h : Upholds s t) : Upholds s (takeNotices t).1 :=
  { h with notices := fun w => NoticeQueue.wf_marked (h.notices w) 4 }

/-- Marking the carried records in flight keeps the ring's length. -/
theorem length_markedRing (x : History) :
    (x.ring.take x.cursor ++ (carriedHistory x).map (fun r : HistoryRecord => { r with inFlight := true })
      ++ x.ring.drop (x.cursor + (carriedHistory x).length)).length = x.ring.length := by
  simp only [carriedHistory, List.length_append, List.length_map, List.length_take, List.length_drop]
  omega

theorem upholds_takeHistory (h : Upholds s t) : Upholds s (takeHistory t).1 :=
  upholds_history h fun w => ⟨(length_markedRing _).trans_le w.1, w.2.trans_eq (length_markedRing _).symm⟩

theorem upholds_takeHistoryClear (h : Upholds s t) : Upholds s (takeHistoryClear t).1 :=
  upholds_follow (upholds_history h fun _ => ⟨Nat.zero_le _, Nat.zero_le _⟩)

theorem upholds_takeTotalsClear (h : Upholds s t) : Upholds s (takeTotalsClear t).1 := upholds_follow h.same

theorem upholds_takeFaultsClear (h : Upholds s t) : Upholds s (takeFaultsClear t).1 := upholds_follow (upholds_clearFaults h)

theorem upholds_takeRegen (h : Upholds s t) (g : Byte) (k : Tank) : Upholds s (takeRegen g k t).1 := by
  unfold takeRegen
  split
  · split
    · exact h
    · exact upholds_follow (upholds_withTank h k _)
  all_goals exact h

theorem upholds_takeChangeover (h : Upholds s t) (g : Byte) (k : Tank) : Upholds s (takeChangeover g k t).1 := by
  unfold takeChangeover
  split
  · exact h
  · split
    · exact h
    · split
      · exact h
      · exact upholds_follow (upholds_changeoverBegin (Upholds.same (upholds_withTank h k { t.tank k with changeTag := some g })))

theorem upholds_haltDone (h : Upholds s t) (g : Byte) (k : Tank) (r : TankRecord) : Upholds s (haltDone g k r t).1 :=
  upholds_follow (upholds_requestDone (upholds_changeTank h k r) _ _ _ _ _)

theorem upholds_takeHalt (h : Upholds s t) (g : Byte) (k : Tank) : Upholds s (takeHalt g k t).1 := by
  unfold takeHalt
  dsimp only
  split
  · exact upholds_haltDone h g k _
  · split
    · exact upholds_follow (upholds_withTank h k _)
    · split
      · exact upholds_haltDone h g k _
      · repeat' split
        all_goals exact h

theorem upholds_takeResume (h : Upholds s t) (k : Tank) : Upholds s (takeResume k t).1 := by
  unfold takeResume
  dsimp only
  split
  · exact upholds_follow (upholds_changeTank h k _)
  · split
    · exact upholds_follow (upholds_requestDoneIf (upholds_withTank h k _) _ _ _ _ _)
    · exact h

theorem upholds_takeSkip (h : Upholds s t) (k : Tank) : Upholds s (takeSkip k t).1 := by
  unfold takeSkip
  dsimp only
  split
  · split
    · exact upholds_follow (upholds_skipStep h k)
    all_goals exact h
  all_goals exact h

theorem upholds_takeTankCmd (h : Upholds s t) (g k a : Byte) : Upholds s (takeTankCmd g k a t).1 := by
  unfold takeTankCmd
  dsimp only
  split
  case h_3 => exact h
  all_goals
    split
    · exact upholds_takeRegen h g _
    · exact upholds_takeChangeover h g _
    · exact upholds_takeHalt h g _
    · exact upholds_takeResume h _
    · exact upholds_takeSkip h _
    · exact h

theorem upholds_takeDiscStep (h : Upholds s t) (g : Byte) : Upholds s (takeDiscStep g t).1 := by
  unfold takeDiscStep
  dsimp only
  repeat' split
  case h_1 => exact upholds_follow h.same
  case h_2 => exact upholds_follow h.same
  all_goals exact h

theorem upholds_takeDiscRetry (h : Upholds s t) (g : Byte) : Upholds s (takeDiscRetry g t).1 := by
  unfold takeDiscRetry
  repeat' split
  case isFalse => exact upholds_follow (upholds_retryMove h g)
  all_goals exact h

theorem upholds_takeFlushCmd (h : Upholds s t) (g : Byte) : Upholds s (takeFlushCmd g t).1 := by
  unfold takeFlushCmd
  repeat' split
  case isFalse => exact upholds_follow h.same
  all_goals exact h

theorem upholds_takeCartridge (h : Upholds s t) : Upholds s (takeCartridge t).1 := upholds_follow (upholds_cartridgeFittedEffect h)

theorem upholds_recordTag (h : Upholds s t) (g : Byte) : Upholds s (recordTag g t) :=
  have told := upholds_requestDoneIf h .none t.valve.tag kindShutoffCmd .cancelled 0
  { told with valve := told.valve }

theorem upholds_takeShutoff (h : Upholds s t) (g a : Byte) : Upholds s (takeShutoff g a t).1 := by
  have recorded := upholds_recordTag h g
  unfold takeShutoff
  split
  · exact upholds_follow (upholds_answerTag (upholds_addReason recorded _))
  · exact upholds_follow (upholds_answerTag (upholds_removeReason recorded _))
  · unfold takeRetry
    split
    · exact upholds_follow (upholds_retryValve recorded)
    · exact h
  · exact h

theorem upholds_resetLatch (h : Upholds s t) (k : Bool) (x : Trip) : Upholds s (resetLatch k x t) := by
  have kept := Upholds.ite (c := k = true) (fun _ => upholds_addReason h .host) fun _ => h
  have told := upholds_post kept .leakCleared .none (causeCode x.first * 256 + causeSlot x.first : Nat)
    (1 + x.further.length : Nat) (sinceTrip x t)
  unfold resetLatch
  dsimp only
  generalize post .leakCleared .none _ _ _ _ = w at told ⊢
  have cleared := upholds_removeReason (told.same (u := { w with leak := { w.leak with latch := none } })) .trip
  exact cleared.same

theorem upholds_takeLeakReset (h : Upholds s t) (o : Byte) : Upholds s (takeLeakReset o t).1 := by
  unfold takeLeakReset
  split
  · exact h
  · split
    · exact h
    · split
      · exact h
      · exact upholds_follow (upholds_resetLatch h _ _)

theorem upholds_takePressureTest (h : Upholds s t) (g : Byte) : Upholds s (takePressureTest g t).1 := by
  unfold takePressureTest
  repeat' split
  case isFalse => exact upholds_follow (upholds_testClaim h _)
  all_goals exact h

theorem upholds_takeSaltFilled (h : Upholds s t) (g : BitVec 32) : Upholds s (takeSaltFilled g t).1 :=
  upholds_follow (upholds_saltFilledEffect h g)

theorem upholds_takePodEnrol (h : Upholds s t) (g : Byte) (d : BitVec 16) : Upholds s (takePodEnrol g d t).1 := by
  unfold takePodEnrol
  split
  · exact h
  · exact upholds_follow h.same

theorem upholds_takePodRemove (h : Upholds s t) (n : Byte) : Upholds s (takePodRemove n t).1 := by
  unfold takePodRemove
  split
  · exact h
  · split
    · exact h
    · exact upholds_follow (upholds_emptySlot (upholds_faultGone h _ _) _)

theorem upholds_labelSlot (h : Upholds s t) (n : Fin 8) (f : Bool) (l : List Byte) : Upholds s (labelSlot n f l t) :=
  have labelled := upholds_withSlot h n (p := { t.slot n with shutoff := f, label := l }) rfl Iff.rfl
  .ite (fun _ => upholds_podWet labelled n) fun _ => labelled

theorem upholds_takePodLabel (h : Upholds s t) (n f : Byte) (l : List Byte) : Upholds s (takePodLabel n f l t).1 := by
  unfold takePodLabel
  split
  · exact h
  · split
    · exact h
    · split
      · exact h
      · exact upholds_follow (upholds_labelSlot h _ _ _)

/-- Every request, with what follows it. -/
theorem upholds_takeRequest (h : Upholds s t) (g : Byte) (r : Request) : Upholds s (takeRequest g t r).1 := by
  cases r with
  | identify => exact h
  | status => exact h
  | get id => exact upholds_takeGet h id
  | set id v => exact upholds_takeSet h id v
  | clockSet d n => exact upholds_takeClock h d n
  | noticeTake => exact upholds_takeNotices h
  | noticePeek => exact h
  | historyRead => exact upholds_takeHistory h
  | historyClear => exact upholds_takeHistoryClear h
  | totalsRead => exact h
  | totalsClear => exact upholds_takeTotalsClear h
  | tankCmd k a => exact upholds_takeTankCmd h g k a
  | discStep => exact upholds_takeDiscStep h g
  | discRetry => exact upholds_takeDiscRetry h g
  | flushCmd => exact upholds_takeFlushCmd h g
  | shutoffCmd a => exact upholds_takeShutoff h g a
  | leakReset o => exact upholds_takeLeakReset h o
  | pressureTest => exact upholds_takePressureTest h g
  | saltFilled x => exact upholds_takeSaltFilled h x
  | cartridgeFitted => exact upholds_takeCartridge h
  | podEnrol d => exact upholds_takePodEnrol h g d
  | podRemove n => exact upholds_takePodRemove h n
  | podList => exact h
  | podLabel n f l => exact upholds_takePodLabel h n f l
  | faultsRead => exact h
  | faultsClear => exact upholds_takeFaultsClear h
  | defaultsRestore => exact upholds_takeDefaults h
  | reset => exact h

/-! ### The serial line -/

theorem upholds_buildReply {x : Taken} (h : Upholds s x.1) (f : Frame) (k : Byte) : Upholds s (buildReply f k x) :=
  { h with notices := fun w => h.notices w }

theorem upholds_handleFrame (h : Upholds s t) (f : Frame) : Upholds s (handleFrame f t) := by
  refine .ite (fun _ => upholds_buildReply ?_ f _) fun _ => upholds_buildReply h f _
  unfold dispatch
  split
  · exact h
  · exact h
  · exact upholds_takeRequest h _ _

theorem upholds_receive (h : Upholds s t) (f : Frame) : Upholds s (receive f t) := by
  unfold receive
  dsimp only
  split
  · exact upholds_handleFrame h.same f
  · exact h.same
  · exact h.same

theorem upholds_frameDropped (h : Upholds s t) : Upholds s (frameDropped t) := h.same

theorem upholds_deliver (h : Upholds s t) (f : Frame) : Upholds s (deliver f t) :=
  .ite (fun _ => upholds_receive h f) fun _ => h.same

theorem upholds_nextRequest (h : Upholds s t) : Upholds s (nextRequest t) := by
  unfold nextRequest
  dsimp only
  split
  · exact upholds_handleFrame h.same _
  · exact h.same

theorem upholds_noticesTaken (h : Upholds s t) : Upholds s (noticesTaken t) where
  __ := h
  notices w := by
    obtain ⟨hl, hp⟩ := h.notices w
    exact ⟨(List.length_filter_le _ _).trans hl, hp.filter _⟩

theorem upholds_historyTaken (h : Upholds s t) (n : Nat) (g : Bool) : Upholds s (historyTaken n g t) :=
  upholds_history h fun w => History.readDone_wf w n g

end
end Sys2Proof.Machine

/-! Every command answers a next state that keeps the promises of Safety.lean: O2, O58, O59 and O60. -/

namespace Sys2Proof.Machine

set_option Elab.async false

/-! ### The promises of a whole command -/

/-- `t` keeps the promises where `s` does, those about retained memory also for what a lost group leaves, and the queue of commands. -/
structure Promises (s t : State) : Prop where
  owner : s.line.oneOwner = true → t.line.oneOwner = true
  valve : s.valve.wf → t.valve.wf
  bounded : s.Bounded → t.Bounded
  capacity : s.CapacityBounded → t.CapacityBounded
  roster : s.RosterDistinct → t.RosterDistinct
  pending : t.pending = s.pending

theorem Promises.refl (s : State) : Promises s s := ⟨id, id, id, id, id, rfl⟩

theorem Promises.trans {s t u : State} (h : Promises s t) (h' : Promises t u) : Promises s u :=
  ⟨h'.owner ∘ h.owner, h'.valve ∘ h.valve, h'.bounded ∘ h.bounded, h'.capacity ∘ h.capacity, h'.roster ∘ h.roster,
    h'.pending.trans h.pending⟩

/-- What retained memory holds of the usage history has its form when the history has. -/
theorem History.kept_wf (h : History) : h.kept.wf ↔ h.wf := by simp [History.kept, History.wf]

/-- What retained memory holds of the roster has its form when the roster has. -/
theorem rosterWf_kept (v : Vector PodSlot 8) : rosterWf (v.map PodSlot.kept) ↔ rosterWf v := by
  simp [rosterWf, PodSlot.kept, Vector.get_eq_getElem]

theorem State.keeps_of {P Q : Retained → Prop} {s t : State} (hb : t.before = s.before) (hk : P s.kept → Q t.kept)
    (hm : ∀ m, P m → Q m) (h : s.Keeps P) : t.Keeps Q :=
  ⟨hk h.1, fun m e => hm m (h.2 m (hb ▸ e))⟩

theorem Upholds.promises {s t : State} (h : Upholds s t) : Promises s t where
  owner := h.owner
  valve := h.valve
  bounded := fun ⟨hn, hk⟩ => ⟨h.notices hn, State.keeps_of h.before
    (fun ⟨hf, hh⟩ => ⟨h.faults hf, (History.kept_wf _).2 (h.history ((History.kept_wf _).1 hh))⟩) (fun _ => id) hk⟩
  capacity := State.keeps_of h.before h.capacity fun _ => id
  roster := State.keeps_of h.before
    (fun w => (rosterWf_kept _).2 (h.roster ((rosterWf_kept _).1 w))) fun _ => id
  pending := h.pending

/-- What a command leaves for a lost group is what retained memory held before it, or what it left already. -/
theorem State.keeps_since {P : Retained → Prop} {s t : State} (hs : s.Keeps P) (ht : t.Keeps P) : (s.since t).Keeps P := by
  refine ⟨ht.1, fun m e => ?_⟩
  simp only [State.since] at e
  split at e
  · exact ht.2 m e
  · exact Option.some.inj e ▸ hs.1

theorem Promises.since {s t : State} (h : Promises s t) : Promises s (s.since t) where
  owner := h.owner
  valve := h.valve
  bounded w := ⟨(h.bounded w).1, State.keeps_since w.2 (h.bounded w).2⟩
  capacity w := State.keeps_since w (h.capacity w)
  roster w := State.keeps_since w (h.roster w)
  pending := h.pending

/-- Retained memory after a lost group holds what it held before that group. -/
theorem State.keeps_recall {P : Retained → Prop} (hP : ∀ m, P m → P (State.reset.recall m).kept) (s : State) {m : Retained}
    (h : P m) : ({ s.recall m with before := none } : State).Keeps P := by
  refine ⟨?_, fun _ e => absurd e (by simp)⟩
  have : ({ s.recall m with before := none } : State).kept = (State.reset.recall m).kept := rfl
  rw [this]
  exact hP m h

theorem State.keeps_found {P : Retained → Prop} (hP : ∀ m, P m → P (State.reset.recall m).kept) {s : State} (lost : Bool)
    (h : s.Keeps P) : (s.found lost).Keeps P := by
  unfold State.found
  split
  next m e => exact State.keeps_recall hP s (h.2 m e)
  · exact ⟨h.1, fun _ e => absurd e (by simp)⟩

theorem found_line (lost : Bool) (s : State) : (s.found lost).line = s.line := by unfold State.found; split <;> rfl
theorem found_notices (lost : Bool) (s : State) : (s.found lost).notices = s.notices := by unfold State.found; split <;> rfl
theorem found_pending (lost : Bool) (s : State) : (s.found lost).pending = s.pending := by unfold State.found; split <;> rfl
theorem found_valve_wf (lost : Bool) (s : State) (h : s.valve.wf) : (s.found lost).valve.wf := by
  unfold State.found; split <;> exact h

theorem promises_found (lost : Bool) (s : State) : Promises s (s.found lost) where
  owner := by rw [found_line]; exact id
  valve := found_valve_wf lost s
  bounded := fun ⟨hn, hk⟩ => ⟨by rw [found_notices]; exact hn,
    State.keeps_found (fun _ ⟨hf, hh⟩ => ⟨hf, (History.kept_wf _).2 hh⟩) lost hk⟩
  capacity := State.keeps_found (fun _ => id) lost
  roster := State.keeps_found (fun _ => (rosterWf_kept _).2) lost
  pending := found_pending lost s

theorem promises_coldStart (x : RestartInputs) (s : State) : Promises s (coldStart x s) :=
  (promises_found x.lost s).trans (upholds_restartBlocks (upholds_coldHour (upholds_loseFlights (.refl _))) true x).promises.since

theorem promises_warmReset (x : RestartInputs) (s : State) : Promises s (warmReset x s) :=
  (promises_found x.lost s).trans (upholds_restartBlocks (upholds_warmHour (upholds_loseFlights (.refl _))) false x).promises.since

/-! ### The state after reset -/

theorem State.reset_keeps {P : Retained → Prop} (h : P State.reset.kept) : State.reset.Keeps P :=
  ⟨h, fun _ e => absurd e (by simp [State.reset])⟩

theorem State.reset_bounded : State.reset.Bounded :=
  ⟨⟨by decide, by decide⟩, State.reset_keeps ⟨⟨by decide, List.Pairwise.nil⟩, by decide, by decide⟩⟩

theorem State.reset_capacityBounded : State.reset.CapacityBounded :=
  State.reset_keeps fun k => by cases k <;> exact ⟨by decide, by decide⟩

theorem State.reset_rosterDistinct : State.reset.RosterDistinct := by
  refine State.reset_keeps ((rosterWf_kept _).2 ⟨by decide, ?_⟩)
  decide

theorem promises_blank (s : State) : Promises s (State.blank s.pending) where
  owner _ := rfl
  valve _ := Valve.wf_of_stopped rfl
  bounded _ := State.reset_bounded
  capacity _ := State.reset_capacityBounded
  roster _ := State.reset_rosterDistinct
  pending := rfl

theorem promises_firstStart (x : RestartInputs) (s : State) : Promises s (firstStart x s) :=
  (promises_blank s).trans (promises_coldStart x _)

/-! ### Commands -/

/-- How a command `c` ends in `s`: with no effect, with one that upholds the promises, or in one of the starts of the part. -/
inductive Ends (s : State) : Instr → State → Prop where
  | idle (c : Instr) : Ends s c s
  | effect (c : Instr) {u : State} (h : Upholds s u) : Ends s c (s.since u)
  | cold (x : RestartInputs) : Ends s (.coldStart x) (coldStart x s)
  | first (x : RestartInputs) : Ends s (.firstStart x) (firstStart x s)
  | warm (x : RestartInputs) : Ends s (.warmReset x) (warmReset x s)
  | mains : Ends s .mainsReturned (coldStart { s.restartInputs with mains := true } s)
  | reset (svc : Bool) : Ends s (.replyComplete svc) (s.since (warmReset (s.withSvc svc).restartInputs (s.withSvc svc)))

theorem upholds_withSvc (s : State) (svc : Bool) : Upholds s (s.withSvc svc) := (Upholds.refl s).same

theorem Ends.promises {s t : State} {c : Instr} (h : Ends s c t) : Promises s t := by
  cases h with
  | idle => exact .refl s
  | effect _ h => exact h.promises.since
  | cold x => exact promises_coldStart x s
  | first x => exact promises_firstStart x s
  | warm x => exact promises_warmReset x s
  | mains => exact promises_coldStart _ s
  | reset svc => exact ((upholds_withSvc s svc).promises.trans (promises_warmReset _ _)).since

section
variable {s : State} {f : State → State} {c : Instr}

/-- A command that has no effect while the part is stopped. -/
theorem ends_whenOn (h : Upholds s (f s)) : ∃ t, whenOn f s = .next t ∧ Ends s c t := by
  unfold whenOn
  split
  · exact ⟨s, rfl, .idle c⟩
  · exact ⟨_, rfl, .effect c h⟩

/-- An event of the part, with what follows it. -/
theorem ends_event (h : Upholds s (f s)) : ∃ t, event f s = .next t ∧ Ends s c t :=
  ends_whenOn (f := fun s => follow (f s)) (upholds_follow h)

/-- A command of the serial line. -/
theorem ends_lineEvent (svc : Bool) (h : ∀ t, Upholds s t → Upholds s (f t)) : ∃ t, lineEvent svc f s = .next t ∧ Ends s c t :=
  ends_whenOn (f := fun s => f (s.withSvc svc)) (h _ (upholds_withSvc s svc))

/-- A frame that arrives. -/
theorem ends_deliver (svc : Bool) (g : Frame) : ∃ t, lineEvent svc (deliver g) s = .next t ∧ Ends s c t :=
  ends_lineEvent svc fun _ h => upholds_deliver h g

/-- A reply completes: the next request is handled, or a RESET's warm reset is made. -/
theorem ends_replyDone (svc : Bool) :
    ∃ t, lineEvent svc replyDone s = .next t ∧ Ends s (.replyComplete svc) t := by
  have h := upholds_withSvc s svc
  by_cases hreset : ∃ x, (s.withSvc svc).link.handling = some x ∧ x.completion = .reset
  · obtain ⟨x, hx, hc⟩ := hreset
    have e : replyDone (s.withSvc svc) = warmReset (s.withSvc svc).restartInputs (s.withSvc svc) := by
      simp only [replyDone, hx, hc]
    rw [lineEvent, whenOn]
    split
    · exact ⟨s, rfl, .idle _⟩
    · exact ⟨_, rfl, e ▸ .reset svc⟩
  · refine ends_whenOn (f := fun s => replyDone (s.withSvc svc)) ?_
    unfold replyDone
    split
    · exact h
    next x hx =>
      split
      · exact upholds_nextRequest h
      · exact upholds_nextRequest (upholds_noticesTaken h)
      · exact upholds_nextRequest (upholds_historyTaken h _ _)
      next hc => exact absurd ⟨x, hx, hc⟩ hreset

theorem upholds_endSwitchMade (e : ValveEnd) (s : State) : Upholds s (endSwitchMade e s) := by
  have h := Upholds.refl s
  exact .ite (fun _ => h) fun _ => .ite (fun _ => upholds_openedDecision (upholds_valveArrive h.same e) s)
    fun _ => .ite (fun _ => upholds_switchFault h.same) fun _ => h.same

theorem upholds_runReleased {t : State} (h : Upholds s t) : Upholds s (runReleased t) :=
  .ite (fun _ => { h with valve := h.valve }) fun _ => h

theorem upholds_endSwitchReleased (e : ValveEnd) (s : State) : Upholds s (endSwitchReleased e s) := by
  have h := Upholds.refl s
  exact .ite (fun _ => upholds_runReleased h) fun _ => .ite (fun _ => upholds_beginTravel h.same) fun _ => h.same

theorem upholds_bothSwitchesMade (s : State) : Upholds s (bothSwitchesMade s) :=
  .ite (fun _ => .refl s) fun _ => upholds_switchFault (Upholds.refl s).same

theorem upholds_travelLimitReached (s : State) : Upholds s (travelLimitReached s) := by
  have h := Upholds.refl s
  have timed : Upholds s { s with valve := { s.valve with travel := s.settings.inst.travelLimit } } := { h with valve := h.valve }
  exact .ite (fun _ => h) fun _ => upholds_attemptFails timed false

theorem upholds_valveStalled (s : State) : Upholds s (valveStalled s) := by
  have h := Upholds.refl s
  have timed : Upholds s { s with valve := { s.valve with overcurrent := 500 } } := { h with valve := h.valve }
  exact .ite (fun _ => h) fun _ => upholds_attemptFails timed true

theorem upholds_mainsLoss (s : State) : Upholds s (mainsLoss s) := by
  have h := Upholds.refl s
  exact .ite (fun _ => upholds_supplyChange h.same _) fun _ => h.same

theorem upholds_mainsReturn (s : State) : Upholds s (mainsReturn s) := upholds_supplyChange (Upholds.refl s).same _

end

/-- Every command answers a next state, in one of the ways of `Ends`. -/
theorem exec_ends (c : Instr) (s : State) : ∃ t, exec c s = .next t ∧ Ends s c t := by
  have h := Upholds.refl s
  cases c with
  | coldStart x => exact ⟨_, rfl, .cold x⟩
  | firstStart x => exact ⟨_, rfl, .first x⟩
  | warmReset x =>
    refine ⟨_, rfl, ?_⟩
    split
    · exact .idle _
    · exact .warm x
  | meteringSecond x => exact ends_whenOn (upholds_runSecond h x)
  | meterLossBegin => exact ends_event (upholds_meterLossBegin h)
  | meterLossEnd => exact ends_event (upholds_meterLossEnd h)
  | processFlowUnownedBegin => exact ends_event (upholds_unownedBegin h)
  | processFlowUnownedEnd => exact ends_event (upholds_unownedEnd h)
  | midnight => exact ends_event (upholds_midnight h)
  | hourClose => exact ends_event (upholds_hourClose h)
  | frontDetected k => exact ends_event (upholds_frontDetected h k)
  | inPlaceSet code => exact ends_event (upholds_inPlaceSet h code)
  | inPlaceClear => exact ends_event (upholds_inPlaceClear h)
  | discTimeout => exact ends_event (upholds_discTimeout h)
  | discStall => exact ends_event (upholds_discStall h)
  | discRestartObservation lit code => exact ends_event (upholds_discObserved h lit code)
  | changeoverBegin => exact ends_event (upholds_changeoverBegin h)
  | dwellEnd => exact ends_event (upholds_dwellEnd h)
  | calendarFallback => exact ends_event (upholds_calendarFallback h)
  | regenClaim => exact ends_event (f := fun s => regenClaim .b (regenClaim .a s)) (upholds_regenClaim (upholds_regenClaim h .a) .b)
  | stepEnd => exact ends_event (f := fun s => stepEnd .b (stepEnd .a s)) (upholds_stepEnd (upholds_stepEnd h .a) .b)
  | brine1200 => exact ends_event (f := fun s => brine1200 .b (brine1200 .a s)) (upholds_brine1200 (upholds_brine1200 h .a) .b)
  | sequencerMoveRequest => exact ends_event (upholds_waitingMoves h)
  | postRegenReading d => exact ends_event (upholds_postReading h d)
  | baselineSet => exact ends_event (upholds_baselineSet h)
  | flushVolumeReached => exact ends_event (upholds_flushVolumeReached h)
  | flushClaim => exact ends_event (upholds_flushClaim h)
  | flushEnd => exact ends_event (upholds_flushEnd h)
  | eventBegin => exact ends_event (f := fun s => eventBegin s.meter.cond.lossActive s) (upholds_eventBegin h _)
  | eventEnd => exact ends_event (upholds_eventEnd h)
  | flowTrip => exact ends_event (f := fun s => flowTrip s.meter.cond.lossActive s) (upholds_flowTrip h _)
  | testDue => exact ends_event (upholds_testDue h)
  | claimWaitExpiry => exact ends_event (upholds_claimWaitExpiry h)
  | testSettle => exact ends_event (upholds_testSettle h)
  | holdBegin => exact ends_event (upholds_holdBegin h)
  | holdEnd => exact ends_event (upholds_holdEnd h)
  | endSwitchArrival e => exact ends_event (upholds_endSwitchMade e s)
  | valveTravelLimit => exact ends_event (upholds_travelLimitReached s)
  | valveOvercurrent => exact ends_event (upholds_valveStalled s)
  | valvePauseEnd => exact ends_event (upholds_pauseEnd h)
  | shutoffSwitch => exact ends_event (upholds_bothSwitchesMade s)
  | endSwitchRelease e => exact ends_event (upholds_endSwitchReleased e s)
  | exerciseCue => exact ends_event (upholds_exerciseCue h)
  | exerciseStart => exact ends_event (upholds_exerciseStart h)
  | exerciseArmedExpiry => exact ends_event (upholds_armedExpiry h)
  | closeRunEnd ms => exact ends_event (upholds_closeRunEnd h ms)
  | mainsLost => exact ends_event (upholds_mainsLoss s)
  | mainsReturned =>
    show ∃ t, (if s.stopped then _ else event mainsReturn s) = _ ∧ _
    split
    · exact ⟨_, rfl, .mains⟩
    · exact ends_event (upholds_mainsReturn s)
  | voltageSteady => exact ends_event (upholds_voltageSteady h)
  | poll => exact ends_whenOn (upholds_pollSend h)
  | pollAnswer slot seq wet batteryLow tamper temperature good => exact ends_event (upholds_takeAnswer h slot seq _ good)
  | pollAnswerMissed => exact ends_event (upholds_answerMissed h)
  | podMissing n => exact ends_event (upholds_podMissing h n)
  | podLost n => exact ends_event (upholds_podLost h n)
  | enrolCall => exact ends_whenOn (upholds_enrolCall h)
  | enrolAnswer serial good d => exact ends_whenOn (upholds_enrolAnswer h serial good d)
  | enrolWindowClose => exact ends_whenOn (upholds_enrolWindowClose h)
  | frameReceived bytes svc =>
    refine ends_lineEvent (f := fun s => match frameOfBytes bytes with | some g => receive g s | none => frameDropped s) svc
      fun t h => ?_
    split
    · exact upholds_receive h _
    · exact upholds_frameDropped h
  | frameTimeout => exact ends_whenOn (upholds_frameDropped h)
  | frameBadLength n =>
    exact ends_whenOn (f := fun s => if lengthBad n then frameDropped s else s)
      (Upholds.ite (fun _ => upholds_frameDropped h) fun _ => h)
  | replyComplete svc => exact ends_replyDone svc
  | frameStart => exact ends_whenOn (f := frameBegins) (h.same (u := frameBegins s))
  | openEndReleaseInRun => exact ends_event (upholds_runReleased h)
  | frameReject kind tag payload crc svc => exact ends_deliver svc _
  | unknownKind kind tag payload svc => exact ends_deliver svc _
  | badLength kind tag payload svc => exact ends_deliver svc _
  | identify tag svc => exact ends_deliver svc _
  | status tag svc => exact ends_deliver svc _
  | get tag id svc => exact ends_deliver svc _
  | set tag id v svc => exact ends_deliver svc _
  | clockSet tag d n svc => exact ends_deliver svc _
  | noticeTake tag svc => exact ends_deliver svc _
  | noticePeek tag svc => exact ends_deliver svc _
  | historyRead tag svc => exact ends_deliver svc _
  | historyClear tag svc => exact ends_deliver svc _
  | totalsRead tag svc => exact ends_deliver svc _
  | totalsClear tag svc => exact ends_deliver svc _
  | tankCmdRegen tag k svc => exact ends_deliver svc _
  | tankCmdChangeover tag k svc => exact ends_deliver svc _
  | tankCmdHalt tag k svc => exact ends_deliver svc _
  | tankCmdResume tag k svc => exact ends_deliver svc _
  | tankCmdSkip tag k svc => exact ends_deliver svc _
  | discStep tag svc => exact ends_deliver svc _
  | discRetry tag svc => exact ends_deliver svc _
  | flushCmd tag svc => exact ends_deliver svc _
  | shutoffCmdClose tag svc => exact ends_deliver svc _
  | shutoffCmdOpen tag svc => exact ends_deliver svc _
  | shutoffCmdRetry tag svc => exact ends_deliver svc _
  | leakReset tag o svc => exact ends_deliver svc _
  | pressureTest tag svc => exact ends_deliver svc _
  | saltFilled tag g svc => exact ends_deliver svc _
  | cartridgeFitted tag svc => exact ends_deliver svc _
  | podEnrol tag d svc => exact ends_deliver svc _
  | podRemove tag n svc => exact ends_deliver svc _
  | podList tag svc => exact ends_deliver svc _
  | podLabel tag n fl l svc => exact ends_deliver svc _
  | faultsRead tag svc => exact ends_deliver svc _
  | faultsClear tag svc => exact ends_deliver svc _
  | defaultsRestore tag svc => exact ends_deliver svc _
  | reset tag svc => exact ends_deliver svc _

/-- A step keeps the promises but for the queue, from which it takes the command it runs. -/
theorem step_promises {s t : State} (h : step s = .next t) : ∃ rest, Promises { s with pending := rest } t := by
  unfold step at h
  split at h
  · exact ⟨s.pending, by cases h; exact .refl s⟩
  next c rest _ =>
    obtain ⟨u, hu, hp⟩ := exec_ends c { s with pending := rest }
    rw [hu] at h
    cases h
    exact ⟨rest, hp.promises⟩

/-! ### The statements -/

/-- Settles O2: there is a next state for each command, and no block touches the queue of commands. -/
theorem everyCommandCompletes : Obligations.EveryCommandCompletes := by
  intro c s
  obtain ⟨t, ht, hp⟩ := exec_ends c s
  exact ⟨t, ht, hp.promises.pending⟩

/-- Settles O58: each operation on the line grants only where nobody owns it, and each one on the valve stops the motor where it rests. -/
theorem lineKeepsOneOwner : Obligations.LineKeepsOneOwner := by
  refine ⟨fun s t h e => ?_, fun s t h e => ?_⟩
  · obtain ⟨_, hp⟩ := step_promises e
    exact hp.owner h
  · obtain ⟨_, hp⟩ := step_promises e
    exact hp.valve h

/-- Settles O59: each operation on a log or a record keeps its bounds, and a lost group leaves what a step before it had kept. -/
theorem logsStayBounded : Obligations.LogsStayBounded := by
  refine ⟨fun s t h e => ?_, fun s t h e => ?_, fun s t h e => ?_⟩
  · obtain ⟨_, hp⟩ := step_promises e
    exact hp.bounded h
  · obtain ⟨_, hp⟩ := step_promises e
    exact hp.capacity h
  · obtain ⟨_, hp⟩ := step_promises e
    exact hp.roster h

/-- Settles O60: the state after reset is one value, read off clause by clause. -/
theorem resetMeetsTheInvariants : Obligations.ResetMeetsTheInvariants :=
  ⟨rfl, State.reset_bounded, State.reset_capacityBounded, State.reset_rosterDistinct, Valve.wf_of_stopped rfl, rfl, rfl⟩

end Sys2Proof.Machine

/-! The machine's own statements, what follows an event, the two logs and the payload code: O1, O3, O4, O56 and O57. -/

namespace Sys2Proof.Machine

set_option Elab.async false

/-! ### The machine -/

/-- Settles O1: both equations are the definition of a step. -/
theorem stepRunsTheFrontOfTheQueue : Obligations.StepRunsTheFrontOfTheQueue := by
  refine ⟨fun c rest s => ?_, fun s h => ?_⟩
  · simp only [step]
  · rw [step, h]

/-- A command that acts only while the part runs has no effect on a stopped part (R152). -/
theorem whenOn_stopped {s : State} (h : s.stopped = true) (f : State → State) : whenOn f s = .next s := by
  rw [whenOn, if_pos h]

section
variable {s : State} (h : s.stopped = true)
include h

theorem event_stopped (f : State → State) : event f s = .next s := whenOn_stopped h _

theorem lineEvent_stopped (svc : Bool) (f : State → State) : lineEvent svc f s = .next s := whenOn_stopped h _

theorem request_stopped (svc : Bool) (r : Request) (tag : Byte) : request svc r tag s = .next s := lineEvent_stopped h svc _

theorem execWarmReset_stopped (x : RestartInputs) : execWarmReset x s = .next s := by rw [execWarmReset, if_pos h]

theorem execMainsReturned_stopped :
    execMainsReturned s = .next (coldStart { s.restartInputs with mains := true } s) := by rw [execMainsReturned, if_pos h]

end

/-- A command that is a request is the arrival of its frame. -/
theorem exec_request {c : Instr} {r : Request} {svc : Bool} {tag : Byte} (h : requestOf c = some (r, svc, tag)) (s : State) :
    exec c s = request svc r tag s := by
  cases c
  all_goals cases h
  all_goals rfl

/-- Settles O3: all commands but the three starts act only while the part runs. -/
theorem stoppedUntilMainsReturns : Obligations.StoppedUntilMainsReturns := by
  intro c s h
  cases hr : requestOf c with
  | some q =>
    obtain ⟨r, svc, tag⟩ := q
    rw [exec_request hr, request_stopped h]
    cases c
    all_goals cases hr
    all_goals rfl
  | none =>
    cases c
    case coldStart | firstStart => rfl
    case warmReset x => exact execWarmReset_stopped h x
    case mainsReturned => exact execMainsReturned_stopped h
    case meteringSecond | poll | enrolCall | enrolAnswer | enrolWindowClose | frameTimeout | frameBadLength | frameStart =>
      exact whenOn_stopped h _
    case frameReceived bytes svc => exact lineEvent_stopped h svc (fun _ => _)
    case regenClaim | stepEnd | brine1200 | eventBegin | flowTrip => exact event_stopped h (fun _ => _)
    case frameReject | unknownKind | badLength | replyComplete => exact lineEvent_stopped h _ _
    all_goals cases hr
    all_goals exact event_stopped h _

/-! ### What follows an event -/

/-- A step is not suspended and stays so where it is not IN_STEP. -/
theorem suspension_calm {k : Tank} {s : State} (hphase : (s.tank k).phase ≠ some .inStep) (hs : (s.tank k).suspended = false) :
    suspension k s = s := by
  have hnow : suspendedNow k s = false := by simp [suspendedNow, hphase]
  have same : { s.tank k with suspended := suspendedNow k s } = s.tank k := by rw [hnow, ← hs]
  rw [suspension, same, changeTank, withTank_self]
  exact if_pos ⟨rfl, rfl, rfl, rfl⟩

theorem stepMove_idle {k : Tank} {s : State} (h : (s.tank k).service ≠ .regenerating) : stepMove k s = s :=
  if_neg fun hc => h hc.1

theorem regenClaim_idle {k : Tank} {s : State} (h : (s.tank k).service ≠ .exhausted) : regenClaim k s = s := by
  have hc : claimHeld k s = false := by simp [claimHeld, h]
  rw [regenClaim, hc, if_neg Bool.false_ne_true, if_neg h]

theorem flushClaim_idle {s : State} (h : s.filter.due = {}) : flushClaim s = s := by
  unfold flushClaim
  rw [h]
  dsimp only
  split
  · simp
  · simp [DueSet.automatic]

/-- Settles O4: `calm_follow` for what stays, and one lemma for each standing rule that finds nothing to do. -/
theorem whatFollowsAnEvent : Obligations.WhatFollowsAnEvent := by
  refine ⟨fun s => ?_, fun s htank hdue => ?_⟩
  · simp
  · have move (k : Tank) : stepMove k s = s := stepMove_idle (htank k).2.1
    have claim (k : Tank) : regenClaim k s = s := regenClaim_idle (htank k).1
    have suspend (k : Tank) : suspension k s = s := by
      obtain ⟨-, -, hphase, hs⟩ := htank k
      exact suspension_calm hphase hs
    unfold follow standing
    simp only [move, claim, flushClaim_idle hdue, suspend, ite_self]

/-! ### The two logs (R181, R182, R186) -/

theorem Notice.mergesInto_iff (n m : Notice) :
    n.mergesInto m = true ↔ isStateKind n.kind = true ∧ m.kind = n.kind ∧ m.subject = n.subject := by
  simp [Notice.mergesInto, and_assoc]

theorem Notice.not_mergesInto {n m : Notice} (h : isStateKind n.kind = false ∨ m.kind ≠ n.kind ∨ m.subject ≠ n.subject) :
    n.mergesInto m = false := by
  rw [← Bool.not_eq_true, Notice.mergesInto_iff]
  rcases h with h | h | h <;> simp [h]

theorem FaultRecord.isFor_iff (c : FaultCode) (u : Subject) (r : FaultRecord) :
    r.isFor c u = true ↔ r.code = c ∧ r.subject = u := by simp [FaultRecord.isFor]

theorem FaultRecord.not_isFor {c : FaultCode} {u : Subject} {r : FaultRecord} (h : r.code ≠ c ∨ r.subject ≠ u) :
    r.isFor c u = false := by
  rw [← Bool.not_eq_true, FaultRecord.isFor_iff]
  rcases h with h | h <;> simp [h]

/-- Replacing the one element that a test picks out of a list. -/
theorem map_if_unique {α : Type} {p : α → Bool} {f : α → α} {pre rest : List α} {m : α} (hm : p m = true)
    (hpre : ∀ x ∈ pre, p x = false) (hrest : ∀ x ∈ rest, p x = false) :
    (pre ++ m :: rest).map (fun x => if p x then f x else x) = pre ++ f m :: rest := by
  have same (l : List α) (h : ∀ x ∈ l, p x = false) : l.map (fun x => if p x then f x else x) = l :=
    (List.map_congr_left fun x hx => by simp [h x hx]).trans (List.map_id l)
  rw [List.map_append, List.map_cons, same pre hpre, same rest hrest, if_pos hm]

theorem NoticeQueue.post_merge {q : NoticeQueue} {n m : Notice} {pre rest : List Notice} (hq : q.queue = pre ++ m :: rest)
    (hm : n.mergesInto m = true) (hother : ∀ x ∈ pre ++ rest, n.mergesInto x = false) :
    q.post n = { q with queue := pre ++ m.merge n :: rest } := by
  have found : q.queue.any n.mergesInto = true := List.any_eq_true.2 ⟨m, by simp [hq], hm⟩
  rw [NoticeQueue.post, if_pos found, hq, map_if_unique hm (fun x hx => hother x (by simp [hx])) fun x hx => hother x (by simp [hx])]

section
variable {q : NoticeQueue} {n : Notice} (h : ∀ m ∈ q.queue, n.mergesInto m = false)
include h

theorem NoticeQueue.any_mergesInto_false : q.queue.any n.mergesInto = false := by simpa using h

theorem NoticeQueue.post_append (hl : q.queue.length < 24) : q.post n = { q with queue := q.queue ++ [n] } := by
  simp [NoticeQueue.post, NoticeQueue.any_mergesInto_false h, hl]

theorem NoticeQueue.post_replace {m : Notice} {pre rest : List Notice} (hl : q.queue.length = 24) (hq : q.queue = pre ++ m :: rest)
    (hm : isStateKind m.kind = true) (hpre : ∀ x ∈ pre, isStateKind x.kind = false) :
    q.post n = { q with queue := pre ++ rest ++ [n] } := by
  have some_state : (q.queue.any fun m => isStateKind m.kind) = true := List.any_eq_true.2 ⟨m, by simp [hq], hm⟩
  have erased : (q.queue.eraseP fun m => isStateKind m.kind) = pre ++ rest := by
    rw [hq, List.eraseP_append_right _ (by simpa using hpre), List.eraseP_cons_of_pos (p := fun m : Notice => isStateKind m.kind) hm]
  rw [NoticeQueue.post, NoticeQueue.any_mergesInto_false h, if_neg Bool.false_ne_true, if_neg (by omega), if_pos some_state, erased]

theorem NoticeQueue.post_lost (hl : q.queue.length = 24) (hn : ∀ x ∈ q.queue, isStateKind x.kind = false) :
    q.post n = { q with lost := true } := by
  have no_state : (q.queue.any fun m => isStateKind m.kind) = false := by simpa using hn
  rw [NoticeQueue.post, NoticeQueue.any_mergesInto_false h, if_neg Bool.false_ne_true, if_neg (by omega), no_state,
    if_neg Bool.false_ne_true]

end

section
variable {l : FaultLog} {c : FaultCode} {u : Subject} {d : Int} {t : Stamp}

theorem FaultLog.report_again {r : FaultRecord} {pre rest : List FaultRecord} (hl : l.records = pre ++ r :: rest)
    (hr : r.isFor c u = true) (hother : ∀ x ∈ pre ++ rest, x.isFor c u = false) : l.report c u d t = { l with records :=
      pre ++ { r with last := t, count := min 255 (r.count + 1), detail := d, active := true } :: rest } := by
  have found : l.records.any (FaultRecord.isFor c u) = true := List.any_eq_true.2 ⟨r, by simp [hl], hr⟩
  rw [FaultLog.report, if_pos found, hl,
    map_if_unique hr (fun x hx => hother x (by simp [hx])) fun x hx => hother x (by simp [hx])]
  rfl

theorem FaultLog.gone_found {r : FaultRecord} {pre rest : List FaultRecord} (hl : l.records = pre ++ r :: rest)
    (hr : r.isFor c u = true) (hother : ∀ x ∈ pre ++ rest, x.isFor c u = false) :
    l.gone c u = { l with records := pre ++ { r with active := false } :: rest } := by
  rw [FaultLog.gone, hl, map_if_unique hr (fun x hx => hother x (by simp [hx])) fun x hx => hother x (by simp [hx])]

theorem FaultLog.gone_absent (h : ∀ x ∈ l.records, x.isFor c u = false) : l.gone c u = l := by
  have same : l.records.map (fun r => if r.isFor c u then { r with active := false } else r) = l.records :=
    (List.map_congr_left fun x hx => by simp [h x hx]).trans (List.map_id _)
  rw [FaultLog.gone, same]

theorem FaultLog.countOf_found {r : FaultRecord} {pre rest : List FaultRecord} (hl : l.records = pre ++ r :: rest)
    (hr : r.isFor c u = true) (hpre : ∀ x ∈ pre, x.isFor c u = false) : l.countOf c u = r.count := by
  have found : l.records.find? (FaultRecord.isFor c u) = some r := by
    rw [hl, List.find?_append, List.find?_eq_none.2 (by simpa using hpre), Option.none_or, List.find?_cons_of_pos hr]
  rw [FaultLog.countOf, found]

theorem FaultLog.countOf_absent (h : ∀ x ∈ l.records, x.isFor c u = false) : l.countOf c u = 0 := by
  have absent : l.records.find? (FaultRecord.isFor c u) = none := List.find?_eq_none.2 (by simpa using h)
  rw [FaultLog.countOf, absent]

theorem FaultLog.report_new (h : ∀ x ∈ l.records, x.isFor c u = false) (hl : l.records.length < 8) :
    l.report c u d t = { l with records := l.records ++
      [{ code := c, subject := u, first := t, last := t, count := 1, active := true, detail := d }] } := by
  have absent : l.records.any (FaultRecord.isFor c u) = false := by simpa using h
  rw [FaultLog.report, absent, if_neg Bool.false_ne_true, if_pos hl]

theorem FaultLog.report_full (h : ∀ x ∈ l.records, x.isFor c u = false) (hl : l.records.length = 8) :
    l.report c u d t = { l with overflow := true } := by
  have absent : l.records.any (FaultRecord.isFor c u) = false := by simpa using h
  rw [FaultLog.report, absent, if_neg Bool.false_ne_true, if_neg (by omega)]

end

/-- Settles O56: one lemma for each row of R181, R182 and R186, with the tests of the rows read as equations. -/
theorem noticesAndFaultsAreKept : Obligations.NoticesAndFaultsAreKept := by
  refine ⟨fun q n => ⟨?merge, fun h => ?other⟩, fun c u d s => ⟨?again, fun h => ?new⟩⟩
  case merge =>
    intro pre m rest hq hs hk hu hother
    exact NoticeQueue.post_merge hq ((Notice.mergesInto_iff n m).2 ⟨hs, hk, hu⟩) fun x hx =>
      Notice.not_mergesInto (.inr (hother x hx))
  case other =>
    have h' : ∀ m ∈ q.queue, n.mergesInto m = false := fun m hm => Notice.not_mergesInto (h.imp_right fun hq => hq m hm)
    exact ⟨NoticeQueue.post_append h', fun pre m rest => NoticeQueue.post_replace h', NoticeQueue.post_lost h'⟩
  case again =>
    intro pre r rest hl hc hu hother
    have hr : r.isFor c u = true := (FaultRecord.isFor_iff c u r).2 ⟨hc, hu⟩
    have hother' : ∀ x ∈ pre ++ rest, x.isFor c u = false := fun x hx => FaultRecord.not_isFor (hother x hx)
    refine ⟨?_, ?_⟩
    · rw [faultReport, FaultLog.report_again hl hr hother',
        FaultLog.countOf_found (pre := pre) (rest := rest) (r := { r with
          last := s.now, count := min 255 (r.count + 1), detail := d, active := true }) rfl hr fun x hx => hother' x (by simp [hx])]
    · rw [faultGone, FaultLog.gone_found hl hr hother']
  case new =>
    have h' : ∀ x ∈ s.faults.records, x.isFor c u = false := fun x hx => FaultRecord.not_isFor (h x hx)
    refine ⟨by rw [faultGone, FaultLog.gone_absent h'], fun hl => ?_, fun hl => ?_⟩
    · rw [faultReport, FaultLog.report_new h' hl, FaultLog.countOf_found (pre := s.faults.records) (rest := []) rfl
        (by simp [FaultRecord.isFor]) h']
      rfl
    · rw [faultReport, FaultLog.report_full h' hl, FaultLog.countOf_absent (l := { s.faults with overflow := true }) h']
      rfl

/-! ### The payload code (section 11.3) -/

theorem parseNone_iff {r r' : Request} {p : List Byte} : parseNone r p = .request r' ↔ p = [] ∧ r = r' := by
  cases p <;> simp [parseNone]

theorem parseByte_iff {f : Byte → Request} {p : List Byte} {r : Request} :
    parseByte f p = .request r ↔ ∃ a, p = [a] ∧ f a = r := by
  unfold parseByte
  split <;> simp_all

theorem parseTwo_iff {f : Byte → Byte → Request} {p : List Byte} {r : Request} :
    parseTwo f p = .request r ↔ ∃ a b, p = [a, b] ∧ f a b = r := by
  unfold parseTwo
  split <;> simp_all

theorem parseWord_iff {f : BitVec 32 → Request} {p : List Byte} {r : Request} :
    parseWord f p = .request r ↔ ∃ a b c d, p = [a, b, c, d] ∧ f (word32 a b c d) = r := by
  unfold parseWord
  split <;> simp_all

theorem parseSet_iff {p : List Byte} {r : Request} :
    parseSet p = .request r ↔ ∃ n a b c d, p = [n, a, b, c, d] ∧ .set n (word32 a b c d) = r := by
  unfold parseSet
  split <;> simp_all

theorem parseClock_iff {p : List Byte} {r : Request} : parseClock p = .request r ↔
    ∃ a b c d e f, p = [a, b, c, d, e, f] ∧ .clockSet (word16 a b) (word32 c d e f) = r := by
  unfold parseClock
  split <;> simp_all

theorem parseLabel_iff {p : List Byte} {r : Request} :
    parseLabel p = .request r ↔ ∃ n f l, p = n :: f :: l ∧ l.length ≤ 16 ∧ .podLabel n f l = r := by
  unfold parseLabel
  split
  · split <;> simp_all
  · simp_all

/-- A field of an appended vector that lies in its low part. -/
theorem extractLsb'_append_low {m n : Nat} (x : BitVec m) (y : BitVec n) (k l : Nat) (h : k + l ≤ n) :
    (x ++ y).extractLsb' k l = y.extractLsb' k l := by
  ext i hi
  rw [BitVec.getElem_extractLsb', BitVec.getElem_extractLsb', BitVec.getLsbD_append]
  simp; omega

/-- A field of an appended vector that lies in its high part. -/
theorem extractLsb'_append_high {m n : Nat} (x : BitVec m) (y : BitVec n) (k l : Nat) :
    (x ++ y).extractLsb' (n + k) l = x.extractLsb' k l := by
  ext i hi
  rw [BitVec.getElem_extractLsb', BitVec.getElem_extractLsb', BitVec.getLsbD_append]
  simp [Nat.add_assoc]

theorem bytes16_word16 (a b : Byte) : bytes16 (word16 a b) = [a, b] := by
  have lo : (b ++ a).extractLsb' 0 8 = a := (extractLsb'_append_low b a 0 8 (by decide)).trans a.extractLsb'_eq_self
  have hi : (b ++ a).extractLsb' 8 8 = b := (extractLsb'_append_high b a 0 8).trans b.extractLsb'_eq_self
  rw [bytes16, word16, lo, hi]

theorem bytes32_word32 (a b c d : Byte) : bytes32 (word32 a b c d) = [a, b, c, d] := by
  simp only [bytes32, word32, List.cons.injEq, and_true]
  refine ⟨?_, ?_, ?_, ?_⟩ <;> (ext i hi; simp; grind)
theorem word16_bytes16 (v : BitVec 16) : word16 (v.extractLsb' 0 8) (v.extractLsb' 8 8) = v := by
  ext i hi
  simp [word16]
  grind
theorem word32_bytes32 (v : BitVec 32) : word32 (v.extractLsb' 0 8) (v.extractLsb' 8 8) (v.extractLsb' 16 8) (v.extractLsb' 24 8) = v := by
  ext i hi
  simp [word32]
  grind

/-- A payload that is taken is taken as a request of its kind. -/
theorem parseRequest_kind {k : Byte} {p : List Byte} {r : Request} (h : parseRequest k p = .request r) : r.kind = k := by
  unfold parseRequest at h
  split at h
  all_goals simp only [parseNone_iff, parseByte_iff, parseTwo_iff, parseWord_iff, parseSet_iff, parseClock_iff, parseLabel_iff,
    reduceCtorEq] at h
  all_goals
    apply BitVec.eq_of_toNat_eq
    grind [Request.kind]

/-- The payload of a request is the only one that its kind takes for it. -/
theorem payload_of_parseRequest {p : List Byte} {r : Request} (h : parseRequest r.kind p = .request r) : r.payload = p ∧ r.wf := by
  have bare {r : Request} (h : parseNone r p = .request r) : [] = p := (parseNone_iff.1 h).1.symm
  cases r with
  | identify => exact ⟨bare h, trivial⟩
  | status => exact ⟨bare h, trivial⟩
  | noticeTake => exact ⟨bare h, trivial⟩
  | noticePeek => exact ⟨bare h, trivial⟩
  | historyRead => exact ⟨bare h, trivial⟩
  | historyClear => exact ⟨bare h, trivial⟩
  | totalsRead => exact ⟨bare h, trivial⟩
  | totalsClear => exact ⟨bare h, trivial⟩
  | discStep => exact ⟨bare h, trivial⟩
  | discRetry => exact ⟨bare h, trivial⟩
  | flushCmd => exact ⟨bare h, trivial⟩
  | pressureTest => exact ⟨bare h, trivial⟩
  | cartridgeFitted => exact ⟨bare h, trivial⟩
  | podList => exact ⟨bare h, trivial⟩
  | faultsRead => exact ⟨bare h, trivial⟩
  | faultsClear => exact ⟨bare h, trivial⟩
  | defaultsRestore => exact ⟨bare h, trivial⟩
  | reset => exact ⟨bare h, trivial⟩
  | get n =>
    obtain ⟨a, rfl, e⟩ := parseByte_iff.1 h
    cases e
    exact ⟨rfl, trivial⟩
  | shutoffCmd a =>
    obtain ⟨a, rfl, e⟩ := parseByte_iff.1 h
    cases e
    exact ⟨rfl, trivial⟩
  | leakReset o =>
    obtain ⟨a, rfl, e⟩ := parseByte_iff.1 h
    cases e
    exact ⟨rfl, trivial⟩
  | podRemove n =>
    obtain ⟨a, rfl, e⟩ := parseByte_iff.1 h
    cases e
    exact ⟨rfl, trivial⟩
  | tankCmd t a =>
    obtain ⟨a, b, rfl, e⟩ := parseTwo_iff.1 h
    cases e
    exact ⟨rfl, trivial⟩
  | podEnrol d =>
    obtain ⟨a, b, rfl, e⟩ := parseTwo_iff.1 h
    cases e
    exact ⟨bytes16_word16 a b, trivial⟩
  | saltFilled g =>
    obtain ⟨a, b, c, d, rfl, e⟩ := parseWord_iff.1 h
    cases e
    exact ⟨bytes32_word32 a b c d, trivial⟩
  | set n v =>
    obtain ⟨n, a, b, c, d, rfl, e⟩ := parseSet_iff.1 h
    cases e
    exact ⟨congrArg (n :: ·) (bytes32_word32 a b c d), trivial⟩
  | clockSet d t =>
    obtain ⟨a, b, c, d, e, f, rfl, eq⟩ := parseClock_iff.1 h
    cases eq
    exact ⟨congrArg₂ (· ++ ·) (bytes16_word16 a b) (bytes32_word32 c d e f), trivial⟩
  | podLabel n f l =>
    obtain ⟨n, f, l, rfl, hl, e⟩ := parseLabel_iff.1 h
    cases e
    exact ⟨rfl, hl⟩

/-- A well-formed request's payload is taken for it. -/
theorem parseRequest_payload (r : Request) (h : r.wf) : parseRequest r.kind r.payload = .request r := by
  cases r with
  | set n v => exact congrArg (fun v => Parsed.request (.set n v)) (word32_bytes32 v)
  | saltFilled g => exact congrArg (fun v => Parsed.request (.saltFilled v)) (word32_bytes32 g)
  | podEnrol d => exact congrArg (fun v => Parsed.request (.podEnrol v)) (word16_bytes16 d)
  | clockSet d t => exact congrArg₂ (fun d t => Parsed.request (.clockSet d t)) (word16_bytes16 d) (word32_bytes32 t)
  | podLabel n f l => exact if_pos h
  | _ => rfl

/-- Settles O57: the parsers of the fields are undone by the codes of the fields. -/
theorem requestsRoundTrip : Obligations.RequestsRoundTrip := by
  refine ⟨parseRequest_payload, fun k p r h => ?_⟩
  have hk := parseRequest_kind h
  exact ⟨hk, payload_of_parseRequest (hk ▸ h)⟩

end Sys2Proof.Machine

/-! What a restart keeps and what it starts afresh: O5 and O6. -/

namespace Sys2Proof.Machine

set_option Elab.async false

/-! ### The blocks' restarts, one equation for each -/

theorem supplyRestart_others (x : RestartInputs) (s : State) : supplyRestart x s = { s with
    supply := { state := classify x, battery := x.battery.toNat }
    pins := { mains := x.mains, openEnd := x.openEnd, closedEnd := x.closedEnd, svc := x.svc }
    faults := (supplyRestart x s).faults, notices := (supplyRestart x s).notices } := by
  unfold supplyRestart
  dsimp only
  split <;> rfl

/-- The filter's record after a restart (R120). -/
def restartedFilter (f : Filter) (c : FilterSettings) : Filter :=
  { f with
    p1 := {}, p2 := {}, p3 := {}, flowHold := 0, quiet := 0, solenoid := false, flush := {}, tag := none, baselineDue := false
    due := { f.due with host := false }, state := if f.state = .flushing then evaluatedState f c else f.state }

/-- The three sensors' conditions reported gone. -/
def sensorsGone (l : FaultLog) : FaultLog :=
  ((l.gone .pressureSensor (.sensor 0)).gone .pressureSensor (.sensor 1)).gone .pressureSensor (.sensor 2)

/-- The due set after the filter has taken the state `n` (R111). -/
def Filter.dueAfter (f : Filter) (n : FilterState) : DueSet := if f.state = n ∨ f.state = .flushing then f.due else f.due.enter n

/-- A change of the filter's state changes the due set besides, and posts. -/
theorem setFilter_others (n : FilterState) (s : State) : setFilter n s = { s with
    filter := { s.filter with state := n, due := s.filter.dueAfter n }, notices := (setFilter n s).notices } := by
  unfold setFilter Filter.dueAfter
  dsimp only
  by_cases hn : s.filter.state = n
  · rw [if_pos hn, if_pos (.inl hn)]
    subst hn
    rfl
  · rw [if_neg hn]
    by_cases hf : s.filter.state = .flushing
    · rw [if_pos hf, if_pos (.inr hf)]
      rfl
    · rw [if_neg hf, if_neg (by simp [hn, hf])]
      rfl

theorem filterRestart_others (s : State) : filterRestart s = { s with
    filter := restartedFilter s.filter s.settings.user.filter, faults := sensorsGone s.faults
    notices := (filterRestart s).notices } := by
  let afresh : State := { s with
    filter := { restartedFilter s.filter s.settings.user.filter with state := s.filter.state }, faults := sensorsGone s.faults }
  have unfolded : filterRestart s = if s.filter.state = .flushing then filterEvaluateNow afresh else afresh := rfl
  rw [unfolded]
  by_cases hf : s.filter.state = .flushing
  · have hdue (n : FilterState) : afresh.filter.dueAfter n = afresh.filter.due := if_pos (.inr hf)
    rw [if_pos hf, filterEvaluateNow, setFilter_others, hdue]
    simp only [restartedFilter, if_pos hf]
    rfl
  · rw [if_neg hf]
    simp only [afresh, restartedFilter, if_neg hf]

/-- The state in which the valve's end switches put it at a restart (R154). -/
def placedState (p : Pins) (target : ValveEnd) : ValveState :=
  if p.bothMade then .stuck else if p.switch target then restState target else travelState target

/-- The log's report of SHUTOFF_SWITCH at a restart. -/
def placedFaults (s : State) : FaultLog :=
  if s.pins.bothMade then s.faults.report .shutoffSwitch .none Config.restartSwitchDetail s.now else s.faults

theorem placeValve_others (s : State) : placeValve s = { s with
    valve := { s.valve with
      state := placedState s.pins s.targetEnd, stuck := (placeValve s).valve.stuck, drive := (placeValve s).valve.drive
      pause := (placeValve s).valve.pause, travel := (placeValve s).valve.travel
      overcurrent := (placeValve s).valve.overcurrent }
    faults := placedFaults s, notices := (placeValve s).notices } := by
  unfold placeValve placedState placedFaults
  dsimp only
  by_cases hb : s.pins.bothMade = true
  · rw [if_pos hb, if_pos hb, if_pos hb]
    rfl
  · rw [if_neg hb, if_neg hb, if_neg hb]
    by_cases hs : s.pins.switch s.targetEnd = true
    · rw [if_pos hs, if_pos hs]
    · rw [if_neg hs, if_neg hs]
      rfl

/-- The state in which the Shutoff Controller places its valve at a restart. -/
def valveAfresh (s : State) : State := { faultGone .shutoffSwitch .none (faultGone .shutoffStuck .none s) with
  valve := { reasons := rebuiltReasons s, exerciseDays := s.valve.exerciseDays } }

/-- The valve's record after a restart. -/
def restartedValve (s : State) : Valve := (placeValve (valveAfresh s)).valve

theorem restartedValve_eq (s : State) : restartedValve s = {
    state := (restartedValve s).state, reasons := rebuiltReasons s, drive := (restartedValve s).drive
    stuck := (restartedValve s).stuck, exerciseDays := s.valve.exerciseDays } := by
  unfold restartedValve placeValve
  dsimp only
  repeat' split
  all_goals rfl

theorem restartedValve_state (s : State) : (restartedValve s).state =
    placedState s.pins (if (rebuiltReasons s).any then .closedEnd else .openEnd) := by
  rw [restartedValve, placeValve_others]
  rfl

theorem valveRestart_others (s : State) : valveRestart s = { s with
    valve := restartedValve s, faults := placedFaults (valveAfresh s), notices := (valveRestart s).notices } := by
  have unfolded : valveRestart s = postValve (placeValve (valveAfresh s)) := rfl
  rw [unfolded, restartedValve, placeValve_others]
  rfl

/-- The sequencer's record after a restart. -/
def restartedSequencer (q : Sequencer) (c : SofteningSettings) : Sequencer :=
  { tanks := ⟨q.tanks.a.restart, q.tanks.b.restart⟩, changeover := q.changeover.map fun c => { c with dwell := 0 }, due := q.due
    calendar := 0, chosen := .a, timing := c.timing, windowHour := c.windowHour }

theorem sequencerRestart_others (s : State) : sequencerRestart s = { s with
    seq := restartedSequencer s.seq s.settings.user.soft, notices := (sequencerRestart s).notices } := by
  have one (k : Tank) (t : State) : ∃ n, tankRestart k t = { t with
      seq := { t.seq with tanks := t.seq.tanks.set k (t.tank k).restart }, notices := n } := ⟨_, changeTank_others t k _⟩
  obtain ⟨m, hm⟩ := one .a s
  obtain ⟨n, hn⟩ := one .b (tankRestart .a s)
  unfold sequencerRestart
  rw [hn, hm]
  rfl

/-! ### All blocks restarted -/

/-- The four conditions of the Disc Positioner reported gone. -/
def discGone (l : FaultLog) : FaultLog :=
  (((l.gone .discStall .none).gone .discCode .none).gone .discMissed .none).gone .discTimeout .none

theorem discRestart_eq (s : State) :
    discRestart s = { s with disc := { mode := s.settings.user.soft.discMode }, faults := discGone s.faults } := by
  simp only [discRestart, List.foldl, faultGone, discGone]

/-- The three conditions of the Metering Unit reported gone. -/
def meteringGone (l : FaultLog) : FaultLog :=
  ((l.gone .meterLoss .none).gone .processFlowUnowned .none).gone .valvePassing .none

theorem meteringRestart_eq (s : State) : meteringRestart s = { s with
    meter := { s.meter with meters := {}, now := {}, cond := {} }, faults := meteringGone s.faults } := rfl

/-- The two conditions of the bed probes reported gone. -/
def probesGone (l : FaultLog) : FaultLog := (l.gone .bedProbe (.tank .a)).gone .bedProbe (.tank .b)

theorem capacityRestart_eq (s : State) : capacityRestart s = { s with
    cap := { recs := s.cap.recs, hEff := effectiveHardness s.settings.user.soft }, faults := probesGone s.faults } := rfl

/-- The two conditions of the brine tank's sensors reported gone. -/
def brineGone (l : FaultLog) : FaultLog := (l.gone .levelSensor .none).gone .saltSensor .none

theorem brineRestart_eq (cold : Bool) (s : State) : brineRestart cold s = { s with
    brine := { s.brine with
      refillEnd := if cold then 0 else s.brine.refillEnd, levelFault := false, saltFault := false, postDue := none
      postTried := false, restartLevel := true, restartReading := true, filledReading := false }
    faults := brineGone s.faults } := rfl

theorem leakRestart_eq (s : State) :
    leakRestart s = { s with leak := { latch := s.leak.latch, record := s.leak.record } } := rfl

/-- The Fault Log after the restarts of the blocks from the Disc Positioner to the Filter Monitor. -/
def blocksGone (l : FaultLog) : FaultLog := sensorsGone (brineGone (probesGone (meteringGone (discGone l))))

theorem restartHeld_others (cold : Bool) (s : State) : ∃ n, restartHeld cold s = { s with
    meter := { s.meter with meters := {}, now := {}, cond := {} }
    cap := { recs := s.cap.recs, hEff := effectiveHardness s.settings.user.soft }
    disc := { mode := s.settings.user.soft.discMode }
    brine := { s.brine with
      refillEnd := if cold then 0 else s.brine.refillEnd, levelFault := false, saltFault := false, postDue := none
      postTried := false, restartLevel := true, restartReading := true, filledReading := false }
    filter := restartedFilter s.filter s.settings.user.filter
    leak := { latch := s.leak.latch, record := s.leak.record }
    pods := { slots := s.pods.slots.map fun p => { p with missed := 0, candidate := none } }
    faults := blocksGone s.faults, notices := n } := by
  have filtered (t : State) : ∃ n, filterRestart t = { t with
      filter := restartedFilter t.filter t.settings.user.filter, faults := sensorsGone t.faults, notices := n } :=
    ⟨_, filterRestart_others t⟩
  obtain ⟨n, hn⟩ := filtered (brineRestart cold (capacityRestart (meteringRestart (discRestart s))))
  refine ⟨n, ?_⟩
  rw [restartHeld, hn]
  simp only [discRestart_eq, meteringRestart_eq, capacityRestart_eq, brineRestart_eq, leakRestart_eq, podsRestart, blocksGone]

/-- The Shutoff Controller and the Regeneration Sequencer restart after the other blocks. -/
theorem sequencedRestart_others (s : State) : ∃ n, sequencerRestart (valveRestart s) = { s with
    valve := restartedValve s, seq := restartedSequencer s.seq s.settings.user.soft, faults := placedFaults (valveAfresh s)
    notices := n } := by
  obtain ⟨m, hm⟩ : ∃ m, valveRestart s = { s with
      valve := restartedValve s, faults := placedFaults (valveAfresh s), notices := m } := ⟨_, valveRestart_others s⟩
  obtain ⟨n, hn⟩ : ∃ n, sequencerRestart (valveRestart s) = { valveRestart s with
      seq := restartedSequencer (valveRestart s).seq (valveRestart s).settings.user.soft, notices := n } :=
    ⟨_, sequencerRestart_others _⟩
  rw [hn, hm]
  exact ⟨n, rfl⟩

/-! ### The schedules and the claims that end a restart -/

/-- The state between the blocks' restarts and the claims that end a restart. -/
structure Restarting (s : State) : Prop where
  disc : s.disc.state = .observing
  line : s.line = {}
  host : s.filter.due.host = false
  quiet : s.filter.quiet = 0
  flowHold : s.filter.flowHold = 0
  idle : s.filter.state ≠ .flushing
  tanks : ∀ k, (s.tank k).suspended = ((s.tank k).phase == some .inStep)

/-- What the end of a restart leaves alone: all but the arming of the history, the tanks' schedules and claims, the line, the filter's flush
and the notices. -/
def State.settled (s : State) : Settings × Clock × Metering × Capacity × Disc × Sequencer × Brine × Leak × Valve × Supply × Pods × Link ×
    FaultLog × Pins × Option Retained × List Instr :=
  (s.settings, s.clock, { s.meter with history := { s.meter.history with armed := true } }, s.cap, s.disc,
    { s.seq with tanks := ⟨{}, {}⟩ }, s.brine, s.leak, s.valve, s.supply, s.pods, s.link, s.faults, s.pins, s.before, s.pending)

/-- `t` comes from `s` by the schedules and claims that end a restart. -/
structure Resumes (s t : State) : Prop where
  settled : t.settled = s.settled
  tanks : ∀ k, t.tank k = { s.tank k with
    deferral := (t.tank k).deferral, urgent := (t.tank k).urgent, claim := (t.tank k).claim }
  filter : t.filter = { s.filter with state := t.filter.state, flush := t.filter.flush, solenoid := t.filter.solenoid }
  unflushed : t.line.flush = none → t.filter = s.filter
  unstarted : t.line.flushGranted = false → t.filter = s.filter
  test : t.line.test = none
  regen : ∀ e, t.line.regen = some e → e.continuation = true ∧ (s.tank e.tank).service = .regenerating
  flush : t.line.flush ≠ none → s.filter.due.blocked = true

section
variable {s t : State}

theorem Resumes.refl (hs : Restarting s) : Resumes s s where
  settled := rfl
  tanks _ := rfl
  filter := rfl
  unflushed _ := rfl
  unstarted _ := rfl
  test := by rw [hs.line]
  regen e h := by simp [hs.line] at h
  flush h := by simp [hs.line] at h

/-- Posting changes nothing of this. -/
theorem Resumes.posted (h : Resumes s t) (n : NoticeQueue) : Resumes s { t with notices := n } := { h with }

theorem Resumes.armed (h : Resumes s t) (a : Bool) :
    Resumes s { t with meter := { t.meter with history := { t.meter.history with armed := a } } } := { h with settled := h.settled }

theorem Resumes.withTank (h : Resumes s t) (k : Tank) (d : Deferral) (u : Urgent) (c : Claim) :
    Resumes s (t.withTank k { t.tank k with deferral := d, urgent := u, claim := c }) where
  __ := h
  tanks j := by
    rw [withTank_tank]
    split
    next e =>
      subst e
      rw [h.tanks j]
    next => exact h.tanks j

theorem Resumes.discFree (hs : Restarting s) (h : Resumes s t) : t.discFree = false := by
  have e : t.disc = s.disc := congrArg (fun x => x.2.2.2.2.1) h.settled
  simp [State.discFree, e, hs.disc]

theorem Resumes.service (h : Resumes s t) (k : Tank) : (t.tank k).service = (s.tank k).service := by rw [h.tanks k]

theorem resumes_historyRestart (h : Resumes s t) : Resumes s (historyRestart t) := by
  unfold historyRestart
  dsimp only
  split
  · exact (h.armed false).posted _
  · exact h.armed true

theorem resumes_askProjection (h : Resumes s t) (k : Tank) : Resumes s (askProjection k t) := by
  unfold askProjection
  split
  · dsimp only
    split
    · exact h.withTank k _ _ _
    · exact h.withTank k _ _ _
    · exact h
  · exact h

theorem resumes_scheduleAfresh (h : Resumes s t) (k : Tank) : Resumes s (scheduleAfresh k t) := by
  unfold scheduleAfresh
  split
  · split
    · exact h.withTank k _ _ _
    · exact resumes_askProjection h k
  · exact h

theorem resumes_defer (h : Resumes s t) (k : Tank) (r : DeferReason) : Resumes s (defer k r t) := by
  unfold defer
  dsimp only
  split
  · exact h
  · exact (h.withTank k _ _ _).posted _

theorem resumes_deferFailing (h : Resumes s t) (k : Tank) : Resumes s (deferFailing k t) := by
  unfold deferFailing
  generalize startConditions k t = l
  induction l generalizing t with
  | nil => exact h
  | cons c l ih =>
    refine ih ?_
    show Resumes s (if c.1 then t else defer k c.2 t)
    split
    · exact h
    · exact resumes_defer h k c.2

/-- A pending REGEN entry may leave the table. -/
theorem Resumes.unclaimed (h : Resumes s t) : Resumes s { t with line := { t.line with regen := none } } :=
  { h with regen := fun _ e => absurd e (by simp) }

theorem resumes_withdrawRegen (h : Resumes s t) (k : Tank) : Resumes s (withdrawRegen k t) := by
  unfold withdrawRegen
  extract_lets _ left
  have hleft : Resumes s left := by
    simp only [left]
    split
    · split
      · exact h.unclaimed
      · exact h
    · exact h
  split
  · exact hleft.withTank k _ _ _
  · exact hleft

/-! ### Grants at a restart -/

/-- A REGEN winner stands in the table. -/
theorem Line.winner_regen {l : Line} {e : RegenEntry} (h : l.winner = .regen e) : l.regen = some e := by
  unfold Line.winner at h
  split at h <;> simp_all

/-- A FLUSH winner stands in the table. -/
theorem Line.winner_flush {l : Line} {e : FlushEntry} (h : l.winner = .flush e) : l.flush = some e := by
  unfold Line.winner at h
  split at h <;> simp_all

/-- A TEST winner stands in the table. -/
theorem Line.winner_test {l : Line} (h : l.winner = .test) : l.test ≠ none := by
  unfold Line.winner at h
  split at h <;> simp_all

/-- Entering FLUSHING adds no reason to the due set. -/
theorem Filter.dueAfter_flushing (f : Filter) : f.dueAfter .flushing = f.due := by
  have hl : (FilterState.flushing == .loaded) = false := rfl
  have hb : (FilterState.flushing == .blocked) = false := rfl
  simp [Filter.dueAfter, DueSet.enter, hl, hb]

/-- The filter's record after the start of a flush (R115). -/
def Filter.flushStarted (f : Filter) (time : Nat) : Filter :=
  { f with
    flush := { elapsed := 0, volume := 0, time := time, startIndex := f.rs }, solenoid := true, state := .flushing, flowHold := 0 }

theorem flushStart_others (s : State) : ∃ n, flushStart s = { s with
    filter := s.filter.flushStarted s.settings.user.filter.flushTime, notices := n } := by
  let opened : State := { s with filter := { s.filter with
    flush := { elapsed := 0, volume := 0, time := s.settings.user.filter.flushTime, startIndex := s.filter.rs }, solenoid := true } }
  have h := setFilter_others .flushing opened
  rw [Filter.dueAfter_flushing] at h
  refine ⟨(setFilter .flushing opened).notices, ?_⟩
  have unfolded : flushStart s =
      { setFilter .flushing opened with filter := { (setFilter .flushing opened).filter with flowHold := 0 } } := rfl
  rw [unfolded, h]
  rfl

theorem resumes_grantRegen (h : Resumes s t) {e : RegenEntry} (he : t.line.regen = some e) : Resumes s (grantRegen e t) := by
  obtain ⟨hc, hr⟩ := h.regen e he
  have granted : Resumes s { t with line := { t.line with regen := some { e with granted := true } } } :=
    { h with regen := fun _ e' => by cases e'; exact ⟨hc, hr⟩ }
  have hne : (t.tank e.tank).service ≠ .exhausted := by rw [h.service, hr]; decide
  unfold grantRegen
  dsimp only
  rw [if_neg (by exact hne)]
  exact granted.withTank e.tank _ _ _

theorem resumes_grantFlush (hs : Restarting s) (h : Resumes s t) {e : FlushEntry} (he : t.line.flush = some e) :
    Resumes s (grantFlush e t) := by
  have blocked := h.flush (by simp [he])
  unfold grantFlush
  obtain ⟨n, hn⟩ := flushStart_others { t with line := { t.line with flush := some { e with granted := true } } }
  rw [hn]
  exact { h with
    filter := by
      have hf := h.filter
      have hz := hs.flowHold
      simp only [Filter.flushStarted] at hf ⊢
      rw [hf]
      simp only [hz]
    unflushed := fun hc => by simp at hc
    unstarted := fun hc => by simp [Line.flushGranted] at hc
    flush := fun _ => blocked }

theorem resumes_grantDecision (hs : Restarting s) (h : Resumes s t) : Resumes s (grantDecision t) := by
  unfold grantDecision
  split
  · split
    · exact h
    next he => exact resumes_grantRegen h (Line.winner_regen he)
    next he => exact resumes_grantFlush hs h (Line.winner_flush he)
    next he => exact absurd h.test (Line.winner_test he)
  · exact h

/-- A regenerating tank's continuation claims the line. -/
theorem resumes_continueClaim (hs : Restarting s) (h : Resumes s t) (k : Tank) : Resumes s (continueClaim k t) := by
  unfold continueClaim
  split
  next hk =>
    have hk' : (s.tank k).service = .regenerating := by rw [← h.service, hk]
    have pend : Resumes s { t.withTank k { t.tank k with claim := .pending } with
        line := { t.line with regen := some { granted := false, tank := k, continuation := true } } } :=
      { h.withTank k (t.tank k).deferral (t.tank k).urgent .pending with
        regen := fun _ e => by cases e; exact ⟨rfl, hk'⟩ }
    unfold claimRegen
    dsimp only
    split
    · exact resumes_grantDecision hs pend
    · split
      · exact h
      · exact pend
  next => exact h

/-- The screen's claim for BLOCKED. -/
theorem resumes_flushClaim (hs : Restarting s) (h : Resumes s t) : Resumes s (flushClaim t) := by
  have hdue : t.filter.due = s.filter.due := by rw [h.filter]
  have hquiet : t.filter.quiet = 0 := by rw [h.filter, hs.quiet]
  have pend (b : s.filter.due.blocked = true) (hu : t.line.flushGranted = false) (hi : Bool) :
      Resumes s { t with line := { t.line with flush := some { granted := false, high := hi } } } :=
    { h with unflushed := fun e => by simp at e, unstarted := fun _ => h.unstarted hu, flush := fun _ => b }
  have claim (b : s.filter.due.blocked = true) : Resumes s (claimFlush true t) := by
    unfold claimFlush
    dsimp only
    split
    next hn => exact resumes_grantDecision hs (pend b (by simp [Line.flushGranted, hn]) true)
    next e he =>
      split
      · exact h
      next hg =>
        have hu : t.line.flushGranted = false := by simpa [Line.flushGranted, he] using hg
        split
        · exact resumes_grantDecision hs (pend b hu true)
        · exact pend b hu true
  unfold flushClaim
  dsimp only
  rw [hdue]
  split
  · split
    next hb =>
      have b : s.filter.due.blocked = true := by simp at hb; exact hb.1.2
      exact claim b
    next => exact h
  · split
    next hc =>
      have b : s.filter.due.blocked = true := by simpa [hs.host, hquiet] using hc.2
      rw [b]
      exact claim b
    next => exact h

/-! ### What follows a restart -/

theorem stepMove_held {k : Tank} (h : t.discFree = false) : stepMove k t = t :=
  if_neg fun hc => by simp [lineConditions, h] at hc

theorem resumes_regenClaim (hs : Restarting s) (h : Resumes s t) (k : Tank) : Resumes s (regenClaim k t) := by
  have hd : t.disc.state = .observing := by
    have e : t.disc = s.disc := congrArg (fun x => x.2.2.2.2.1) h.settled
    rw [e, hs.disc]
  have hc : claimHeld k t = false := by simp [claimHeld, hd]
  unfold regenClaim
  rw [hc, if_neg Bool.false_ne_true]
  split
  · exact resumes_deferFailing (resumes_withdrawRegen h k) k
  · exact h

theorem resumes_suspension (hs : Restarting s) (h : Resumes s t) (k : Tank) : Resumes s (suspension k t) := by
  have hnow : suspendedNow k t = (t.tank k).suspended := by
    have hr : stepRuns k t = false := by simp [stepRuns, lineConditions, h.discFree hs]
    rw [suspendedNow, hr, h.tanks k, hs.tanks k]
    simp
  rw [suspension, hnow, changeTank_others]
  exact (h.withTank k (t.tank k).deferral (t.tank k).urgent (t.tank k).claim).posted _

theorem resumes_follow (hs : Restarting s) (h : Resumes s t) : Resumes s (follow t) := by
  unfold follow standing
  split
  · exact h
  · rw [stepMove_held (h.discFree hs), stepMove_held (h.discFree hs)]
    exact resumes_suspension hs (resumes_suspension hs (resumes_flushClaim hs
      (resumes_regenClaim hs (resumes_regenClaim hs h .a) .b)) .a) .b

theorem resumes_restartClaims (hs : Restarting s) : Resumes s (restartClaims s) :=
  resumes_follow hs (resumes_continueClaim hs (resumes_continueClaim hs (resumes_scheduleAfresh (resumes_scheduleAfresh
    (resumes_historyRestart (.refl hs)) .a) .b) .a) .b)

end

end Sys2Proof.Machine

/-! What a restart keeps: O5 and O6. -/

namespace Sys2Proof.Machine

set_option Elab.async false

/-! ### The part after its blocks' restarts -/

/-- Every condition that a restart reports gone, in the order of the blocks. -/
def allGone (l : FaultLog) : FaultLog :=
  ((blocksGone (l.gone .batteryLow .none)).gone .shutoffStuck .none).gone .shutoffSwitch .none

theorem classify_supply (x : RestartInputs) : classify x = if x.mains then .mains
    else if x.battery.toNat < 10500 then .shutdown else if x.battery.toNat < 11400 then .batteryLow else .battery := rfl

theorem supplyRestart_faults (x : RestartInputs) (s : State) (h : classify x ≠ .batteryLow) :
    (supplyRestart x s).faults = s.faults.gone .batteryLow .none := by
  unfold supplyRestart
  dsimp only
  rw [if_neg h]
  rfl

/-- The pins as a restart finds them. -/
def restartPins (x : RestartInputs) : Pins := { mains := x.mains, openEnd := x.openEnd, closedEnd := x.closedEnd, svc := x.svc }

/-- The close reasons rebuilt at a restart that finds the inputs `x`. -/
def rebuiltFrom (x : RestartInputs) (s : State) : Reasons :=
  { host := s.valve.reasons.host, trip := s.leak.latch.isSome && s.settings.user.leak.action == .close, test := false
    lowBattery := classify x == .batteryLow && s.settings.user.leak.lowBatteryAction == .close }

/-- The part after its blocks' restarts, with the valve `v`, the Fault Log `l` and the queue `n`. -/
def restartedPart (cold : Bool) (x : RestartInputs) (s : State) (v : Valve) (l : FaultLog) (n : NoticeQueue) : State :=
  { s with
    meter := { s.meter with meters := {}, now := {}, cond := {} }
    cap := { recs := s.cap.recs, hEff := effectiveHardness s.settings.user.soft }
    disc := { mode := s.settings.user.soft.discMode }
    seq := restartedSequencer s.seq s.settings.user.soft
    line := {}
    brine := { s.brine with
      refillEnd := if cold then 0 else s.brine.refillEnd, levelFault := false, saltFault := false, postDue := none
      postTried := false, restartLevel := true, restartReading := true, filledReading := false }
    filter := restartedFilter s.filter s.settings.user.filter
    leak := { latch := s.leak.latch, record := s.leak.record }
    valve := v
    supply := { state := classify x, battery := x.battery.toNat }
    pods := { slots := s.pods.slots.map fun p => { p with missed := 0, candidate := none } }
    link := {}
    pins := restartPins x
    faults := l, notices := n }

/-- What a restart makes of the valve. -/
structure ValvePlaced (x : RestartInputs) (s : State) (v : Valve) : Prop where
  valve : v = { state := v.state, reasons := rebuiltFrom x s, drive := v.drive, stuck := v.stuck, exerciseDays := s.valve.exerciseDays }
  state : v.state = placedState (restartPins x) (if (rebuiltFrom x s).any then .closedEnd else .openEnd)

theorem restartSequenced_eq (cold : Bool) (x : RestartInputs) (s : State) : ∃ v l n,
    restartSequenced cold x s = restartedPart cold x s v l n ∧ ValvePlaced x s v
    ∧ (classify x ≠ .batteryLow → (restartPins x).bothMade = false → l = allGone s.faults) := by
  obtain ⟨l, n, hs, hl⟩ : ∃ l n, supplyRestart x s.emptied = { s.emptied with
      supply := { state := classify x, battery := x.battery.toNat }, pins := restartPins x, faults := l, notices := n }
      ∧ (classify x ≠ .batteryLow → l = s.faults.gone .batteryLow .none) :=
    ⟨_, _, supplyRestart_others x s.emptied, supplyRestart_faults x s.emptied⟩
  obtain ⟨n', hh⟩ := restartHeld_others cold (supplyRestart x s.emptied)
  obtain ⟨n'', hq⟩ := sequencedRestart_others (restartHeld cold (supplyRestart x s.emptied))
  rw [hs] at hh
  refine ⟨restartedValve (restartHeld cold (supplyRestart x s.emptied)),
    placedFaults (valveAfresh (restartHeld cold (supplyRestart x s.emptied))), n'', ?eq, ⟨?valve, ?state⟩, fun hc hb => ?faults⟩
  case eq =>
    rw [restartSequenced, hq, hs, hh]
    simp only [restartedPart, State.emptied]
  case valve =>
    rw [restartedValve_eq, hs, hh]
    rfl
  case state =>
    rw [restartedValve_state, hs, hh]
    rfl
  case faults =>
    have hb' : (valveAfresh (restartHeld cold (supplyRestart x s.emptied))).pins.bothMade = false := by
      rw [hs, hh]
      exact hb
    rw [placedFaults, hb', if_neg Bool.false_ne_true, hs, hh, allGone, ← hl hc]
    rfl

/-! ### The conditions reported gone -/

/-- The log with every condition that `p` picks reported gone. -/
def FaultLog.silenced (p : FaultCode → Subject → Bool) (l : FaultLog) : FaultLog :=
  { l with records := l.records.map fun r => if p r.code r.subject then { r with active := false } else r }

theorem FaultLog.gone_eq_silenced (l : FaultLog) (c : FaultCode) (u : Subject) :
    l.gone c u = l.silenced fun c' u' => c' == c && u' == u := rfl

theorem FaultLog.silenced_silenced (p q : FaultCode → Subject → Bool) (l : FaultLog) :
    (l.silenced p).silenced q = l.silenced fun c u => p c u || q c u := by
  simp only [FaultLog.silenced, List.map_map]
  congr 1
  refine List.map_congr_left fun r _ => ?_
  simp only [Function.comp]
  by_cases hp : p r.code r.subject = true
  · simp [hp]
  · simp [hp]

/-- The conditions that the blocks report gone are those of `goneAtRestart`. -/
theorem allGone_eq (l : FaultLog) : allGone l = l.silenced goneAtRestart := by
  simp only [allGone, blocksGone, sensorsGone, brineGone, probesGone, meteringGone, discGone, FaultLog.gone_eq_silenced,
    FaultLog.silenced_silenced]
  congr 1
  funext c u
  have sensor (n : Fin 3) : (n == 0 || n == 1 || n == 2) = true := by revert n; decide
  have tank (k : Tank) : (k == .a || k == .b) = true := by cases k <;> rfl
  cases c <;> cases u <;> simp_all [goneAtRestart]

/-! ### What `Restarted` says -/

section
variable {cold : Bool} {x : RestartInputs} {s : State} {v : Valve} {l : FaultLog} {n : NoticeQueue}

theorem restartedPart_tank (k : Tank) : (restartedPart cold x s v l n).tank k = (s.tank k).restart := by
  cases k <;> rfl

theorem restartedFilter_idle (f : Filter) (c : FilterSettings) : (restartedFilter f c).state ≠ .flushing := by
  simp only [restartedFilter]
  split
  · unfold evaluatedState
    repeat' split
    all_goals decide
  next h => exact h

theorem restarting_restartedPart : Restarting (restartedPart cold x s v l n) where
  disc := rfl
  line := rfl
  host := rfl
  quiet := rfl
  flowHold := rfl
  idle := restartedFilter_idle _ _
  tanks k := by
    rw [restartedPart_tank]
    rfl

theorem ValvePlaced.place (h : ValvePlaced x s v) : v.state =
    if x.openEnd && x.closedEnd then .stuck
    else if v.reasons.any then (if x.closedEnd then .closed else .closing)
    else (if x.openEnd then .opened else .opening) := by
  have hr : v.reasons = rebuiltFrom x s := by rw [h.valve]
  rw [h.state, hr, placedState, Pins.bothMade]
  cases (rebuiltFrom x s).any <;> rfl

/-- A part that has restarted its blocks and goes on as `t` does is restarted. -/
theorem restarted_of_part {t : State} (hv : ValvePlaced x s v)
    (hl : classify x ≠ .batteryLow → (restartPins x).bothMade = false → l = allGone s.faults)
    (hq : Resumes (restartedPart cold x s v l n) t) : Restarted cold x s t := by
  have hsettled := hq.settled
  simp only [State.settled, Prod.mk.injEq, restartedPart] at hsettled
  obtain ⟨hset, -, hmeter, hcap, hdisc, hseq, hbrine, hleak, hvalve, hsupply, hpods, hlink, hfaults, -, -, hpending⟩ := hsettled
  have hmeter' : { t.meter with history := { t.meter.history with armed := true } }
    = ({ s.meter with meters := {}, now := {}, cond := {}, history := { s.meter.history with armed := true } } : Metering) := hmeter
  have field {α : Type} (g : Metering → α) (hg : ∀ m a, g { m with history := { m.history with armed := a } } = g m) :
      g t.meter = g { s.meter with meters := {}, now := {}, cond := {} } :=
    (hg t.meter true).symm.trans ((congrArg g hmeter').trans
      (hg { s.meter with meters := {}, now := {}, cond := {} } true))
  have hreasons : t.valve.reasons = rebuiltFrom x s := by rw [hvalve, hv.valve]
  have htank (k : Tank) : t.tank k = { (s.tank k).restart with
      deferral := (t.tank k).deferral, urgent := (t.tank k).urgent, claim := (t.tank k).claim } := by
    rw [← restartedPart_tank (cold := cold) (x := x) (v := v) (l := l) (n := n)]
    exact hq.tanks k
  exact {
    settings := hset
    totals := field Metering.totals fun _ _ => rfl
    week := field Metering.week fun _ _ => rfl
    openDay := field Metering.openDay fun _ _ => rfl
    figures := ⟨field Metering.now fun _ _ => rfl, field Metering.meters fun _ _ => rfl, field Metering.cond fun _ _ => rfl⟩
    capacity := hcap
    disc := hdisc
    tanks := fun k => (htank k).trans rfl
    sequencer := by
      have h := congrArg (fun q : Sequencer => { q with tanks := t.seq.tanks }) hseq
      exact h
    claims := ⟨hq.test, fun e he => by
      obtain ⟨hc, hr⟩ := hq.regen e he
      exact ⟨hc, (hq.service e.tank).trans hr⟩, hq.flush⟩
    brine := hbrine
    filter := by
      rw [hq.filter]
      rfl
    filterState := fun h => by
      rw [hq.unstarted h]
      exact ⟨rfl, rfl, rfl⟩
    leak := hleak
    reasons := by
      rw [hreasons, hsupply]
      rfl
    valve := by
      rw [hvalve, hv.valve]
    place := by
      rw [hvalve]
      exact hv.place
    supply := by rw [hsupply]; rfl
    battery := by rw [hsupply]
    pods := hpods
    link := hlink
    faults := fun hb he => by
      rw [hfaults, hl (by rwa [hsupply] at hb) he, allGone_eq]
      rfl
    pending := hpending }

/-- A part that stops at the end of its blocks' restarts is restarted. -/
theorem restarted_shutdown (hv : ValvePlaced x s v)
    (hl : classify x ≠ .batteryLow → (restartPins x).bothMade = false → l = allGone s.faults) :
    Restarted cold x s (shutdown (restartedPart cold x s v l n)) := by
  have h := restarted_of_part hv hl (.refl (restarting_restartedPart (cold := cold) (n := n)))
  exact { h with
    valve := by
      simp only [shutdown, restartedPart]
      rw [hv.valve] }

/-- A restart of the blocks. -/
theorem restarted_blocks (cold : Bool) (x : RestartInputs) (s : State) : Restarted cold x s (restartBlocks cold x s) := by
  obtain ⟨v, l, n, hq, hv, hl⟩ := restartSequenced_eq cold x s
  rw [restartBlocks_stages, hq]
  split
  · exact restarted_shutdown hv hl
  · exact restarted_of_part hv hl (resumes_restartClaims restarting_restartedPart)

/-- A restart of the blocks keeps the counter, the open hour and the usage history. -/
theorem restartBlocks_history (cold : Bool) (x : RestartInputs) (s : State) :
    (restartBlocks cold x s).clock = s.clock ∧ (restartBlocks cold x s).meter.hour = s.meter.hour
    ∧ ({ (restartBlocks cold x s).meter.history with armed := true } : History) = { s.meter.history with armed := true } := by
  obtain ⟨v, l, n, hq, -, -⟩ := restartSequenced_eq cold x s
  rw [restartBlocks_stages, hq]
  split
  · exact ⟨rfl, rfl, rfl⟩
  · have hr := (resumes_restartClaims (restarting_restartedPart (cold := cold) (x := x) (s := s) (v := v) (l := l) (n := n))).settled
    generalize restartClaims (restartedPart cold x s v l n) = t at hr ⊢
    simp only [State.settled, Prod.mk.injEq] at hr
    obtain ⟨-, hclock, hmeter, -⟩ := hr
    simp only [Metering.mk.injEq] at hmeter
    obtain ⟨-, -, -, -, -, -, hhour, hhistory⟩ := hmeter
    exact ⟨hclock, hhour, hhistory⟩

end

/-! ### The open hour and the history at a restart (R16) -/

/-- Placing an hour changes the history, posts, and may mark the reply in progress. -/
theorem placeHour_others (o : OpenHour) (s : State) : ∃ y n k, placeHour o s = { s with
    meter := { s.meter with history := y }, notices := n, link := k } := by
  have appended : ∃ y n k, appendHour o s = { s with meter := { s.meter with history := y }, notices := n, link := k } := by
    unfold appendHour historyPending
    dsimp only
    split
    · exact ⟨_, _, _, rfl⟩
    · exact ⟨_, _, _, rfl⟩
  unfold placeHour
  dsimp only
  split
  · exact ⟨_, _, _, rfl⟩
  · split
    · exact appended
    · split
      · exact ⟨_, _, _, rfl⟩
      · split
        · exact ⟨_, _, _, rfl⟩
        · exact appended

/-- An hour that is not recordable is not placed. -/
theorem placeHour_unrecordable {o : OpenHour} (h : o.recordable = false) (s : State) : placeHour o s = s := if_pos h

/-- The first record of a history. -/
theorem placeHour_ring_empty {o : OpenHour} (ho : o.recordable = true) {s : State} (hs : s.meter.history.ring = []) :
    (placeHour o s).meter.history.ring = [o.record] := by
  have pending (n : Nat) (t : State) : (historyPending n t).meter.history.ring = t.meter.history.ring := by
    unfold historyPending
    dsimp only
    split <;> rfl
  unfold placeHour
  dsimp only
  rw [ho, if_neg (by decide), hs]
  dsimp only [List.getLast?]
  rw [appendHour]
  dsimp only
  rw [pending]
  simp [History.append, History.rearm, hs]

end Sys2Proof.Machine

/-! The restarts put together: O5. -/

namespace Sys2Proof.Machine

set_option Elab.async false

section
variable {cold : Bool} {x : RestartInputs} {f h : State}

/-- A restart from a state that has closed its open hour restarts the part that closed it. -/
theorem Restarted.of_hour {t : State} {o : OpenHour} {y : History} {c : Clock} {n : NoticeQueue} {k : Link}
    (hr : Restarted cold x { f with meter := { f.meter with hour := o, history := y }, clock := c, notices := n, link := k } t) :
    Restarted cold x f t :=
  { hr with }

theorem since_kept (s t : State) : (s.since t).kept = t.kept := rfl

theorem since_before_changed {s t : State} (h : (s.since t).kept ≠ s.kept) : (s.since t).before = some s.kept := by
  rw [since_kept] at h
  rw [since_before, if_neg h]

theorem since_before_same {s t : State} (h : (s.since t).kept = s.kept) : (s.since t).before = t.before := by
  rw [since_kept] at h
  rw [since_before, if_pos h]

/-- What a restart leaves to be lost is its own group (R190). -/
theorem since_own (u : State) (hb : u.before = none) : ((f.since u).kept = f.kept ∧ (f.since u).before = none)
    ∨ ((f.since u).kept ≠ f.kept ∧ (f.since u).before = some f.kept) := by
  by_cases hk : (f.since u).kept = f.kept
  · exact .inl ⟨hk, (since_before_same hk).trans hb⟩
  · exact .inr ⟨hk, since_before_changed hk⟩

/-- The ring, the cursor and GAP of a history whose arming is left aside. -/
theorem History.parts {a b : History} (h : ({ a with armed := true } : History) = { b with armed := true }) :
    a.ring = b.ring ∧ a.cursor = b.cursor ∧ a.gap = b.gap := by
  simp only [History.mk.injEq] at h
  obtain ⟨hring, hcursor, hgap, -⟩ := h
  exact ⟨hring, hcursor, hgap⟩

theorem coldHour_others (s : State) : ∃ y n k, coldHour s = { s with
    meter := { s.meter with hour := { day := 0, hour := 0, recordable := false }, history := y }, clock := {}
    notices := n, link := k } ∧ y = (placeHour s.meter.hour s).meter.history := by
  obtain ⟨y, n, k, hp⟩ := placeHour_others s.meter.hour s
  refine ⟨y, n, k, ?_, by rw [hp]⟩
  rw [coldHour, hp]
  simp [openHour, Clock.hour]

theorem closeHour_others (s : State) : ∃ y n k, closeHour s = { s with
    meter := { s.meter with
      hour := { day := s.clock.day, hour := s.clock.second / 3600, recordable := !s.clock.unset }, history := y }
    notices := n, link := k } ∧ y = (placeHour s.meter.hour s).meter.history := by
  obtain ⟨y, n, k, hp⟩ := placeHour_others s.meter.hour s
  refine ⟨y, n, k, ?_, by rw [hp]⟩
  rw [closeHour, hp]
  rfl

/-- The history of a restart that closes the open hour: unrecordable, the hour leaves the ring; the first hour begins it. -/
theorem loseFlights_placed (f : State) :
    (f.meter.hour.recordable = false →
      let y := (placeHour f.meter.hour (loseFlights f)).meter.history
      y.ring = f.meter.history.ring.map (fun r => { r with inFlight := false }) ∧ y.cursor = f.meter.history.cursor
      ∧ y.gap = f.meter.history.gap)
    ∧ (f.meter.hour.recordable = true → f.meter.history.ring = [] →
      (placeHour f.meter.hour (loseFlights f)).meter.history.ring = [f.meter.hour.record]) := by
  refine ⟨fun hr => ?_, fun hr hring => ?_⟩
  · rw [placeHour_unrecordable hr]
    exact ⟨rfl, rfl, rfl⟩
  · exact placeHour_ring_empty hr (by simp [loseFlights, hring])

end

theorem found_kept (s : State) : (s.found false).kept = s.kept := rfl

/-- The group of a command that starts nothing with a lost group, and is no first start (R190). -/
theorem Ends.group {s t : State} {c : Instr} (h : Ends s c t) (hc : match (generalizing := false) c with
    | .firstStart _ => False | .coldStart x => x.lost = false | .warmReset x => x.lost = false | _ => True) :
    (t.kept ≠ s.kept → t.before = some s.kept) ∧ (t.kept = s.kept → t.before = s.before ∨ t.before = none ∧ (match (generalizing := false) c with
        | .coldStart _ => True | .warmReset _ => True | .replyComplete _ => True | .mainsReturned => True | _ => False)) := by
  have fresh (f u : State) (hf : f.kept = s.kept) (hu : u.before = none) :
      ((f.since u).kept ≠ s.kept → (f.since u).before = some s.kept) ∧ ((f.since u).kept = s.kept → (f.since u).before = none) := by
    rw [← hf]
    exact ⟨since_before_changed, fun hk => (since_before_same hk).trans hu⟩
  have cold (x : RestartInputs) (hx : x.lost = false) := fresh (s.found x.lost) _ (by rw [hx, found_kept])
    ((upholds_restartBlocks (upholds_coldHour (upholds_loseFlights (.refl _))) true x).before.trans (found_before x.lost s))
  have warm (s' : State) (hs' : s'.kept = s.kept) (x : RestartInputs) (hx : x.lost = false) :
      ((warmReset x s').kept ≠ s.kept → (warmReset x s').before = some s.kept)
      ∧ ((warmReset x s').kept = s.kept → (warmReset x s').before = none) :=
    fresh (s'.found x.lost) _ (by rw [hx, found_kept, hs'])
      ((upholds_restartBlocks (upholds_warmHour (upholds_loseFlights (.refl _))) false x).before.trans (found_before x.lost s'))
  cases h with
  | idle => exact ⟨fun hk => absurd rfl hk, fun _ => .inl rfl⟩
  | effect _ h => exact ⟨since_before_changed, fun hk => .inl ((since_before_same hk).trans h.before)⟩
  | cold x => exact ⟨(cold x hc).1, fun hk => .inr ⟨(cold x hc).2 hk, trivial⟩⟩
  | first x => exact hc.elim
  | warm x => exact ⟨(warm s rfl x hc).1, fun hk => .inr ⟨(warm s rfl x hc).2 hk, trivial⟩⟩
  | mains =>
    exact ⟨(cold { s.restartInputs with mains := true } rfl).1,
      fun hk => .inr ⟨(cold { s.restartInputs with mains := true } rfl).2 hk, trivial⟩⟩
  | reset svc =>
    have w := warm (s.withSvc svc) rfl (s.withSvc svc).restartInputs rfl
    refine ⟨since_before_changed, fun hk => .inr ⟨?_, trivial⟩⟩
    rw [since_before_same hk]
    rw [since_kept] at hk
    exact w.2 hk

theorem found_clock (lost : Bool) (s : State) : (s.found lost).clock = s.clock := by unfold State.found; split <;> rfl

/-- A cold start on what is found (R152, R188, R190). -/
theorem coldStart_restarted (x : RestartInputs) (f : State) :
    let t := restartBlocks true x (coldHour (loseFlights f))
    t.clock = { day := 0, second := 0, unset := true } ∧ Restarted true x f t
    ∧ t.meter.hour = { day := 0, hour := 0, recordable := false }
    ∧ ({ t.meter.history with armed := true } : History)
      = { (placeHour f.meter.hour (loseFlights f)).meter.history with armed := true } := by
  obtain ⟨y, n, k, hcold, hy⟩ := coldHour_others (loseFlights f)
  have hr := restarted_blocks true x (coldHour (loseFlights f))
  obtain ⟨hclock, hhour, hhist⟩ := restartBlocks_history true x (coldHour (loseFlights f))
  generalize restartBlocks true x (coldHour (loseFlights f)) = t at hr hclock hhour hhist ⊢
  rw [hcold] at hr hclock hhour hhist
  refine ⟨hclock, Restarted.of_hour (f := f) hr, hhour, ?_⟩
  rw [hhist, hy]
  rfl

/-- A warm reset on what is found (R16, R188, R190). -/
theorem warmReset_restarted (x : RestartInputs) (f : State) :
    let t := restartBlocks false x (warmHour (loseFlights f))
    t.clock = f.clock ∧ Restarted false x f t
    ∧ (hourMoved f = false → t.meter.hour = f.meter.hour
      ∧ ({ t.meter.history with armed := true } : History) = { (loseFlights f).meter.history with armed := true })
    ∧ (hourMoved f = true → t.meter.hour = { day := f.clock.day, hour := f.clock.second / 3600, recordable := !f.clock.unset }
      ∧ ({ t.meter.history with armed := true } : History)
        = { (placeHour f.meter.hour (loseFlights f)).meter.history with armed := true }) := by
  have hr := restarted_blocks false x (warmHour (loseFlights f))
  obtain ⟨hclock, hhour, hhist⟩ := restartBlocks_history false x (warmHour (loseFlights f))
  generalize restartBlocks false x (warmHour (loseFlights f)) = t at hr hclock hhour hhist ⊢
  by_cases hm : hourMoved f = true
  · obtain ⟨y, n, k, hclose, hy⟩ := closeHour_others (loseFlights f)
    have hwarm : warmHour (loseFlights f) = closeHour (loseFlights f) := if_pos hm
    rw [hwarm, hclose] at hr hclock hhour hhist
    refine ⟨hclock, Restarted.of_hour (f := f) hr, fun h => absurd (hm.symm.trans h) (by decide), fun _ => ⟨hhour, ?_⟩⟩
    rw [hhist, hy]
    rfl
  · have hwarm : warmHour (loseFlights f) = loseFlights f := if_neg hm
    rw [hwarm] at hr hclock hhour hhist
    exact ⟨hclock, Restarted.of_hour (f := f) hr, fun _ => ⟨hhour, hhist⟩, fun h => absurd h hm⟩

theorem hourMoved_iff (s : State) :
    hourMoved s = true ↔ s.clock.day ≠ s.meter.hour.day ∨ s.clock.second / 3600 ≠ s.meter.hour.hour := by
  simp [hourMoved, Clock.hour]

theorem coldStart_before (x : RestartInputs) (f : State) (h : f.before = none) :
    (restartBlocks true x (coldHour (loseFlights f))).before = none :=
  (upholds_restartBlocks (upholds_coldHour (upholds_loseFlights (.refl f))) true x).before.trans h

theorem warmReset_before (x : RestartInputs) (f : State) (h : f.before = none) :
    (restartBlocks false x (warmHour (loseFlights f))).before = none :=
  (upholds_restartBlocks (upholds_warmHour (upholds_loseFlights (.refl f))) false x).before.trans h

/-- Settles O5: the blocks' restarts, one equation for each, then the claims; and the groups of `Ends`. -/
theorem restartsKeepWhatIsRetained : Obligations.RestartsKeepWhatIsRetained := by
  refine ⟨fun x s => ?starts, fun s => ⟨rfl, found_of_before_none true⟩, fun c s t hc ht => ?groups⟩
  case groups =>
    obtain ⟨u, hu, he⟩ := exec_ends c s
    rw [hu] at ht
    cases ht
    obtain ⟨hlost, hsame⟩ := he.group hc
    refine ⟨fun hk => ?_, hsame⟩
    rw [found_of_before_some (hlost hk)]
    exact kept_recall s _
  case starts =>
    obtain ⟨hunrec, hfirst⟩ := loseFlights_placed (s.found x.lost)
    have hbefore := found_before x.lost s
    have hclockf := found_clock x.lost s
    have hcoldt : exec (.coldStart x) s
      = .next ((s.found x.lost).since (restartBlocks true x (coldHour (loseFlights (s.found x.lost))))) := rfl
    have hwarmt (hrun : s.stopped = false) : exec (.warmReset x) s
        = .next ((s.found x.lost).since (restartBlocks false x (warmHour (loseFlights (s.found x.lost))))) := by
      show execWarmReset x s = _
      rw [execWarmReset, hrun]
      rfl
    generalize s.found x.lost = f at *
    refine ⟨?cold, fun hrun => ?warm⟩
    case cold =>
      have hown := since_own (f := f) _ (coldStart_before x f hbefore)
      obtain ⟨hclock, hr, hhour, hhist⟩ := coldStart_restarted x f
      rw [hcoldt]
      generalize restartBlocks true x (coldHour (loseFlights f)) = u at *
      obtain ⟨hring, hcursor, hgap⟩ := History.parts hhist
      refine ⟨_, rfl, hclock, { hr with }, hhour, fun hrec => ?_, fun hrec hempty => hring.trans (hfirst hrec hempty), hown⟩
      obtain ⟨h1, h2, h3⟩ := hunrec hrec
      exact ⟨hring.trans h1, hcursor.trans h2, hgap.trans h3⟩
    case warm =>
      have hown := since_own (f := f) _ (warmReset_before x f hbefore)
      obtain ⟨hclock, hr, hstays, hmoves⟩ := warmReset_restarted x f
      rw [hwarmt hrun]
      generalize restartBlocks false x (warmHour (loseFlights f)) = u at *
      refine ⟨_, rfl, hclock.trans hclockf, { hr with }, hown, fun hday hhour => ?stays, fun hmoved => ?moves⟩
      case stays =>
        have hm : hourMoved f = false := by
          rw [← Bool.not_eq_true, hourMoved_iff, hclockf]
          simp [hday, hhour]
        obtain ⟨h1, h2⟩ := hstays hm
        exact ⟨h1, History.parts h2⟩
      case moves =>
        rw [← hclockf] at hmoved ⊢
        obtain ⟨h1, hhist⟩ := hmoves ((hourMoved_iff f).2 hmoved)
        obtain ⟨hring, hcursor, hgap⟩ := History.parts hhist
        refine ⟨h1, fun hrec => ?_, fun hrec hempty => hring.trans (hfirst hrec hempty)⟩
        obtain ⟨h1, h2, h3⟩ := hunrec hrec
        exact ⟨hring.trans h1, hcursor.trans h2, hgap.trans h3⟩

end Sys2Proof.Machine

/-! The first start (R60): O6. -/

namespace Sys2Proof.Machine

set_option Elab.async false

/-! ### The first start (R60) -/

/-- The inputs of the reset state (log entry 1). -/
def resetInputs : RestartInputs := { mains := true, battery := 12000, openEnd := true, closedEnd := false, svc := false }

/-- The part of log entry 1 with a queue of commands and some notices. -/
def resetWith (p : List Instr) (n : List Notice) : State := { State.reset with pending := p, notices := { queue := n } }

section
variable (p : List Instr) (n : List Notice)

theorem coldHour_reset : coldHour (loseFlights (State.blank p)) = resetWith p [] := by
  rw [coldHour, placeHour_unrecordable rfl]
  simp [openHour, Clock.hour, loseFlights, State.blank, resetWith, State.reset]

theorem supplyRestart_reset : supplyRestart resetInputs (resetWith p []).emptied = resetWith p (NoticeQueue.firstStart.take 1) := by
  simp [supplyRestart, classify, resetInputs, faultGone, FaultLog.gone, post2, post, NoticeQueue.post, State.emptied, resetWith,
    State.reset, NoticeQueue.firstStart, State.now, Clock.stamp, supplyCode, noticeCode]

theorem capacityRestart_reset : capacityRestart (resetWith p n) = resetWith p n := by
  have hard : effectiveHardness (resetWith p n).settings.user.soft = 300 := by
    show effectiveHardness {} = 300
    decide
  simp only [capacityRestart, recomputeHardness, hard]
  rfl

theorem restartHeld_reset : restartHeld true (resetWith p n) = resetWith p n := by
  have slots : ({ slots := State.reset.pods.slots.map fun p => { p with missed := 0, candidate := none } } : Pods) = {} := by
    simp [State.reset, Vector.map_replicate]
  have filtered : filterRestart (resetWith p n) = resetWith p n := rfl
  have placed : discRestart (resetWith p n) = resetWith p n := rfl
  have metered : meteringRestart (resetWith p n) = resetWith p n := rfl
  have brined : brineRestart true (resetWith p n) = resetWith p n := rfl
  have led : leakRestart (resetWith p n) = resetWith p n := rfl
  rw [restartHeld, placed, metered, capacityRestart_reset, brined, filtered, led, podsRestart]
  exact congrArg (fun q : Pods => { resetWith p n with pods := q }) slots

theorem valveRestart_reset : valveRestart (resetWith p (NoticeQueue.firstStart.take 1)) = resetWith p NoticeQueue.firstStart := by
  simp [valveRestart, placeValve, postValve, rebuiltReasons, faultGone, FaultLog.gone, post, NoticeQueue.post, resetWith,
    State.reset, NoticeQueue.firstStart, State.now, Clock.stamp, Pins.bothMade, Pins.switch, State.targetEnd, State.targetClosed,
    Reasons.any, restState, Notice.mergesInto, valveCode, reasonsCode, exerciseCode]
  rfl


theorem sequencerRestart_reset : sequencerRestart (resetWith p n) = resetWith p n := rfl

theorem restartClaims_reset : restartClaims (resetWith p n) = resetWith p n := by
  have still : continueClaim .b (continueClaim .a (scheduleAfresh .b (scheduleAfresh .a (historyRestart (resetWith p n)))))
    = resetWith p n := rfl
  rw [restartClaims, still]
  have tank (k : Tank) : (resetWith p n).tank k = {} := by cases k <;> rfl
  exact whatFollowsAnEvent.2 _ (fun k => by simp [tank k]) rfl

theorem restartBlocks_reset :
    restartBlocks true resetInputs (coldHour (loseFlights (State.blank p))) = resetWith p NoticeQueue.firstStart := by
  have running : (resetWith p NoticeQueue.firstStart).supply.state ≠ .shutdown := by simp [resetWith, State.reset]
  rw [coldHour_reset, restartBlocks_stages, restartSequenced, supplyRestart_reset, restartHeld_reset, valveRestart_reset,
    sequencerRestart_reset, if_neg running, restartClaims_reset]

/-- From the inputs of log entry 1 a first start gives the state after reset. -/
theorem firstStart_reset (s : State) : firstStart resetInputs s = { State.reset with pending := s.pending } := by
  have found : (State.blank s.pending).found false = State.blank s.pending := found_of_before_none _ rfl
  show ((State.blank s.pending).found false).since _ = _
  rw [found]
  show (State.blank s.pending).since (restartBlocks true resetInputs (coldHour (loseFlights (State.blank s.pending)))) = _
  have kept : (resetWith s.pending NoticeQueue.firstStart).kept = (State.blank s.pending).kept := rfl
  rw [restartBlocks_reset, State.since, if_pos kept]
  rfl

end

/-- Settles O6: a first start restarts blank retained memory, of which a restart keeps each item; and each block's restart leaves the reset
state as it is but for the notices. -/
theorem firstStartOnBlankMemory : Obligations.FirstStartOnBlankMemory := by
  refine ⟨fun x s => ⟨_, rfl, ?_⟩, fun s => congrArg Host.Outcome.next (firstStart_reset s)⟩
  have found : (State.blank s.pending).found x.lost = State.blank s.pending := found_of_before_none _ rfl
  rw [firstStart, coldStart, found]
  obtain ⟨hclock, hr, -, hhist⟩ := coldStart_restarted x (State.blank s.pending)
  generalize restartBlocks true x (coldHour (loseFlights (State.blank s.pending))) = t at *
  have unplaced : placeHour (State.blank s.pending).meter.hour (loseFlights (State.blank s.pending)) = loseFlights (State.blank s.pending) :=
    placeHour_unrecordable rfl _
  rw [unplaced] at hhist
  have ring : t.meter.history.ring = [] := (History.parts hhist).1
  have tank (k : Tank) : ((State.blank s.pending).tank k) = {} := by cases k <;> rfl
  have service (k : Tank) : (t.tank k).service = .ready := by rw [hr.tanks k, tank k]; rfl
  have record (k : Tank) : t.record k = CapacityRecord.commissioned := by
    show t.cap.recs.get k = _
    rw [hr.capacity]
    cases k <;> rfl
  have slot (n : Fin 8) : (t.slot n).state = .empty := by
    show t.pods.slots[n].state = _
    rw [hr.pods]
    simp [State.blank, State.reset]
  simp only [since_settings, since_clock, since_meter, since_leak, since_brine, since_seq, since_pending, State.tank, State.record, State.slot,
    since_cap, since_pods]
  refine ⟨hr.settings, hclock, hr.totals, ring, ?_, fun k => ⟨service k, ?_⟩, ?_, ?_, ?_, ?_, slot, hr.pending⟩
  · rw [hr.leak]; rfl
  · rw [show t.cap.recs.get k = CapacityRecord.commissioned from record k]
    exact ⟨rfl, rfl, rfl⟩
  · rw [hr.brine]; rfl
  · rw [hr.brine]; rfl
  · rw [hr.sequencer]; rfl
  · rw [hr.sequencer]; rfl

end Sys2Proof.Machine

/-! Requests handled at once: the owner's answer, and the requests of the tanks, the filter, the disc, the valve, the leak monitor and the
pods. -/

namespace Sys2Proof.Machine

set_option Elab.async false

/-! ### A request handled at once -/

theorem requestPayload_length (r : Request) (h : r.wf) : r.payload.length ≤ 248 := by
  cases r
  case podLabel n f l => exact Nat.le_trans (Nat.add_le_add_right (Nat.add_le_add_right h 1) 1) (by decide)
  all_goals exact of_decide_eq_true rfl

/-- A request handled at once is its owner's answer on the state that has read the service jumper. -/
theorem exec_answers {c : Instr} {r : Request} {svc : Bool} {tag : Byte} {s u : State} {a : Answered} (hc : requestOf c = some (r, svc, tag))
    (h : s.free) (hw : r.wf) (ht : takeRequest tag (frameDropped (s.withSvc svc)) r = (u, a)) : exec c s = answers r tag s u a := by
  rw [exec_request hc, request_free h svc r tag (requestPayload_length r hw) (parseRequest_payload r hw), ht]
  rfl

/-! The receiver's state apart, the end of a frame leaves the part alone (R169). -/

section
variable (s : State)

@[simp] theorem frameDropped_settings : (frameDropped s).settings = s.settings := rfl
@[simp] theorem frameDropped_clock : (frameDropped s).clock = s.clock := rfl
@[simp] theorem frameDropped_meter : (frameDropped s).meter = s.meter := rfl
@[simp] theorem frameDropped_cap : (frameDropped s).cap = s.cap := rfl
@[simp] theorem frameDropped_disc : (frameDropped s).disc = s.disc := rfl
@[simp] theorem frameDropped_seq : (frameDropped s).seq = s.seq := rfl
@[simp] theorem frameDropped_line : (frameDropped s).line = s.line := rfl
@[simp] theorem frameDropped_brine : (frameDropped s).brine = s.brine := rfl
@[simp] theorem frameDropped_filter : (frameDropped s).filter = s.filter := rfl
@[simp] theorem frameDropped_leak : (frameDropped s).leak = s.leak := rfl
@[simp] theorem frameDropped_valve : (frameDropped s).valve = s.valve := rfl
@[simp] theorem frameDropped_supply : (frameDropped s).supply = s.supply := rfl
@[simp] theorem frameDropped_pods : (frameDropped s).pods = s.pods := rfl
@[simp] theorem frameDropped_notices : (frameDropped s).notices = s.notices := rfl
@[simp] theorem frameDropped_faults : (frameDropped s).faults = s.faults := rfl
@[simp] theorem frameDropped_before : (frameDropped s).before = s.before := rfl
@[simp] theorem frameDropped_pending : (frameDropped s).pending = s.pending := rfl
@[simp] theorem frameDropped_svc : (frameDropped s).pins = s.pins := rfl
@[simp] theorem frameDropped_tank (t : Tank) : (frameDropped s).tank t = s.tank t := rfl
@[simp] theorem frameDropped_record (t : Tank) : (frameDropped s).record t = s.record t := rfl
@[simp] theorem frameDropped_slot (n : Fin 8) : (frameDropped s).slot n = s.slot n := rfl
@[simp] theorem frameDropped_discFree : (frameDropped s).discFree = s.discFree := rfl
@[simp] theorem frameDropped_now : (frameDropped s).now = s.now := rfl
@[simp] theorem withSvc_discFree (v : Bool) : (s.withSvc v).discFree = s.discFree := rfl
@[simp] theorem withSvc_now (v : Bool) : (s.withSvc v).now = s.now := rfl

end

/-! ### The filter's requests (R114, R119) -/

section
variable {svc : Bool} {tag : Byte} {s : State}

theorem takeFlushCmd_busy (h : s.filter.state = .flushing ∨ s.filter.tag.isSome = true) : takeFlushCmd tag s = refuse .busy s := by
  unfold takeFlushCmd
  rcases h with h | h <;> simp [h]

theorem takeFlushCmd_accepted (h : ¬ (s.filter.state = .flushing ∨ s.filter.tag.isSome = true)) : takeFlushCmd tag s =
    take .accepted { s with filter := { s.filter with tag := some tag, due := { s.filter.due with host := true } } } := by
  obtain ⟨hf, ht⟩ := not_or.mp h
  rw [takeFlushCmd, if_neg hf, if_neg ht]

/-- A filter with no seconds of acquisition is CLEAN when it is evaluated (R111). -/
theorem evaluatedState_fresh {f : Filter} (c : FilterSettings) (h : f.acq = 0) : evaluatedState f c = .clean := by
  simp [evaluatedState, h]

theorem Filter.dueAfter_clean (f : Filter) : f.dueAfter .clean = f.due := by
  have hl : (FilterState.clean == .loaded) = false := rfl
  have hb : (FilterState.clean == .blocked) = false := rfl
  simp [Filter.dueAfter, DueSet.enter, hl, hb]

/-- CARTRIDGE_FITTED in full (R119). -/
theorem cartridgeFittedEffect_others (s : State) : ∃ n, cartridgeFittedEffect s = { s with
    filter := { s.filter with
      cartVolume := 0, cartDays := 0, cartDue := false, acq := 0, baselineDue := false
      state := if s.filter.state = .flushing then .flushing else .clean }
    notices := n } := by
  unfold cartridgeFittedEffect filterEvaluate
  by_cases h : s.filter.state = .flushing
  · simp only [h, if_true]
    exact ⟨_, rfl⟩
  · simp only [h, if_false]
    rw [filterEvaluateNow, evaluatedState_fresh _ rfl, setFilter_others]
    exact ⟨_, by rw [Filter.dueAfter_clean]⟩

end

/-- Settles O30: FLUSH_CMD by its two branches, and CARTRIDGE_FITTED by what its effect changes. -/
theorem filterRequests : Obligations.FilterRequests := by
  intro svc tag s h
  obtain ⟨n, hn⟩ := cartridgeFittedEffect_others (frameDropped (s.withSvc svc))
  refine ⟨?_, _, exec_answers rfl h trivial rfl, by rw [hn]; rfl, by rw [hn]⟩
  split
  next hb => exact exec_answers rfl h trivial (takeFlushCmd_busy hb)
  next hb => exact exec_answers rfl h trivial (takeFlushCmd_accepted hb)

end Sys2Proof.Machine

/-! The tank commands: O23 and O24. -/

namespace Sys2Proof.Machine

set_option Elab.async false

/-- The tank that a tank byte names is the one commanded. -/
theorem takeTankCmd_tankByte (tag : Byte) (t : Tank) (action : Byte) (s : State) : takeTankCmd tag (tankByte t) action s =
    match action.toNat with
    | 0 => takeRegen tag t s
    | 1 => takeChangeover tag t s
    | 2 => takeHalt tag t s
    | 3 => takeResume t s
    | 4 => takeSkip t s
    | _ => notNow .badValue s := by cases t <;> rfl

/-- A tank byte above 1 names no tank (R173). -/
theorem takeTankCmd_badTank {tag tank : Byte} (action : Byte) (s : State) (h : 1 < tank.toNat) :
    takeTankCmd tag tank action s = notNow .badValue s := by
  unfold takeTankCmd
  obtain ⟨n, hn⟩ : ∃ n, tank.toNat = n + 2 := ⟨tank.toNat - 2, by omega⟩
  simp only [hn]

/-! ### REGEN and CHANGEOVER (R77, R78) -/

/-- A changeover that can begin, with the disc away from its position, asks for the move (R62). -/
theorem changeoverBegin_moves {s : State} {t : Tank} (hd : s.seq.due = some t) (hr : (s.tank t.other).service = .ready)
    (hf : s.discFree = true) (hm : s.supply.state = .mains) (hc : s.seq.changeover = none) (hp : s.disc.position ≠ some (changePosition t)) :
    changeoverBegin s = { s with
      seq := { s.seq with changeover := some { outgoing := t, phase := .toChange, dwell := 0 }, due := none }
      disc := ({ s.disc with target := some (.pos (changePosition t)), requester := some .sequencer } : Disc).start } := by
  have reply : moveReply (changePosition t) { s with seq := { s.seq with
      changeover := some { outgoing := t, phase := .toChange, dwell := 0 }, due := none } } = .started := by
    have hf' : State.discFree { s with seq := { s.seq with
      changeover := some { outgoing := t, phase := .toChange, dwell := 0 }, due := none } } = true := hf
    rw [moveReply, hf', if_pos rfl, if_neg hp]
  simp only [changeoverBegin, hd, hr, hf, hm, hc, and_self, if_true, discRequest, reply, reduceCtorEq, if_false]

/-- A due changeover waits for its conditions (R62). -/
theorem changeoverBegin_waits {s : State} (h : ∀ t, s.seq.due = some t → ¬ ((s.tank t.other).service = .ready ∧ s.discFree = true
    ∧ s.supply.state = .mains ∧ s.seq.changeover = none)) : changeoverBegin s = s := by
  unfold changeoverBegin
  split
  · rfl
  next t hd => exact if_neg (h t hd)

/-- A changeover that has become due and can begin (R61, R62). -/
theorem changeoverBegin_due_moves {s : State} {t : Tank} (hd : s.seq.due = none) (hr : (s.tank t.other).service = .ready)
    (hf : s.discFree = true) (hm : s.supply.state = .mains) (hc : s.seq.changeover = none) (hp : s.disc.position ≠ some (changePosition t)) :
    changeoverBegin { s with seq := { s.seq with due := some t } } = { s with
      seq := { s.seq with changeover := some { outgoing := t, phase := .toChange, dwell := 0 } }
      disc := ({ s.disc with target := some (.pos (changePosition t)), requester := some .sequencer } : Disc).start } := by
  rw [changeoverBegin_moves (s := { s with seq := { s.seq with due := some t } }) (t := t) rfl hr hf hm hc hp]
  simp only [← hd]

/-- A changeover that has become due waits for the disc and the supply (R62). -/
theorem changeoverBegin_due_waits {s : State} {t : Tank} (h : s.discFree = false ∨ s.supply.state ≠ .mains) :
    changeoverBegin { s with seq := { s.seq with due := some t } } = { s with seq := { s.seq with due := some t } } := by
  refine changeoverBegin_waits fun k _ hcond => ?_
  obtain ⟨-, hf, hm, -⟩ := hcond
  have hf' : s.discFree = true := hf
  rcases h with h | h
  · rw [h] at hf'
    exact Bool.false_ne_true hf'
  · exact h hm

section
variable {tag : Byte} {s : State} {t : Tank}

theorem takeRegen_exhausted (h : (s.tank t).service = .exhausted) : takeRegen tag t s =
    if (s.tank t).regenTag.isSome then refuse .busy s
    else take .accepted (s.withTank t { s.tank t with regenTag := some tag, urgent := .forced }) := by
  simp only [takeRegen, h]

theorem takeChangeover_busy (h : s.seq.changeover.isSome = true ∨ s.seq.due.isSome = true) : takeChangeover tag t s = refuse .busy s :=
  if_pos h

variable (hc : s.seq.changeover = none) (hd : s.seq.due = none)
include hc hd

theorem takeChangeover_notInService (h : (s.tank t).service ≠ .inService) : takeChangeover tag t s = notNow .notInService s := by
  simp [takeChangeover, hc, hd, h]

theorem takeChangeover_notReady (h : (s.tank t).service = .inService) (ho : (s.tank t.other).service ≠ .ready) :
    takeChangeover tag t s = notNow .notReady s := by
  simp [takeChangeover, hc, hd, h, ho]

theorem takeChangeover_taken (h : (s.tank t).service = .inService) (ho : (s.tank t.other).service = .ready) :
    takeChangeover tag t s = take .accepted (changeoverBegin
      { s.withTank t { s.tank t with changeTag := some tag } with
        seq := { (s.withTank t { s.tank t with changeTag := some tag }).seq with due := some t } }) := by
  simp [takeChangeover, hc, hd, h, ho]

end

/-- Settles O23: each command by the branch that its hypotheses name. -/
theorem tankRegenAndChangeover : Obligations.TankRegenAndChangeover := by
  intro svc tag s h w
  refine ⟨fun b hb => ⟨exec_answers rfl h trivial (takeTankCmd_badTank (tag := tag) 0 w hb), exec_answers rfl h trivial (takeTankCmd_badTank (tag := tag) 1 w hb)⟩,
    fun t => ?_⟩
  have regen {u : State} {a : Answered} (ht : takeRegen tag t w = (u, a)) :
      exec (.tankCmdRegen tag (tankByte t) svc) s = answers (.tankCmd (tankByte t) 0) tag s u a :=
    exec_answers rfl h trivial ((takeTankCmd_tankByte tag t 0 w).trans ht)
  have change {u : State} {a : Answered} (ht : takeChangeover tag t w = (u, a)) :
      exec (.tankCmdChangeover tag (tankByte t) svc) s = answers (.tankCmd (tankByte t) 1) tag s u a :=
    exec_answers rfl h trivial ((takeTankCmd_tankByte tag t 1 w).trans ht)
  refine ⟨?regen, fun hb => change (takeChangeover_busy hb), fun hc hd hs => change (takeChangeover_notInService hc hd hs),
    fun hc hd hs ho => change (takeChangeover_notReady hc hd hs ho), fun hc hd hs ho => ?begins⟩
  case regen =>
    have same : w.tank t = s.tank t := rfl
    split
    next hx =>
      have ht := takeRegen_exhausted (tag := tag) (s := w) hx
      split
      next hg => exact regen (ht.trans (if_pos hg))
      next hg => exact regen (ht.trans (if_neg hg))
    all_goals
      next hx => exact regen (by simp only [takeRegen, same, hx]; rfl)
  case begins =>
    intro v
    have taken := change (takeChangeover_taken (tag := tag) (s := w) hc hd hs ho)
    have other : (v.tank t.other).service = .ready := by
      rw [withTank_tank_other]
      exact ho
    exact ⟨fun hn => taken.trans (congrArg (fun u => answers _ tag s (follow u) _) (changeoverBegin_due_waits (s := v) hn)),
      fun hf hm hp => taken.trans
        (congrArg (fun u => answers _ tag s (follow u) _) (changeoverBegin_due_moves (s := v) hd other hf hm hc hp))⟩

/-! ### HALT, RESUME and SKIP (R79, R80) -/

section
variable {tag : Byte} {s : State} {t : Tank}

/-- A record changed in none of the items that TANK_STATE tells is changed silently (R59). -/
theorem changeTank_silent {r : TankRecord} (hs : (s.tank t).service = r.service) (hk : (s.tank t).step = r.step)
    (hp : (s.tank t).phase = r.phase) (hu : (s.tank t).suspended = r.suspended) : changeTank t r s = s.withTank t r :=
  if_pos ⟨hs, hk, hp, hu⟩

theorem takeHalt_exhausted (hs : (s.tank t).service = .exhausted) (hh : (s.tank t).halt = false) : takeHalt tag t s =
    take .accepted (requestDone (.tank t) tag 0x10 .done 0 (s.withTank t { s.tank t with halt := true })) := by
  have silent : changeTank t { s.tank t with halt := true } s = s.withTank t { s.tank t with halt := true } :=
    changeTank_silent rfl rfl rfl rfl
  unfold takeHalt
  dsimp only
  rw [if_pos ⟨hs, hh⟩, haltDone, silent]
  rfl

theorem takeHalt_running (hs : (s.tank t).service = .regenerating) (hp : (s.tank t).phase = some .toStep ∨ (s.tank t).phase = some .inStep)
    (hh : (s.tank t).halt = false) :
    takeHalt tag t s = take .accepted (s.withTank t { s.tank t with halt := true, haltTag := some tag }) := by
  simp [takeHalt, hs, hp, hh]

theorem takeHalt_stepEnded (hs : (s.tank t).service = .regenerating) (hp : (s.tank t).phase = some .stepEnded) :
    takeHalt tag t s = take .accepted (requestDone (.tank t) tag 0x10 .done 0
      (changeTank t { s.tank t with halt := true, phase := some .halted } s)) := by
  simp only [takeHalt, hs, hp, haltDone]
  rfl

theorem takeHalt_toReady (hs : (s.tank t).service = .regenerating) (hp : (s.tank t).phase = some .toReady) :
    takeHalt tag t s = notNow .ending s := by
  simp [takeHalt, hs, hp]

theorem takeHalt_declined (hx : (s.tank t).service ≠ .exhausted) (hs : (s.tank t).service ≠ .regenerating) (hh : (s.tank t).halt = false)
    (hp : (s.tank t).phase ≠ some .halted) :
    takeHalt tag t s = (s, if (s.tank t).service = .faulted then declined .faulted else declined .notRegenerating) := by
  simp only [takeHalt, hx, hs, hh, hp, false_and, if_false, Bool.false_eq_true, or_self]
  split <;> rfl

/-- The rows of BUSY: a HALT is held, or is not needed (R79; log entry 42). -/
theorem takeHalt_busy (h : (s.tank t).service = .exhausted ∧ (s.tank t).halt = true
    ∨ (s.tank t).service = .regenerating ∧ ((s.tank t).phase = some .halted
      ∨ (s.tank t).halt = true ∧ ((s.tank t).phase = some .toStep ∨ (s.tank t).phase = some .inStep))
    ∨ (s.tank t).service ≠ .exhausted ∧ (s.tank t).service ≠ .regenerating ∧ ((s.tank t).halt = true ∨ (s.tank t).phase = some .halted)) :
    takeHalt tag t s = refuse .busy s := by
  rcases h with ⟨hs, hh⟩ | ⟨hs, hp | ⟨hh, hp | hp⟩⟩ | ⟨hx, hs, hh | hp⟩ <;> simp [takeHalt, *]

theorem takeResume_halted (hp : (s.tank t).phase = some .halted) :
    takeResume t s = take .ok (changeTank t { s.tank t with halt := false, phase := some .stepEnded } s) := if_pos hp

theorem takeResume_requested (hp : (s.tank t).phase ≠ some .halted) (hh : (s.tank t).halt = true) : takeResume t s =
    take .ok (requestDoneIf (.tank t) (s.tank t).haltTag 0x10 .cancelled 0
      (s.withTank t { s.tank t with halt := false, haltTag := none })) := by
  unfold takeResume
  dsimp only
  rw [if_neg hp, if_pos hh]
  rfl

theorem takeResume_notHalted (hp : (s.tank t).phase ≠ some .halted) (hh : (s.tank t).halt = false) :
    takeResume t s = notNow .notHalted s := by
  simp [takeResume, hp, hh]

theorem takeSkip_inStep (hs : (s.tank t).service = .regenerating) (hp : (s.tank t).phase = some .inStep) :
    takeSkip t s = take .accepted (phaseAfter t (stepReported (s.tank t).step s)) := by
  simp only [takeSkip, hs, hp, skipStep]

theorem takeSkip_halted (hs : (s.tank t).service = .regenerating) (hp : (s.tank t).phase = some .halted) :
    takeSkip t s = notNow .halted s := by
  simp only [takeSkip, hs, hp]

theorem takeSkip_busy (hs : (s.tank t).service = .regenerating) (hp : (s.tank t).phase ≠ some .halted) (hq : (s.tank t).phase ≠ some .inStep) :
    takeSkip t s = refuse .busy s := by
  simp only [takeSkip, hs]

theorem takeSkip_declined (hs : (s.tank t).service ≠ .regenerating) :
    takeSkip t s = (s, if (s.tank t).service = .faulted then declined .faulted else declined .notRegenerating) := by
  unfold takeSkip
  dsimp only
  split
  · contradiction
  next hf => rw [if_pos hf]; rfl
  next hf => rw [if_neg hf]; rfl

/-- The end of a BACKWASH or a RINSE that no HALT waits for tells only the phase (R74). -/
theorem phaseAfter_quiet {k : Option Step} (hk : k = some .backwash ∨ k = some .rinse) (hh : (s.tank t).halt = false) :
    phaseAfter t (stepReported k s) = changeTank t { s.tank t with phase := some .stepEnded } s := by
  have unreported : stepReported k s = s := by rcases hk with rfl | rfl <;> rfl
  rw [unreported, phaseAfter]
  simp only [hh, Bool.false_eq_true, if_false]

end

/-- Settles O24: each command by the row that its hypotheses name. -/
theorem tankHaltResumeSkip : Obligations.TankHaltResumeSkip := by
  intro svc tag s h w
  refine ⟨fun b hb => ⟨exec_answers rfl h trivial (takeTankCmd_badTank (tag := tag) 2 w hb), exec_answers rfl h trivial (takeTankCmd_badTank (tag := tag) 3 w hb),
    exec_answers rfl h trivial (takeTankCmd_badTank (tag := tag) 4 w hb)⟩, fun t => ?_⟩
  have halt {u : State} {a : Answered} (ht : takeHalt tag t w = (u, a)) :
      exec (.tankCmdHalt tag (tankByte t) svc) s = answers (.tankCmd (tankByte t) 2) tag s u a :=
    exec_answers rfl h trivial ((takeTankCmd_tankByte tag t 2 w).trans ht)
  have resume {u : State} {a : Answered} (ht : takeResume t w = (u, a)) :
      exec (.tankCmdResume tag (tankByte t) svc) s = answers (.tankCmd (tankByte t) 3) tag s u a :=
    exec_answers rfl h trivial ((takeTankCmd_tankByte tag t 3 w).trans ht)
  have skip {u : State} {a : Answered} (ht : takeSkip t w = (u, a)) :
      exec (.tankCmdSkip tag (tankByte t) svc) s = answers (.tankCmd (tankByte t) 4) tag s u a :=
    exec_answers rfl h trivial ((takeTankCmd_tankByte tag t 4 w).trans ht)
  exact ⟨fun hs hh => halt (takeHalt_exhausted (s := w) hs hh), fun hs hp hh => halt (takeHalt_running (s := w) hs hp hh),
    fun hs hp => halt (takeHalt_stepEnded (s := w) hs hp), fun hs hp => halt (takeHalt_toReady (s := w) hs hp),
    fun hx hs hh hp => halt (takeHalt_declined (s := w) hx hs hh hp), fun hb => halt (takeHalt_busy (s := w) hb),
    fun hp => resume (takeResume_halted (s := w) hp), fun hp hh => resume (takeResume_requested (s := w) hp hh),
    fun hp hh => resume (takeResume_notHalted (s := w) hp hh), fun hs hp => skip (takeSkip_inStep (s := w) hs hp),
    fun hs hp hk hh => skip ((takeSkip_inStep (s := w) hs hp).trans (congrArg (take .accepted) (phaseAfter_quiet (s := w) hk hh))),
    fun hs hp => skip (takeSkip_halted (s := w) hs hp), fun hs hp hq => skip (takeSkip_busy (s := w) hs hp hq),
    fun hs => skip (takeSkip_declined (s := w) hs)⟩

end Sys2Proof.Machine

/-! The Disc Positioner's events and requests: O12, O14 and O15. -/

namespace Sys2Proof.Machine

set_option Elab.async false

section
variable {s : State}

/-- An event of a running part: its effect and what follows. -/
theorem event_running (h : s.stopped = false) (f : State → State) : event f s = commit s (follow (f s)) := by
  rw [event, whenOn, h, if_neg Bool.false_ne_true]

/-- An event whose effect is known. -/
theorem event_leaves (h : s.stopped = false) {f : State → State} {u : State} (hf : f s = u) : event f s = commit s (follow u) := by
  rw [event_running h, hf]

/-! ### Out of place, timeout and stall (R43, R48, R50) -/

theorem Disc.continuation_eq (d : Disc) : d.continuation = { d with
    position := none, inPlace := false, target := some .next, requester := some .restart, state := .creeping, legTime := 0
    overcurrent := 0 } := rfl

theorem inPlaceClear_driven (hp : s.disc.inPlace = true) (ha : s.disc.state ≠ .atPosition) :
    inPlaceClear s = { s with disc := { s.disc with inPlace := false } } := by
  rw [inPlaceClear, if_pos hp, if_neg ha]

theorem inPlaceClear_moved (hp : s.disc.inPlace = true) (ha : s.disc.state = .atPosition) :
    inPlaceClear s = { s with disc := s.disc.continuation } := by
  rw [inPlaceClear, if_pos hp, if_pos ha]

theorem inPlaceClear_idle (hp : s.disc.inPlace = false) : inPlaceClear s = s := by
  rw [inPlaceClear, hp, if_neg Bool.false_ne_true]

theorem discTimeout_idle (h : s.disc.driven = false) : discTimeout s = s := by rw [discTimeout, h, if_neg Bool.false_ne_true]

theorem discStall_idle (h : s.disc.driven = false) : discStall s = s := by rw [discStall, h, if_neg Bool.false_ne_true]

theorem discTimeout_stops (h : s.disc.driven = true) : DiscStopped .discTimeout (positionCode s.disc.position)
    { s.disc with legTime := if s.disc.state = .running then 20 else 15 } s (discTimeout s) := by
  rw [discTimeout, if_pos h]
  exact discFault_stops _ _ _ s

theorem discStall_stops (h : s.disc.driven = true) : DiscStopped .discStall (positionCode s.disc.position)
    { s.disc with overcurrent := 500 } s (discStall s) := by
  rw [discStall, if_pos h]
  exact discFault_stops _ _ _ s

end

/-- Settles O14: a position out of place by the disc's state, and each stop of a driven disc by what entering FAULT does. -/
theorem discLosesItsPlace : Obligations.DiscLosesItsPlace := fun _ h =>
  ⟨fun hp => event_leaves h (inPlaceClear_idle hp), fun hp ha => event_leaves h (inPlaceClear_driven hp ha),
    fun hp ha => event_leaves h (inPlaceClear_moved hp ha),
    fun hd => ⟨event_leaves h (discTimeout_idle hd), event_leaves h (discStall_idle hd)⟩,
    fun hd => ⟨_, event_running h discTimeout, discTimeout_stops hd⟩, fun hd => ⟨_, event_running h discStall, discStall_stops hd⟩⟩

/-! ### A code in place (R43, R49) -/

section
variable {code : BitVec 4} {s : State}

/-- At rest, with no position in place so far, the code is noted. -/
theorem inPlaceSet_rest (hp : s.disc.inPlace = false) (ho : s.disc.state ≠ .observing) (hd : s.disc.driven = false) :
    inPlaceSet code s = { s with disc := { s.disc with inPlace := true, code := code } } := by
  simp [inPlaceSet, hp, ho, hd]

variable (hp : s.disc.inPlace = false) (ho : s.disc.state ≠ .observing) (hd : s.disc.driven = true)
include hp ho hd

/-- A code that names no position stops the move. -/
theorem inPlaceSet_unnamed (hc : codePosition code = none) : inPlaceSet code s = discFault .discCode code.toNat
    { s with disc := { s.disc with inPlace := true, code := code, position := none } } := by
  simp [inPlaceSet, hp, ho, hd, hc, Disc.check]

variable {p : Pos} (hc : codePosition code = some p)
include hc

/-- A position that stops the move. -/
theorem inPlaceSet_stops {c : FaultCode} {n : Nat} {q : Option Pos} (h : s.disc.check code = .stops c n q) : inPlaceSet code s =
    discFault c n { s with disc := { s.disc with inPlace := true, code := code, legTime := 0, position := q } } := by
  simp [inPlaceSet, hp, ho, hd, hc, h]

/-- A position that is passed. -/
theorem inPlaceSet_passed {q : Pos} (h : s.disc.check code = .passed q) : inPlaceSet code s =
    { s with disc := { s.disc with
      inPlace := true, code := code, legTime := 0, position := some q
      state := ({ s.disc with position := some q } : Disc).moving } } := by
  simp [inPlaceSet, hp, ho, hd, hc, h, Disc.moving, Disc.creeps]
  rfl

/-- A position that is the arrival. -/
theorem inPlaceSet_arrival {q : Pos} (h : s.disc.check code = .arrival q) : inPlaceSet code s =
    discArrival q { s with disc := { s.disc with inPlace := true, code := code, legTime := 0 } } := by
  simp [inPlaceSet, hp, ho, hd, hc, h]

end

section
variable {d : Disc} {code : BitVec 4} {p t r : Pos}

/-- The check of a position in a move from a known position to another (R49). -/
theorem Disc.check_known (hc : codePosition code = some p) (ht : d.target = some (.pos t)) (hr : d.position = some r) :
    d.check code = checkPosition r t p code := by
  simp only [Disc.check, hc, ht, hr]

theorem Disc.check_unknown (hc : codePosition code = some p) (ht : d.target = some (.pos t)) (hr : d.position = none) :
    d.check code = if p = t then .arrival p else .passed p := by
  simp only [Disc.check, hc, ht, hr]

theorem Disc.check_next (hc : codePosition code = some p) (ht : d.target = some .next) : d.check code = .arrival p := by
  simp only [Disc.check, hc, ht]

theorem checkPosition_passed (hn : p = r + 1) (ht : p ≠ t) (hm : p ≠ t + 1) : checkPosition r t p code = .passed p := by
  rw [checkPosition, if_neg ht, if_neg hm, if_pos hn]

theorem checkPosition_arrival (hn : p = r + 1) (ht : p = t) : checkPosition r t p code = .arrival p := by
  rw [checkPosition, if_pos ht, if_pos hn]

theorem checkPosition_missed (hm : p = t + 1) : checkPosition r t p code = .stops .discMissed t.val (some p) := by
  have next : ∀ q : Pos, q + 1 ≠ q := by decide
  have ht : p ≠ t := hm ▸ next t
  rw [checkPosition, if_neg ht, if_pos hm]

theorem checkPosition_wrong (hn : p ≠ r + 1) (hm : p ≠ t + 1) : checkPosition r t p code = .stops .discCode code.toNat (some p) := by
  unfold checkPosition
  rw [if_neg hn, if_neg hm, if_neg hn]
  exact ite_self _

/-- The speed of a move with the position taken (R47). -/
theorem Disc.moving_taken (ht : d.target = some (.pos t)) :
    ({ d with position := some p } : Disc).moving = if p + 1 = t then .creeping else .running := by
  simp [Disc.moving, Disc.creeps, ht]

end

/-- With the disc in MANUAL, as its setting says, no mode change waits (R54). -/
theorem modeChange_manual {s : State} (hm : s.disc.mode = .manual) (hset : s.settings.user.soft.discMode = .manual) : modeChange s = s := by
  simp [modeChange, applyManual, hm, hset]

/-- The record after the arrival at a position of a move without a retry (R47). -/
def Disc.stood (d : Disc) (p : Pos) : Disc := { d with position := some p, state := .atPosition, target := none, requester := none }

theorem Disc.arrive_stood {d : Disc} (p : Pos) (ht : d.retryTag = none) (hf : d.retriedFault = none) :
    ({ d.arrive with position := some p, retriedFault := none } : Disc) = d.stood p := by
  simp [Disc.arrive, Disc.stood, ht, hf]

/-- The arrival of a DISC_STEP's move in MANUAL answers its tag (R47, R56). -/
theorem discArrival_step {s : State} {tag : Byte} (p : Pos) (hr : s.disc.requester = some (.discStep tag)) (ht : s.disc.retryTag = none)
    (hf : s.disc.retriedFault = none) (hm : s.disc.mode = .manual) (hset : s.settings.user.soft.discMode = .manual) :
    discArrival p s = requestDone .none tag 0x11 .done 0 { s with disc := s.disc.stood p } := by
  simp only [discArrival, Disc.arrive_stood p ht hf, hr, ht, hf, Option.isNone, if_true, requestDoneIf]
  exact modeChange_manual hm hset

/-- With a tank in service commissioning is complete (R60). -/
theorem commissioning_of_inService {s : State} (hk : ∃ k, (s.tank k).service = .inService) : commissioning s = false := by
  obtain ⟨k, hk⟩ := hk
  cases k <;> simp [commissioning, hk]

/-- A position found in MANUAL with a tank in service is taken as it stands (R60, R82). -/
theorem restartPosition_manual {s : State} (p : Pos) (hm : s.disc.mode = .manual) (hk : ∃ k, (s.tank k).service = .inService) :
    restartPosition p s = s := by
  simp [restartPosition, commissioning_of_inService hk, hm]

/-- The arrival of a restart's move in MANUAL with a tank in service changes nothing else (R60, R82). -/
theorem discArrival_restart {s : State} (p : Pos) (hr : s.disc.requester = some .restart) (ht : s.disc.retryTag = none)
    (hf : s.disc.retriedFault = none) (hm : s.disc.mode = .manual) (hset : s.settings.user.soft.discMode = .manual)
    (hk : ∃ k, (s.tank k).service = .inService) : discArrival p s = { s with disc := s.disc.stood p } := by
  have found : restartPosition p { s with disc := s.disc.stood p } = { s with disc := s.disc.stood p } := restartPosition_manual p hm hk
  simp only [discArrival, Disc.arrive_stood p ht hf, hr, ht, hf, requestDoneIf, found]
  exact modeChange_manual hm hset

/-- Settles O12: the check names the case, and with it what the position brings. -/
theorem codeInPlace : Obligations.CodeInPlace := by
  intro code s h hp ho
  refine ⟨fun hd => event_leaves h (inPlaceSet_rest hp ho hd), fun hd hc => ⟨_, event_leaves h (inPlaceSet_unnamed hp ho hd hc),
    discFault_stops _ _ _ s⟩, fun p t r hd hc ht hr => ?_⟩
  have check := Disc.check_known hc ht hr
  refine ⟨fun hn hpt hpm => event_leaves h ?passed, fun hm => ⟨_, event_leaves h ?missed, discFault_stops _ _ _ s⟩,
    fun hn hm => ⟨_, event_leaves h ?wrong, discFault_stops _ _ _ s⟩, fun tag hn hpt hq hg hf hm hset => event_leaves h ?arrival, ?unknown⟩
  case passed => rw [inPlaceSet_passed hp ho hd hc (check.trans (checkPosition_passed hn hpt hpm)), Disc.moving_taken ht]
  case missed => exact inPlaceSet_stops hp ho hd hc (check.trans (checkPosition_missed hm))
  case wrong => exact inPlaceSet_stops hp ho hd hc (check.trans (checkPosition_wrong hn hm))
  case arrival =>
    rw [inPlaceSet_arrival hp ho hd hc (check.trans (checkPosition_arrival hn hpt))]
    exact discArrival_step p hq hg hf hm hset
  case unknown =>
    intro p hd hc
    refine ⟨fun t ht hr hpt => event_leaves h ?_, fun hto hg hf hm hset => ?_⟩
    · rw [inPlaceSet_passed hp ho hd hc ((Disc.check_unknown hc ht hr).trans (if_neg hpt)), Disc.moving_taken ht]
    · have check : s.disc.check code = .arrival p := by
        rcases hto with ht | ⟨ht, hr⟩
        · exact Disc.check_next hc ht
        · exact (Disc.check_unknown hc ht hr).trans (if_pos rfl)
      have arrival := inPlaceSet_arrival hp ho hd hc check
      exact ⟨fun tag hq => event_leaves h (arrival.trans (discArrival_step p hq hg hf hm hset)),
        fun hq hk => event_leaves h (arrival.trans (discArrival_restart p hq hg hf hm hset hk))⟩

/-! ### DISC_STEP (R56) -/

section
variable {tag : Byte} {s : State}

/-- A DISC_STEP that is taken starts the motor at CREEP toward the next position (R56). -/
theorem takeDiscStep_eq : takeDiscStep tag s =
    if s.disc.state = .observing then refuse .busy s
    else if s.disc.mode = .auto then notNow .auto s
    else if s.disc.driven = true then refuse .busy s
    else if s.disc.state = .fault then notNow .discFault s
    else if s.supply.state ≠ .mains then notNow .onBattery s
    else take .accepted { s with disc := { s.disc with
      target := some (match s.disc.position with | some p => .pos (p + 1) | none => .next)
      requester := some (.discStep tag), state := .creeping, legTime := 0, overcurrent := 0 } } := by
  unfold takeDiscStep
  dsimp only
  cases s.disc.position <;> simp [Disc.start, Disc.moving, Disc.creeps]

/-! ### DISC_RETRY (R53) -/

/-- The position that a retry starts from (R53, log entry 37). -/
def Disc.retryFrom (d : Disc) : Option Pos := if d.position = none ∧ d.inPlace = true then codePosition d.code else d.position

/-- The record of a retry before its motor starts (R53). -/
def Disc.retried (d : Disc) (tag : Byte) : Disc :=
  { d with retryTag := some tag, retriedFault := d.fault.map Prod.fst, fault := none, position := d.retryFrom }

/-- The state in which the retry's requester is told (R53). -/
def State.retrying (tag : Byte) (s : State) : State :=
  if s.disc.requester = some .sequencer then moveResumed { s with disc := s.disc.retried tag } else { s with disc := s.disc.retried tag }

theorem retryMove_eq (tag : Byte) (s : State) : retryMove tag s =
    match s.disc.retryFrom, s.disc.target with
    | some p, some (.pos t) =>
      if p = t then discArrival p (s.retrying tag) else { s.retrying tag with disc := (s.retrying tag).disc.start }
    | _, _ => { s.retrying tag with disc := (s.retrying tag).disc.start } := by
  cases hpos : s.disc.position <;> cases hin : s.disc.inPlace <;>
    simp only [retryMove, State.retrying, Disc.retried, Disc.retryFrom, hpos, hin, reduceCtorEq, and_true, and_false, if_true,
      if_false] <;> rfl

/-- A move resumed makes a FAULTED tank REGENERATING again and leaves every other tank record (R53, R76). -/
theorem moveResumed_tank (s : State) (k : Tank) : (moveResumed s).tank k =
    if (s.tank k).service = .faulted then { s.tank k with service := .regenerating } else s.tank k := by
  unfold moveResumed
  dsimp only
  by_cases ha : (s.tank .a).service = .faulted <;> by_cases hb : (s.tank .b).service = .faulted <;>
    cases k <;> simp [ha, hb, changeTank_tank]

/-- A FAULTED tank resumed (R76). -/
def resumeTank (t : Tank) (s : State) : State :=
  if (s.tank t).service = .faulted then changeTank t { s.tank t with service := .regenerating } s else s

theorem moveResumed_eq (s : State) : moveResumed s = resumeTank .b (resumeTank .a s) := rfl

theorem resumeTank_others (t : Tank) (u : State) : ∃ q n, resumeTank t u = { u with seq := { u.seq with tanks := q }, notices := n } := by
  unfold resumeTank
  split
  · exact ⟨_, _, changeTank_others u t _⟩
  · exact ⟨_, _, rfl⟩

theorem moveResumed_others (s : State) : ∃ q n, moveResumed s = { s with seq := { s.seq with tanks := q }, notices := n } := by
  obtain ⟨q, n, ha⟩ := resumeTank_others .a s
  obtain ⟨q', n', hb⟩ := resumeTank_others .b { s with seq := { s.seq with tanks := q }, notices := n }
  exact ⟨q', n', by rw [moveResumed_eq, ha, hb]⟩

theorem retrying_others (tag : Byte) (s : State) : ∃ q n, s.retrying tag =
    { s with disc := s.disc.retried tag, seq := { s.seq with tanks := q }, notices := n } := by
  unfold State.retrying
  split
  · obtain ⟨q, n, h⟩ := moveResumed_others { s with disc := s.disc.retried tag }
    exact ⟨q, n, h⟩
  · exact ⟨_, _, rfl⟩

theorem retrying_tank (tag : Byte) (s : State) (k : Tank) : (s.retrying tag).tank k =
    if s.disc.requester = some .sequencer ∧ (s.tank k).service = .faulted then { s.tank k with service := .regenerating }
    else s.tank k := by
  unfold State.retrying
  by_cases h : s.disc.requester = some .sequencer
  · rw [if_pos h, moveResumed_tank]
    simp only [h, true_and]
    rfl
  · rw [if_neg h, if_neg fun hc => h hc.1]
    rfl

/-- A retry whose target is not the position it starts from starts the motor (R53). -/
theorem retryMove_starts {t : DiscTarget} (ht : s.disc.target = some t) (hp : ∀ q, t = .pos q → s.disc.retryFrom ≠ some q) :
    retryMove tag s = { s.retrying tag with disc := (s.disc.retried tag).start } := by
  have hdisc : (s.retrying tag).disc = s.disc.retried tag := by
    obtain ⟨q, n, h⟩ := retrying_others tag s
    rw [h]
  rw [retryMove_eq, ← hdisc, ht]
  split
  next p q hfrom htar =>
    exact if_neg fun e => hp q (Option.some.inj htar) (hfrom.trans (congrArg some e))
  · rfl

/-- The record with which a retry starts (R47, R53). -/
theorem Disc.retried_start {d : Disc} {t : DiscTarget} (ht : d.target = some t) : (d.retried tag).start = { d with
    position := d.retryFrom, retryTag := some tag, retriedFault := d.fault.map Prod.fst, fault := none, legTime := 0, overcurrent := 0
    state := match (generalizing := false) t with
      | .next => .creeping
      | .pos q => if d.retryFrom = none ∨ d.retryFrom = some (q - 1) then .creeping else .running } := by
  have speed : (d.retried tag).moving = match (generalizing := false) t with
      | .next => .creeping
      | .pos q => if d.retryFrom = none ∨ d.retryFrom = some (q - 1) then .creeping else .running := by
    have ht' : (d.retried tag).target = some t := ht
    have hp' : (d.retried tag).position = d.retryFrom := rfl
    cases t <;> cases hf : d.retryFrom <;> simp [Disc.moving, Disc.creeps, ht', hp', hf, eq_sub_iff_add_eq]
  rw [Disc.start, speed]
  rfl

/-- A retry of a DISC_STEP's move held at its target arrives at once (log entry 37). -/
theorem retryMove_arrives {q : Pos} {g : Byte} {c : FaultCode} {n : Int} (ht : s.disc.target = some (.pos q))
    (hp : s.disc.retryFrom = some q) (hr : s.disc.requester = some (.discStep g)) (hf : s.disc.fault = some (c, n))
    (hm : s.disc.mode = .manual) (hset : s.settings.user.soft.discMode = .manual) :
    retryMove tag s = faultGone c .none (requestDone .none tag 0x12 .done 0 { s with disc := { s.disc with
      position := s.disc.retryFrom, retryTag := none, retriedFault := none, fault := none, state := .atPosition, target := none
      requester := none } }) := by
  have untold : s.retrying tag = { s with disc := s.disc.retried tag } := by simp [State.retrying, hr]
  have ht' : (s.disc.retried tag).retriedFault = some c := by simp [Disc.retried, hf]
  have hr' : (s.disc.retried tag).requester = some (.discStep g) := hr
  have hg' : (s.disc.retried tag).retryTag = some tag := rfl
  have arrived : ({ (s.disc.retried tag).arrive with position := some q, retriedFault := none } : Disc) = { s.disc with
      position := s.disc.retryFrom, retryTag := none, retriedFault := none, fault := none, state := .atPosition, target := none
      requester := none } := by
    rw [hp]
    rfl
  rw [retryMove_eq, hp, ht]
  simp only [if_true, untold, discArrival, hr', hg', ht', Option.isNone, Bool.false_eq_true, if_false, requestDoneIf, arrived]
  rw [hp]
  exact modeChange_manual hm hset

end

/-- Settles O15: the refusals by their tests; a retry starts the held move, or arrives. -/
theorem discRequests : Obligations.DiscRequests := by
  intro svc tag s h w d retry
  have step {u : State} {a : Answered} (ht : takeDiscStep tag w = (u, a)) : exec (.discStep tag svc) s = answers .discStep tag s u a :=
    exec_answers rfl h trivial ht
  have retried {u : State} {a : Answered} (ht : takeDiscRetry tag w = (u, a)) : exec (.discRetry tag svc) s = retry u a :=
    exec_answers rfl h trivial ht
  have observing (hf : d.state = .fault) : d.state ≠ .observing := by rw [hf]; decide
  refine ⟨?step, fun ho => retried (if_pos ho), fun ho hf => retried ((if_neg ho).trans (if_pos hf)), fun hf hm => retried ?battery,
    fun hf hm => ?taken⟩
  case step =>
    have eq := takeDiscStep_eq (tag := tag) (s := w)
    split
    next ho => exact step (eq.trans (if_pos ho))
    next ho =>
      replace eq := eq.trans (if_neg ho)
      split
      next ha => exact step (eq.trans (if_pos ha))
      next ha =>
        replace eq := eq.trans (if_neg ha)
        split
        next hd => exact step (eq.trans (if_pos hd))
        next hd =>
          replace eq := eq.trans (if_neg hd)
          split
          next hf => exact step (eq.trans (if_pos hf))
          next hf =>
            replace eq := eq.trans (if_neg hf)
            split
            next hm => exact step (eq.trans (if_pos hm))
            next hm => exact step (eq.trans (if_neg hm))
  case battery => exact (if_neg (observing hf)).trans ((if_neg (not_not_intro hf)).trans (if_pos hm))
  case taken =>
    intro from_
    have moved : takeDiscRetry tag w = take .accepted (retryMove tag w) :=
      (if_neg (observing hf)).trans ((if_neg (not_not_intro hf)).trans (if_neg (not_not_intro hm)))
    refine ⟨fun t ht hp => ⟨_, retried moved, ?starts⟩, fun q g c n ht hp hr hfault hmode hset => retried (moved.trans ?arrives)⟩
    case starts =>
      have starts : retryMove tag w = _ := retryMove_starts (s := w) ht hp
      obtain ⟨q, n, others⟩ := retrying_others tag w
      have tank (k : Tank) : (retryMove tag w).tank k = (w.retrying tag).tank k := by rw [starts]; rfl
      refine ⟨by rw [starts]; exact Disc.retried_start ht, fun k => (tank k).trans (retrying_tank tag w k), ?_⟩
      rw [starts, others]
      rfl
    case arrives => exact congrArg (take .accepted) (retryMove_arrives (s := w) ht hp hr hfault hmode hset)

end Sys2Proof.Machine

/-! The end of the restart observation and the recovery pass: O13. -/

namespace Sys2Proof.Machine

set_option Elab.async false

theorem Pos.forward_zero (p : Pos) : p + Fin.ofNat 14 0 = p := by
  revert p
  decide

theorem Pos.forward_succ (p : Pos) (n : Nat) : (p + 1) + Fin.ofNat 14 n = p + Fin.ofNat 14 (n + 1) := by
  apply Fin.ext
  simp only [Fin.val_add, Fin.ofNat]
  omega

theorem Pos.forward_ne (p : Pos) {n : Nat} (h0 : 0 < n) (h : n < 14) : p + Fin.ofNat 14 n ≠ p := by
  intro e
  have e' := congrArg Fin.val e
  simp only [Fin.val_add, Fin.ofNat] at e'
  omega

/-- The search forward finds the first position that satisfies its test (R82). -/
theorem firstForward_eq {f : Pos → Bool} {n N : Nat} (hn : n < N) {p : Pos} (hbefore : ∀ m, m < n → f (p + Fin.ofNat 14 m) = false)
    (hf : f (p + Fin.ofNat 14 n) = true) : firstForward f N p = p + Fin.ofNat 14 n := by
  induction N generalizing n p with
  | zero => exact absurd hn (Nat.not_lt_zero n)
  | succ N ih =>
    rw [firstForward]
    cases n with
    | zero =>
      rw [Pos.forward_zero] at hf ⊢
      exact if_pos hf
    | succ n =>
      have hp : f p = false := Pos.forward_zero p ▸ hbefore 0 (Nat.succ_pos n)
      rw [hp, if_neg Bool.false_ne_true, ← Pos.forward_succ]
      refine ih (Nat.lt_of_succ_lt_succ hn) (fun m hm => ?_) ?_
      · rw [Pos.forward_succ]
        exact hbefore (m + 1) (Nat.succ_lt_succ hm)
      · rw [Pos.forward_succ]
        exact hf

/-- A position that satisfies the test is found at once. -/
theorem firstForward_self {f : Pos → Bool} {N : Nat} {p : Pos} (h : f p = true) : firstForward f (N + 1) p = p := by
  rw [firstForward, if_pos h]

/-- A tank is the one or the other. -/
theorem Tank.eq_or_other (j k : Tank) : j = k ∨ j = k.other := by cases j <;> cases k <;> simp [Tank.other]

section
variable {s : State}

/-- With the disc in AUTO, as its setting says, no mode change waits (R54). -/
theorem modeChange_auto (hm : s.disc.mode = .auto) (hset : s.settings.user.soft.discMode = .auto) : modeChange s = s := by
  simp [modeChange, applyManual, hm, hset]

theorem regenerating_none (h : ∀ k : Tank, (s.tank k).service ≠ .regenerating) : regenerating s = none := by
  simp [regenerating, h .a, h .b]

/-- With one tank IN_SERVICE, the other is the one that can be regenerating. -/
theorem regenerating_other {k : Tank} (hk : (s.tank k).service = .inService) (ho : (s.tank k.other).service = .regenerating) :
    regenerating s = some k.other := by
  cases k
  · have ho' : (s.tank .b).service = .regenerating := ho
    simp only [regenerating, hk, ho', reduceCtorEq, if_false, if_true]
    rfl
  · have ho' : (s.tank .a).service = .regenerating := ho
    simp only [regenerating, ho', if_true]
    rfl

/-- A move request that the disc takes (R46). -/
theorem askMove_moves {q : Pos} (hf : s.discFree = true) (hp : s.disc.position ≠ some q) :
    askMove q s = { s with disc := s.disc.moveTo q } := by
  have reply : moveReply q s = .started := by rw [moveReply, hf, if_pos rfl, if_neg hp]
  simp only [askMove, discRequest, reply, reduceCtorEq, if_false]
  rfl

/-! ### The recovery pass (R82) -/

/-- With one tank IN_SERVICE and none regenerating, the pass goes to the first position that serves that tank (R82 case 5). -/
theorem recoverService_eq {k : Tank} {x : Pos} (hk : (s.tank k).service = .inService) (ho : (s.tank k.other).service ≠ .inService) :
    recoverService x s = if serviceTarget k x = x then s else askMove (serviceTarget k x) s := by
  have which : (if (s.tank .a).service = .inService then Tank.a else if (s.tank .b).service = .inService then .b else s.seq.chosen) = k := by
    cases k
    · exact if_pos hk
    · have ho' : (s.tank .a).service ≠ .inService := ho
      rw [if_neg ho', if_pos hk]
  have commissioned : commission x s = s := by
    rw [commission]
    simp [commissioning_of_inService ⟨k, hk⟩]
  simp only [recoverService, which, commissioned]

end

section
variable {code : BitVec 4} {s : State} {p : Pos}

/-- The positioner record when the observation has found a position (R57). -/
def Disc.observed (d : Disc) (code : BitVec 4) (p : Pos) : Disc := { d with inPlace := true, code := code, state := .atPosition, position := some p }

/-- A position found is reported, and then a mode set meanwhile is tried (R57, log entry 16). -/
theorem discObserved_found (ho : s.disc.state = .observing) (hc : codePosition code = some p) :
    discObserved true code s = modeChange (restartPosition p { s with disc := s.disc.observed code p }) := by
  simp only [discObserved, ho, hc, if_true]
  rfl

/-- With a tank in service, in AUTO, a position found starts the recovery pass (R82). -/
theorem restartPosition_auto {k : Tank} (hk : (s.tank k).service = .inService) (hm : s.disc.mode = .auto) :
    restartPosition p s = recoveryPass s := by
  simp [restartPosition, commissioning_of_inService ⟨k, hk⟩, hm]

/-- Without a recovery to make, a position found in AUTO leaves what the pass leaves, as long as that stays in AUTO. -/
theorem discObserved_auto {k : Tank} {u : State} (ho : s.disc.state = .observing) (hc : codePosition code = some p)
    (hk : (s.tank k).service = .inService) (hm : s.disc.mode = .auto) (hset : s.settings.user.soft.discMode = .auto)
    (hu : recoveryPass { s with disc := s.disc.observed code p } = u) (hum : u.disc.mode = .auto) (hus : u.settings = s.settings) :
    discObserved true code s = u := by
  have hfound : restartPosition p { s with disc := s.disc.observed code p } = u :=
    (restartPosition_auto (s := { s with disc := s.disc.observed code p }) hk hm).trans hu
  rw [discObserved_found ho hc, hfound]
  exact modeChange_auto hum (hus ▸ hset)

/-- At a service position of a READY tank, with no tank in service, commissioning takes that tank (R60). -/
theorem discObserved_commissions {k : Tank} (ho : s.disc.state = .observing) (hc : codePosition code = some p)
    (hp : servicePosition p = some k) (hm : s.disc.mode = .auto) (hset : s.settings.user.soft.discMode = .auto)
    (hn : s.seq.changeover = none) (hr : ∀ j, (s.tank j).service = .ready) :
    discObserved true code s = changeTank k { (s.tank k).undue with service := .inService, hours := 0 }
      { s with disc := s.disc.observed code p, seq := { s.seq with chosen := k } } := by
  let v : State := { s with disc := s.disc.observed code p, seq := { s.seq with chosen := k } }
  have commissioned (u : State) (hu : ∀ j, (u.tank j).service = .ready) : commissioning u = true := by simp [commissioning, hu]
  have nearest : firstForward (fun q => (servicePosition q).isSome) 14 p = p := firstForward_self (by rw [hp]; rfl)
  have target : serviceTarget k p = p := firstForward_self (by rw [hp]; exact beq_self_eq_true _)
  have none_regenerating : regenerating v = none := regenerating_none fun j hj => by
    have hj' : (s.tank j).service = .regenerating := hj
    rw [hr j] at hj'
    cases hj'
  have chosen : restartPosition p { s with disc := s.disc.observed code p } = recoveryPass v := by
    unfold restartPosition
    dsimp only
    rw [commissioned { s with disc := s.disc.observed code p } hr, if_pos rfl, nearest, hp]
    exact if_pos hm
  have pass : recoveryPass v = recoverService p v := by
    have hpos : v.disc.position = some p := rfl
    have hchange : v.seq.changeover = none := hn
    simp only [recoveryPass, hpos, hchange, none_regenerating]
  have enters : recoverService p v = changeTank k { (s.tank k).undue with service := .inService, hours := 0 } v := by
    have ha : ¬ (v.tank .a).service = .inService := fun e => by
      have e' : (s.tank .a).service = .inService := e
      rw [hr] at e'
      cases e'
    have hb : ¬ (v.tank .b).service = .inService := fun e => by
      have e' : (s.tank .b).service = .inService := e
      rw [hr] at e'
      cases e'
    have hchosen : v.seq.chosen = k := rfl
    simp only [recoverService, ha, hb, if_false, hchosen, target, if_true, commission, commissioned v hr, hp, and_self]
    rfl
  rw [discObserved_found ho hc, chosen, pass, enters]
  refine modeChange_auto ?_ ?_
  · rw [changeTank_disc]
    exact hm
  · rw [changeTank_settings]
    exact hset

end

/-- Settles O13: what the observation finds names the case, and in AUTO the recovery pass its move. -/
theorem restartObservationEnds : Obligations.RestartObservationEnds := by
  intro code s h ho
  refine ⟨event_leaves h (if_pos ho), fun hc => ⟨_, event_leaves h ?unnamed, discFault_stops _ _ _ s⟩,
    fun p hc hm hset hk => event_leaves h ?manual, fun p k hc hp hm hset hn hr => ⟨_,
      event_leaves h (discObserved_commissions ho hc hp hm hset hn hr), ?commissioned⟩, fun p k hc hm hset hk => ?recovers⟩
  case unnamed => simp only [discObserved, ho, hc, if_true]
  case manual =>
    rw [discObserved_found ho hc, restartPosition_manual (s := { s with disc := s.disc.observed code p }) p hm hk]
    exact modeChange_manual hm hset
  case commissioned =>
    refine ⟨changeTank_disc _ _ _, by rw [changeTank_seq], by rw [changeTank_tank_same], by rw [changeTank_tank_same],
      changeTank_tank_other _ _ _⟩
  case recovers =>
    intro found moves stays forward
    let v : State := { s with disc := found }
    have free : v.discFree = true := by
      have hm' : v.disc.mode = .auto := hm
      have hs' : v.disc.state = .atPosition := rfl
      simp [State.discFree, hm', hs']
    have leaves {u : State} (hu : recoveryPass v = u) (hum : u.disc.mode = .auto) (hus : u.settings = s.settings) :
        exec (.discRestartObservation true code) s = commit s (follow u) :=
      event_leaves h (discObserved_auto ho hc hk hm hset hu hum hus)
    have moved {q : Pos} (hq : recoveryPass v = askMove q v) (hne : p ≠ q) : moves q :=
      leaves (hq.trans (askMove_moves free fun e => hne (Option.some.inj e))) hm rfl
    have stayed (hu : recoveryPass v = v) : stays := leaves hu hm rfl
    refine ⟨fun c hcg => ?changeover, fun hcg hor hos => ?service, fun hcg hor => ?regeneration⟩
    case changeover =>
      have pass : recoveryPass v = recoverChangeover c p v := by
        have hcg' : v.seq.changeover = some c := hcg
        have hpos : v.disc.position = some p := rfl
        simp only [recoveryPass, hpos, hcg']
      refine ⟨fun hph hne => moved (pass.trans ?_) hne, fun hph hne => moved (pass.trans ?_) hne, fun hph he => stayed (pass.trans ?_)⟩
      · simp only [recoverChangeover, hph]
      · simp only [recoverChangeover, hph]
      · simp only [recoverChangeover, hph, if_pos he]
    case service =>
      have none_regenerating : regenerating v = none := regenerating_none fun j hj => by
        rcases Tank.eq_or_other j k with rfl | rfl
        · exact absurd (hk.symm.trans hj) (by decide)
        · exact hor hj
      have pass : recoveryPass v = if serviceTarget k p = p then v else askMove (serviceTarget k p) v := by
        have hcg' : v.seq.changeover = none := hcg
        have hpos : v.disc.position = some p := rfl
        simp only [recoveryPass, hpos, hcg', none_regenerating]
        exact recoverService_eq hk hos
      refine ⟨fun hp => stayed (pass.trans (if_pos (firstForward_self (by rw [hp]; exact beq_self_eq_true _)))),
        fun n h0 hn hbefore hat => ?_⟩
      have target : serviceTarget k p = forward n := firstForward_eq hn (fun m hm => beq_eq_false_iff_ne.mpr (hbefore m hm)) (beq_iff_eq.mpr hat)
      have hne := Pos.forward_ne p h0 hn
      rw [target, if_neg hne] at pass
      exact moved pass hne.symm
    case regeneration =>
      have pass : recoveryPass v = if (v.tank k.other).phase = some .toReady then askMove (readyPosition k.other) v
          else recoverRegeneration k.other p v := by
        have hcg' : v.seq.changeover = none := hcg
        have hpos : v.disc.position = some p := rfl
        simp only [recoveryPass, hpos, hcg', regenerating_other (s := v) hk hor]
      refine ⟨fun hph hne => moved (pass.trans (if_pos hph)) hne, fun hph => ?_⟩
      replace pass := pass.trans (if_neg hph)
      refine ⟨fun step hst hrec hph' => stayed (pass.trans ?_), fun n h0 hn hbefore hat => ?_⟩
      · have hrec' : (v.tank k.other).step = some step := hrec
        have hph'' : (v.tank k.other).phase ≠ some .toStep := hph'
        simp only [recoverRegeneration, hst, hrec', if_true, hph'', if_false]
      · have target : regenTarget k.other p = forward n :=
          firstForward_eq hn (fun m hm => congrArg Option.isSome (hbefore m hm)) (Option.isSome_iff_ne_none.mpr hat)
        have hstart : positionStep k.other p = none := by
          have h := hbefore 0 h0
          rwa [show forward 0 = p from Pos.forward_zero p] at h
        refine moved (pass.trans ?_) (Pos.forward_ne p h0 hn).symm
        simp only [recoverRegeneration, hstart, target]

end Sys2Proof.Machine

/-! What the operations of the Shutoff Controller leave unchanged, and what each makes of the valve's record. -/

namespace Sys2Proof.Machine

set_option Elab.async false

/-! ### What the controller can reach -/

/-- What every operation of the Shutoff Controller keeps: it changes the valve's record but not the close reasons, cuts a flush, and
reports. -/
structure Valves (s t : State) : Prop where
  others : t = { s with
    valve := t.valve, filter := t.filter, line := { s.line with flush := t.line.flush }, faults := t.faults, notices := t.notices }
  reasons : t.valve.reasons = s.valve.reasons

section
variable {s t u : State}

theorem Valves.refl (s : State) : Valves s s := ⟨rfl, rfl⟩

theorem Valves.trans (h : Valves s t) (h' : Valves t u) : Valves s u where
  others := by
    have e := h'.others
    rw [h.others] at e
    exact e
  reasons := h'.reasons.trans h.reasons

theorem Valves.ite {c : Prop} [Decidable c] {a b : State} (ha : c → Valves s a) (hb : ¬ c → Valves s b) : Valves s (if c then a else b) := by
  split
  next hc => exact ha hc
  next hc => exact hb hc

/-- A valve's record replaced, its reasons kept. -/
theorem Valves.record (v : Valve) (hv : v.reasons = s.valve.reasons) : Valves s { s with valve := v } := ⟨rfl, hv⟩

theorem valves_post (k : NoticeKind) (j : Subject) (a b c : Int) (s : State) : Valves s (post k j a b c s) := ⟨rfl, rfl⟩

theorem valves_faultGone (c : FaultCode) (j : Subject) (s : State) : Valves s (faultGone c j s) := ⟨rfl, rfl⟩

theorem valves_faultReport (c : FaultCode) (j : Subject) (d : Int) (s : State) : Valves s (faultReport c j d s) := ⟨rfl, rfl⟩

theorem valves_flushCut (s : State) : Valves s (flushCut s) := by
  have evaluated (u : State) : Valves u (filterEvaluateNow u) := ⟨by rw [filterEvaluateNow, setFilter_others], by
    rw [filterEvaluateNow, setFilter_others]⟩
  have dropped (u : State) : Valves u (dropFlush u) := .ite (fun _ => ⟨rfl, rfl⟩) fun _ => .refl u
  have closed : Valves s { s with filter := { s.filter with solenoid := false } } := ⟨rfl, rfl⟩
  exact .ite (fun _ => ((closed.trans (evaluated _)).trans (dropped _)).trans (valves_post _ _ _ _ _ _)) fun _ => .refl s

theorem valves_valveChange (v : ValveState) (s : State) : Valves s (valveChange v s) := by
  have changed : Valves s { s with valve := { s.valve with state := v } } := .record _ rfl
  exact .ite (fun _ => .refl s) fun _ => .ite (fun _ => (changed.trans (valves_post _ _ _ _ _ _)).trans (valves_flushCut _))
    fun _ => changed.trans (valves_post _ _ _ _ _ _)

theorem valves_answerTag (s : State) : Valves s (answerTag s) := by
  unfold answerTag
  dsimp only
  repeat' split
  all_goals exact ⟨rfl, rfl⟩

/-- The valve's record as a travel toward an end stops there, before its state follows (R143, R150). -/
def Valve.arriving (v : Valve) (e : ValveEnd) : Valve :=
  { v with
    drive := .stopped, pause := .none, second := false, retried := false
    exercise := if e = .openEnd ∧ v.exercise = .openRun then .none else v.exercise }

/-- A travel's arrival, written with its record. -/
theorem valveArrive_eq (e : ValveEnd) (s : State) : valveArrive e s = answerTag
    (if (s.valve.second || s.valve.retried) = true then
      faultGone .shutoffStuck .none (valveChange (restState e) { s with valve := s.valve.arriving e })
    else valveChange (restState e) { s with valve := s.valve.arriving e }) := rfl

theorem valves_valveArrive (e : ValveEnd) (s : State) : Valves s (valveArrive e s) := by
  have stopped : Valves s { s with valve := s.valve.arriving e } := .record _ rfl
  have changed := stopped.trans (valves_valveChange (restState e) _)
  rw [valveArrive_eq]
  exact Valves.trans (.ite (fun _ => changed.trans (valves_faultGone _ _ _)) fun _ => changed) (valves_answerTag _)

theorem valves_drive (e : ValveEnd) (s : State) : Valves s (drive e s) := .record _ rfl

theorem valves_driveOrArrive (e : ValveEnd) (s : State) : Valves s (driveOrArrive e s) :=
  .ite (fun _ => valves_valveArrive e s) fun _ => (valves_valveChange _ s).trans (valves_drive e _)

theorem valves_beginTravel (s : State) : Valves s (beginTravel s) :=
  (Valves.record { s.valve with second := false, retried := false } rfl).trans (valves_driveOrArrive _ _)

theorem valves_reverseTravel (s : State) : Valves s (reverseTravel s) :=
  (Valves.record { s.valve with
    drive := .stopped, second := false, pause := if s.valve.pause = .retry then .retry else .reversal } rfl).trans (valves_valveChange _ _)

theorem valves_exercisePassed (s : State) : Valves s (exercisePassed s) :=
  (Valves.record { s.valve with exerciseDays := 0 } rfl).trans (valves_faultGone _ _ _)

theorem valves_closeRunTravels (s : State) : Valves s (closeRunTravels s) := by
  have ended : Valves s { s with valve := { s.valve with exercise := .none, second := false } } := .record _ rfl
  have judged := ended.trans (.ite (c := s.valve.released = true) (fun _ => valves_exercisePassed _) fun _ => .refl _)
  exact judged.trans (.ite (fun _ => valves_valveArrive _ _) fun _ => .refl _)

theorem valves_targetBecameClosed (s : State) : Valves s (targetBecameClosed s) := by
  have ended : Valves s { s with valve := { s.valve with exercise := .none } } := .record _ rfl
  unfold targetBecameClosed
  split
  · exact valves_beginTravel s
  · exact valves_closeRunTravels s
  · exact ended.trans (valves_reverseTravel _)
  · exact ended.trans (valves_reverseTravel _)
  · exact valves_reverseTravel s
  · exact valves_reverseTravel s
  · exact .refl s
  · exact .refl s

/-- The state with a close reason put in the set or taken from it (R142). -/
def State.withReason (n : Reason) (present : Bool) (s : State) : State :=
  { s with valve := { s.valve with reasons := s.valve.reasons.put n present } }

theorem valves_addReason (n : Reason) (s : State) : Valves (s.withReason n true) (addReason n s) :=
  .ite (fun _ => .refl _) fun _ => valves_targetBecameClosed _

theorem valves_dropReason (n : Reason) (s : State) : Valves (s.withReason n false) (dropReason n s) := by
  refine .ite (fun _ => ?_) fun _ => .refl _
  split
  · exact valves_beginTravel _
  · exact valves_reverseTravel _
  · exact valves_reverseTravel _
  · exact .refl _

/-- The valve's record as it becomes STUCK, before its state follows (R144, R146). -/
def Valve.sticking (v : Valve) (c : StuckCause) : Valve :=
  { v with
    drive := .stopped, pause := .none, second := false, retried := false, stuck := some c
    exercise := if v.exercise = .armed then .armed else .none }

/-- Becoming STUCK, written with its record. -/
theorem valveStuckCore_eq (c : StuckCause) (d : Int) (s : State) : valveStuckCore c d s =
    answerTag (faultReport (stuckFault c) .none d (valveChange .stuck { s with valve := s.valve.sticking c })) := rfl

theorem valves_valveStuckCore (c : StuckCause) (d : Int) (s : State) : Valves s (valveStuckCore c d s) := by
  have stuck : Valves s { s with valve := s.valve.sticking c } := .record _ rfl
  rw [valveStuckCore_eq]
  exact ((stuck.trans (valves_valveChange .stuck _)).trans (valves_faultReport _ _ _ _)).trans (valves_answerTag _)

end

/-! ### What each operation makes of the valve's record -/

section
variable {s : State}

/-- A change of the valve's state that cuts no flush (R117, R141). -/
theorem valveChange_quiet (v : ValveState) (h : s.valve.state ≠ .opened ∨ s.filter.state ≠ .flushing) :
    ∃ n, valveChange v s = { s with valve := { s.valve with state := v }, notices := n } := by
  by_cases hv : s.valve.state = v
  · exact ⟨_, (if_pos hv).trans (by rw [← hv])⟩
  · unfold valveChange
    simp only [if_neg hv]
    split
    next ho =>
      have uncut : ∀ u : State, u.filter = s.filter → flushCut u = u := fun u hu => if_neg (by rw [hu]; exact h.resolve_left (not_not_intro ho))
      exact ⟨_, uncut _ rfl⟩
    · exact ⟨_, rfl⟩

/-- The command tag after it may have been answered (R148). -/
def Valve.answered (v : Valve) (closed : Bool) : Option Byte :=
  match v.state, v.stuck with
  | .opened, _ => if closed then v.tag else none
  | .closed, _ => if closed then none else v.tag
  | .stuck, some _ => none
  | _, _ => v.tag

/-- Either the tag is answered, or nothing happens. -/
theorem answerTag_cases (s : State) : (answerTag s = s ∧ s.valve.answered s.targetClosed = s.valve.tag)
    ∨ ∃ n, answerTag s = { s with valve := { s.valve with tag := none }, notices := n } ∧ s.valve.answered s.targetClosed = none := by
  unfold answerTag Valve.answered
  cases ht : s.valve.tag with
  | none =>
    refine .inl ⟨rfl, ?_⟩
    repeat' split
    all_goals rfl
  | some tag =>
    dsimp only
    cases hv : s.valve.state with
    | opened =>
      cases s.targetClosed with
      | true => exact .inl ⟨rfl, rfl⟩
      | false => exact .inr ⟨_, rfl, rfl⟩
    | closed =>
      cases s.targetClosed with
      | true => exact .inr ⟨_, rfl, rfl⟩
      | false => exact .inl ⟨rfl, rfl⟩
    | stuck =>
      cases s.valve.stuck with
      | none => exact .inl ⟨rfl, rfl⟩
      | some c => exact .inr ⟨_, rfl, rfl⟩
    | opening | closing => exact .inl ⟨rfl, rfl⟩

theorem answerTag_eq (s : State) :
    ∃ n, answerTag s = { s with valve := { s.valve with tag := s.valve.answered s.targetClosed }, notices := n } := by
  rcases answerTag_cases s with ⟨h, hn⟩ | ⟨n, h, hn⟩
  · exact ⟨s.notices, by rw [h, hn]⟩
  · exact ⟨n, by rw [h, hn]⟩

theorem answerTag_valve (s : State) : (answerTag s).valve = { s.valve with tag := s.valve.answered s.targetClosed } := by
  obtain ⟨n, h⟩ := answerTag_eq s
  rw [h]

/-- At rest the tag is answered at the target's end (R148). -/
theorem Valve.answered_rest {v : Valve} {e : ValveEnd} (h : v.state = restState e) :
    v.answered s.targetClosed = if s.targetEnd = e then none else v.tag := by
  cases e <;> cases hc : s.targetClosed <;> simp [Valve.answered, h, restState, State.targetEnd, hc]

theorem Valve.answered_stuck {v : Valve} {c : StuckCause} (closed : Bool) (h : v.state = .stuck) (hc : v.stuck = some c) :
    v.answered closed = none := by
  simp only [Valve.answered, h, hc]

theorem Valve.answered_travelling {v : Valve} {e : ValveEnd} (closed : Bool) (h : v.state = travelState e) : v.answered closed = v.tag := by
  cases e <;> simp only [Valve.answered, h, travelState]

theorem targetEnd_congr {t : State} (h : t.valve.reasons = s.valve.reasons) : t.targetEnd = s.targetEnd := by
  rw [State.targetEnd, State.targetEnd, State.targetClosed, State.targetClosed, h]

/-- The record after a travel's arrival (R143, R148). -/
def State.arrivedValve (s : State) (e : ValveEnd) : Valve :=
  { s.valve.arriving e with state := restState e, tag := if s.targetEnd = e then none else s.valve.tag }

/-- The log after a travel's arrival (R143). -/
def State.arrivedFaults (s : State) : FaultLog :=
  if s.valve.second || s.valve.retried then s.faults.gone .shutoffStuck .none else s.faults

theorem valveArrive_valve (e : ValveEnd) (s : State) : (valveArrive e s).valve = s.arrivedValve e := by
  have changed (u : State) (h : u.valve = { s.valve.arriving e with state := restState e }) : (answerTag u).valve = s.arrivedValve e := by
    have hrest : u.valve.state = restState e := by rw [h]
    have target : u.targetEnd = s.targetEnd := targetEnd_congr (by rw [h]; rfl)
    rw [answerTag_valve, Valve.answered_rest (s := u) hrest, target, h]
    rfl
  rw [valveArrive_eq]
  refine changed _ ?_
  split
  · exact valveChange_valve (restState e) { s with valve := s.valve.arriving e }
  · exact valveChange_valve (restState e) { s with valve := s.valve.arriving e }

/-- An arrival that cuts no flush. -/
theorem valveArrive_quiet (e : ValveEnd) (h : s.valve.state ≠ .opened ∨ s.filter.state ≠ .flushing) :
    ∃ n, valveArrive e s = { s with valve := s.arrivedValve e, faults := s.arrivedFaults, notices := n } := by
  obtain ⟨n, hn⟩ := valveChange_quiet (s := { s with valve := s.valve.arriving e }) (restState e) h
  have hv := valveArrive_valve e s
  rw [valveArrive_eq, hn] at hv
  rw [valveArrive_eq, hn]
  unfold State.arrivedFaults
  split
  next hc =>
    rw [if_pos hc] at hv
    obtain ⟨m, hm⟩ := answerTag_eq (faultGone .shutoffStuck .none { s with
      valve := { s.valve.arriving e with state := restState e }, notices := n })
    rw [hm] at hv
    exact ⟨m, hm.trans (by rw [← hv]; rfl)⟩
  next hc =>
    rw [if_neg hc] at hv
    obtain ⟨m, hm⟩ := answerTag_eq { s with valve := { s.valve.arriving e with state := restState e }, notices := n }
    rw [hm] at hv
    exact ⟨m, hm.trans (by rw [← hv])⟩

theorem drive_eq (e : ValveEnd) (s : State) : drive e s = { s with valve := { s.valve with
    drive := driveTo e, pause := .none, travel := 0, overcurrent := 0 } } := rfl

theorem driveOrArrive_drives {e : ValveEnd} (h : s.pins.switch e = false) :
    driveOrArrive e s = drive e (valveChange (travelState e) s) := by
  rw [driveOrArrive, h, if_neg Bool.false_ne_true]

theorem driveOrArrive_arrives {e : ValveEnd} (h : s.pins.switch e = true) : driveOrArrive e s = valveArrive e s := if_pos h

/-- The record after a drive has begun (R143). -/
theorem driven_valve (e : ValveEnd) (s : State) : (drive e (valveChange (travelState e) s)).valve = { s.valve with
    state := travelState e, drive := driveTo e, pause := .none, travel := 0, overcurrent := 0 } := by
  rw [drive_eq]
  simp only [valveChange_valve]

/-- A new travel from rest with its switch open (R143). -/
theorem beginTravel_valve (h : s.pins.switch s.targetEnd = false) : (beginTravel s).valve = { s.valve with
    state := travelState s.targetEnd, drive := driveTo s.targetEnd, pause := .none, second := false, retried := false, travel := 0
    overcurrent := 0 } := by
  have drives := driveOrArrive_drives (s := { s with valve := { s.valve with second := false, retried := false } }) (e := s.targetEnd) h
  rw [beginTravel, drives, driven_valve]

/-- Becoming STUCK (R144, R146). -/
theorem valveStuckCore_valve (c : StuckCause) (d : Int) (s : State) :
    (valveStuckCore c d s).valve = { s.valve.sticking c with state := .stuck, tag := none } := by
  have hv : (valveChange .stuck { s with valve := s.valve.sticking c }).valve = { s.valve.sticking c with state := .stuck } :=
    valveChange_valve _ _
  rw [valveStuckCore_eq, answerTag_valve]
  generalize valveChange .stuck { s with valve := s.valve.sticking c } = u at hv ⊢
  have hstuck : (faultReport (stuckFault c) .none d u).valve.answered (faultReport (stuckFault c) .none d u).targetClosed = none :=
    Valve.answered_stuck (c := c) _ (by show u.valve.state = _; rw [hv]) (by show u.valve.stuck = _; rw [hv]; rfl)
  rw [hstuck]
  show { u.valve with tag := none } = _
  rw [hv]

theorem answerTag_faults (s : State) : (answerTag s).faults = s.faults := by
  obtain ⟨n, h⟩ := answerTag_eq s
  rw [h]

theorem setFilter_faults (n : FilterState) (s : State) : (setFilter n s).faults = s.faults := by rw [setFilter_others]

theorem flushCut_faults (s : State) : (flushCut s).faults = s.faults := by
  unfold flushCut dropFlush
  dsimp only
  repeat' split
  · exact setFilter_faults _ _
  · exact setFilter_faults _ _
  · rfl

theorem valveChange_faults (v : ValveState) (s : State) : (valveChange v s).faults = s.faults := by
  unfold valveChange
  dsimp only
  repeat' split
  · rfl
  · exact flushCut_faults _
  · rfl

theorem valveStuckCore_faults (c : StuckCause) (d : Int) (s : State) :
    (valveStuckCore c d s).faults = s.faults.report (stuckFault c) .none d s.now := by
  have hf : (valveChange .stuck { s with valve := s.valve.sticking c }).faults = s.faults := valveChange_faults _ _
  have hn : (valveChange .stuck { s with valve := s.valve.sticking c }).clock = s.clock := by
    rw [(valves_valveChange .stuck { s with valve := s.valve.sticking c }).others]
  rw [valveStuckCore_eq, answerTag_faults]
  generalize valveChange .stuck { s with valve := s.valve.sticking c } = u at hf hn ⊢
  show u.faults.report _ _ _ u.clock.stamp = s.faults.report _ _ _ s.clock.stamp
  rw [hf, hn]

/-- Becoming STUCK without cutting a flush. -/
theorem valveStuckCore_quiet (c : StuckCause) (d : Int) (h : s.valve.state ≠ .opened ∨ s.filter.state ≠ .flushing) :
    ∃ n, valveStuckCore c d s = { s with
      valve := { s.valve.sticking c with state := .stuck, tag := none }, faults := s.faults.report (stuckFault c) .none d s.now
      notices := n } := by
  obtain ⟨n, hn⟩ := valveChange_quiet (s := { s with valve := s.valve.sticking c }) .stuck h
  obtain ⟨m, hm⟩ := answerTag_eq (faultReport (stuckFault c) .none d { s with
    valve := { s.valve.sticking c with state := .stuck }, notices := n })
  have hstuck : ({ s.valve.sticking c with state := .stuck } : Valve).answered s.targetClosed = none := Valve.answered_stuck (c := c) _ rfl rfl
  refine ⟨m, ?_⟩
  rw [valveStuckCore_eq, hn, hm]
  show ({ s with
    valve := { s.valve.sticking c with
      state := .stuck, tag := ({ s.valve.sticking c with state := .stuck } : Valve).answered s.targetClosed }
    faults := s.faults.report (stuckFault c) .none d s.now, notices := m } : State) = _
  rw [hstuck]

end

end Sys2Proof.Machine

/-! What the operations of the Regeneration Sequencer and the Brine Monitor can reach. -/

namespace Sys2Proof.Machine

set_option Elab.async false

/-- What the sequencer's own operations keep: they change the tank records, the capacity, the disc's move, the brine records and the REGEN
claim, and post. -/
structure Sequenced (s t : State) : Prop where
  others : t = { s with
    cap := t.cap, disc := t.disc, seq := t.seq, brine := t.brine, line := { s.line with regen := t.line.regen }, notices := t.notices }

section
variable {s t u : State}

theorem Sequenced.refl (s : State) : Sequenced s s := ⟨rfl⟩

theorem Sequenced.trans (h : Sequenced s t) (h' : Sequenced t u) : Sequenced s u := by
  have e := h'.others
  rw [h.others] at e
  exact ⟨e⟩

theorem Sequenced.ite {c : Prop} [Decidable c] {a b : State} (ha : c → Sequenced s a) (hb : ¬ c → Sequenced s b) :
    Sequenced s (if c then a else b) := by
  split
  next hc => exact ha hc
  next hc => exact hb hc

theorem Sequenced.valve (h : Sequenced s t) : t.valve = s.valve := by rw [h.others]
theorem Sequenced.filter (h : Sequenced s t) : t.filter = s.filter := by rw [h.others]
theorem Sequenced.leak (h : Sequenced s t) : t.leak = s.leak := by rw [h.others]
theorem Sequenced.pins (h : Sequenced s t) : t.pins = s.pins := by rw [h.others]
theorem Sequenced.supply (h : Sequenced s t) : t.supply = s.supply := by rw [h.others]
theorem Sequenced.settings (h : Sequenced s t) : t.settings = s.settings := by rw [h.others]
theorem Sequenced.clock (h : Sequenced s t) : t.clock = s.clock := by rw [h.others]
theorem Sequenced.meter (h : Sequenced s t) : t.meter = s.meter := by rw [h.others]
theorem Sequenced.faults (h : Sequenced s t) : t.faults = s.faults := by rw [h.others]
theorem Sequenced.flush (h : Sequenced s t) : t.line.flush = s.line.flush := by rw [h.others]
theorem Sequenced.test (h : Sequenced s t) : t.line.test = s.line.test := by rw [h.others]

/-! ### Notices and tank records -/

theorem sequenced_post (k : NoticeKind) (j : Subject) (a b c : Int) (s : State) : Sequenced s (post k j a b c s) := ⟨rfl⟩
theorem sequenced_post1 (k : NoticeKind) (j : Subject) (a : Int) (s : State) : Sequenced s (post1 k j a s) := ⟨rfl⟩
theorem sequenced_post2 (k : NoticeKind) (j : Subject) (a b : Int) (s : State) : Sequenced s (post2 k j a b s) := ⟨rfl⟩

theorem sequenced_requestDoneIf (j : Subject) (g : Option Byte) (k : Nat) (o : DoneOutcome) (v : Int) (s : State) :
    Sequenced s (requestDoneIf j g k o v s) := by cases g <;> exact ⟨rfl⟩

theorem sequenced_withTank (k : Tank) (r : TankRecord) (s : State) : Sequenced s (s.withTank k r) := ⟨rfl⟩

theorem sequenced_changeTank (k : Tank) (r : TankRecord) (s : State) : Sequenced s (changeTank k r s) := ⟨by rw [changeTank_others]⟩

/-! ### The Brine Monitor's part -/

/-- What the Brine Monitor's own operations keep: they change its records and post. -/
structure Brining (s t : State) : Prop where
  others : t = { s with brine := t.brine, notices := t.notices }

theorem Brining.refl (s : State) : Brining s s := ⟨rfl⟩

theorem Brining.trans (h : Brining s t) (h' : Brining t u) : Brining s u := by
  have e := h'.others
  rw [h.others] at e
  exact ⟨e⟩

theorem Brining.sequenced (h : Brining s t) : Sequenced s t := ⟨by rw [h.others]⟩

theorem brining_saltReminder (n : Nat) (s : State) : Brining s (saltReminder n s) := ⟨rfl⟩

theorem brining_forecastReminder (s : State) : Brining s (forecastReminder s) := by
  unfold forecastReminder
  dsimp only
  repeat' split
  all_goals exact ⟨rfl⟩

theorem brining_setSalt (n : SaltState) (s : State) : Brining s (setSalt n s) := by
  unfold setSalt
  dsimp only
  repeat' split
  all_goals exact ⟨rfl⟩

theorem brining_evaluateSaltMass (s : State) : Brining s (evaluateSaltMass s) := by
  unfold evaluateSaltMass
  split
  · exact .refl s
  · exact brining_setSalt _ s

theorem brining_inventoryChanged (g : Nat) (s : State) : Brining s (inventoryChanged g s) := by
  unfold inventoryChanged
  split
  · exact .refl s
  · exact (brining_evaluateSaltMass s).trans (brining_forecastReminder _)

theorem brining_brineStart (k : Tank) (s : State) : Brining s (brineStart k s) := ⟨rfl⟩

theorem brining_brineEnd (s : State) : Brining s (brineEnd s) := by
  unfold brineEnd
  split <;> exact ⟨rfl⟩

theorem brining_refillStart (k : Tank) (s : State) : Brining s (refillStart k s) := ⟨rfl⟩

theorem brining_refillEnd (s : State) : Brining s (refillEnd s) := by
  unfold refillEnd
  split <;> exact ⟨rfl⟩

theorem brining_brineRegenEnd (s : State) : Brining s (brineRegenEnd s) :=
  (Brining.trans ⟨rfl⟩ (brining_evaluateSaltMass { s with brine := { s.brine with
    inventory := s.brine.inventory - saltUsed s
    log := (if s.brine.log.length < 4 then s.brine.log else s.brine.log.drop (s.brine.log.length - 3))
      ++ [{ grams := saltUsed s, stamp := s.now }]
    draw := none, postDue := some (s.now + 1800), postTried := false } })).trans (brining_forecastReminder _)

theorem brining_stepStarted (k : Tank) (p : Step) (s : State) : Brining s (stepStarted k p s) := by
  cases p
  case brine => exact brining_brineStart k s
  case refill => exact brining_refillStart k s
  all_goals exact .refl s

theorem brining_stepReported (p : Option Step) (s : State) : Brining s (stepReported p s) := by
  unfold stepReported
  split
  · exact brining_brineEnd s
  · exact brining_refillEnd s
  · exact .refl s

/-! ### Scheduling -/

theorem sequenced_defer (k : Tank) (r : DeferReason) (s : State) : Sequenced s (defer k r s) := by
  unfold defer
  dsimp only
  split <;> exact ⟨rfl⟩

theorem sequenced_deferFailing (k : Tank) (s : State) : Sequenced s (deferFailing k s) := by
  unfold deferFailing
  generalize startConditions k s = l
  induction l generalizing s with
  | nil => exact .refl s
  | cons c l ih => exact (Sequenced.ite (fun _ => .refl s) fun _ => sequenced_defer k c.2 s).trans (ih _)

theorem sequenced_withdrawRegen (k : Tank) (s : State) : Sequenced s (withdrawRegen k s) := by
  unfold withdrawRegen
  dsimp only
  repeat' split
  all_goals exact ⟨rfl⟩

theorem sequenced_askProjection (k : Tank) (s : State) : Sequenced s (askProjection k s) := by
  unfold askProjection
  dsimp only
  repeat' split
  all_goals exact ⟨rfl⟩

theorem sequenced_forceUrgent (k : Tank) (s : State) : Sequenced s (forceUrgent k s) := ⟨rfl⟩

theorem sequenced_enterOtherStep (k : Tank) (p : Step) (s : State) : Sequenced s (enterOtherStep k p s) :=
  ((Sequenced.ite (fun _ => (brining_brineEnd s).sequenced) fun _ => .refl s).trans (sequenced_changeTank k _ _)).trans
    (brining_stepStarted k p _).sequenced

theorem sequenced_stepArrival (k : Tank) (p : Step) (s : State) : Sequenced s (stepArrival k p s) :=
  .ite (fun _ => .ite (fun _ => (sequenced_changeTank k _ s).trans (brining_stepStarted k p _).sequenced) fun _ => sequenced_changeTank k _ s)
    fun _ => sequenced_enterOtherStep k p s

theorem sequenced_changeArrival (k : Tank) (s : State) : Sequenced s (changeArrival k s) :=
  (sequenced_changeTank k.other { (s.tank k.other).undue with service := .inService, hours := 0 } s).trans ⟨rfl⟩

theorem sequenced_discRequest (p : Pos) (s : State) : Sequenced s (discRequest p s) := by
  unfold discRequest
  split <;> exact ⟨rfl⟩

theorem sequenced_changeoverBegin (s : State) : Sequenced s (changeoverBegin s) := by
  unfold changeoverBegin
  split
  · exact .refl s
  next k _ =>
    have moved := Sequenced.trans (s := s) (t := { s with seq := { s.seq with
      changeover := some { outgoing := k, phase := .toChange, dwell := 0 }, due := none } }) ⟨rfl⟩ (sequenced_discRequest (changePosition k) _)
    exact .ite (fun _ => .ite (fun _ => moved.trans (sequenced_changeArrival k _)) fun _ => moved) fun _ => .refl s

theorem sequenced_changeoverPending (k : Tank) (s : State) : Sequenced s (changeoverPending k s) :=
  .ite (fun _ => (sequenced_post1 _ _ _ s).trans (sequenced_forceUrgent _ _)) fun _ => sequenced_post1 _ _ _ s

theorem sequenced_takeExhaustion (k : Tank) (s : State) : Sequenced s (takeExhaustion k s) := by
  have due : Sequenced s { s with seq := { s.seq with due := some k } } := ⟨rfl⟩
  exact .ite (fun _ => .ite (fun _ => due.trans (sequenced_changeoverBegin _)) fun _ => due.trans (sequenced_changeoverPending k _))
    fun _ => .refl s

theorem sequenced_manualReported (s : State) : Sequenced s (manualReported s) := by
  have one (k : Tank) (u : State) : Sequenced u (if ((withdrawRegen k u).tank k).service = .exhausted then
      defer k .manual (withdrawRegen k u) else withdrawRegen k u) :=
    .ite (fun _ => (sequenced_withdrawRegen k u).trans (sequenced_defer _ _ _)) fun _ => sequenced_withdrawRegen k u
  exact (one .a s).trans (one .b _)

theorem sequenced_applyManual (s : State) : Sequenced s (applyManual s) := by
  refine .ite (fun _ => ?_) fun _ => .refl s
  exact Sequenced.trans (t := { s with disc := { s.disc with mode := .manual } }) ⟨rfl⟩ (sequenced_manualReported _)

theorem sequenced_askStepMove (k : Tank) (p : Step) (s : State) : Sequenced s (askStepMove k p s) := by
  have moved := sequenced_discRequest (stepPosition k p) s
  exact .ite (fun _ => (moved.trans (sequenced_stepArrival k p _)).trans (sequenced_applyManual _)) fun _ => moved

theorem sequenced_grantRegen (e : RegenEntry) (s : State) : Sequenced s (grantRegen e s) := by
  have granted : Sequenced s { s with line := { s.line with regen := some { e with granted := true } } } := ⟨rfl⟩
  exact .ite (fun _ => (granted.trans (sequenced_changeTank e.tank _ _)).trans (sequenced_askStepMove e.tank .backwash _))
    fun _ => granted.trans (sequenced_withTank _ _ _)

theorem sequenced_holdArrival (k : Tank) (d : Nat) (s : State) : Sequenced s (holdArrival k d s) := by
  have cleared : Sequenced s (clearRun k s) := ⟨rfl⟩
  unfold holdArrival
  refine Sequenced.trans (((((cleared.trans (sequenced_changeTank k _ _)).trans ⟨rfl⟩).trans (sequenced_post2 _ _ _ _ _)).trans
    (sequenced_withTank k _ _)).trans (sequenced_requestDoneIf _ _ _ _ _ _)) (sequenced_askProjection k _)

theorem sequenced_commission (p : Pos) (s : State) : Sequenced s (commission p s) :=
  .ite (fun _ => sequenced_changeTank _ _ s) fun _ => .refl s

/-! ### A decision in which no test waits -/

theorem Line.winner_ne_test {l : Line} (h : l.test = none) : l.winner ≠ .test := fun hw => Line.winner_test hw h

/-- A decision that grants no test leaves the valve, the pins and the leak monitor alone. -/
structure Untested (s t : State) : Prop where
  others : t = { s with
    cap := t.cap, disc := t.disc, seq := t.seq, brine := t.brine, line := { t.line with test := s.line.test }, filter := t.filter
    notices := t.notices }

theorem Untested.refl (s : State) : Untested s s := ⟨rfl⟩

theorem Untested.trans (h : Untested s t) (h' : Untested t u) : Untested s u := by
  have e := h'.others
  rw [h.others] at e
  exact ⟨e⟩

theorem Sequenced.untested (h : Sequenced s t) : Untested s t := ⟨by rw [h.others]⟩

theorem untested_grantFlush (e : FlushEntry) (s : State) : Untested s (grantFlush e s) := by
  obtain ⟨n, h⟩ := flushStart_others { s with line := { s.line with flush := some { e with granted := true } } }
  exact ⟨by rw [grantFlush, h]⟩

theorem untested_grantDecision (h : s.line.test = none) : Untested s (grantDecision s) := by
  refine ⟨Untested.others ?_⟩
  unfold grantDecision
  split
  · split
    · exact .refl s
    · exact (sequenced_grantRegen _ s).untested
    · exact untested_grantFlush _ s
    next hw => exact absurd hw (Line.winner_ne_test h)
  · exact .refl s

theorem untested_claimRegen (k : Tank) (c : Bool) (h : s.line.test = none) : Untested s (claimRegen k c s) := by
  have pend : Untested s { s.withTank k { s.tank k with claim := .pending } with
      line := { s.line with regen := some { granted := false, tank := k, continuation := c } } } := ⟨rfl⟩
  unfold claimRegen
  split
  · exact pend.trans (untested_grantDecision h)
  · split
    · exact .refl s
    · exact pend

theorem untested_keepClaim (k : Tank) (h : s.line.test = none) : Untested s (keepClaim k s) := by
  unfold keepClaim
  split
  · exact untested_claimRegen k false h
  · exact .refl s

theorem Untested.test (h : Untested s t) : t.line.test = s.line.test := by rw [h.others]
theorem Untested.valve (h : Untested s t) : t.valve = s.valve := by rw [h.others]
theorem Untested.pins (h : Untested s t) : t.pins = s.pins := by rw [h.others]

theorem untested_changeDecision (h : s.line.test = none) : Untested s (changeDecision s) := by
  have ha := untested_keepClaim .a h
  have hb := untested_keepClaim (s := keepClaim .a s) .b (ha.test.trans h)
  exact (ha.trans hb).trans (untested_grantDecision (hb.test.trans (ha.test.trans h)))

end

end Sys2Proof.Machine

/-! The Shutoff Controller's events: O36 to O40. -/

namespace Sys2Proof.Machine

set_option Elab.async false

/-! ### The arbiter's decision (R86) -/

section
variable {s t : State}

/-- A valve that is not newly OPEN brings no decision. -/
theorem openedDecision_none (h : t.valve.state ≠ .opened ∨ s.valve.state = .opened) : openedDecision s t = t :=
  if_neg fun ⟨h1, h2⟩ => h.elim (fun h => h h1) h2

theorem openedDecision_opened (h : t.valve.state = .opened) (ho : s.valve.state ≠ .opened) : openedDecision s t = changeDecision t :=
  if_pos ⟨h, ho⟩

theorem restState_opened (e : ValveEnd) : restState e = .opened ↔ e = .openEnd := by cases e <;> simp [restState]

theorem travelState_ne_opened (e : ValveEnd) : travelState e ≠ .opened := by cases e <;> simp [travelState]

/-! ### An end switch made (R143, R146) -/

theorem Pins.switch_withSwitch (p : Pins) (e : ValveEnd) (b : Bool) : (p.withSwitch e b).switch e = b := by cases e <;> rfl

theorem Pins.switch_withSwitch_other (p : Pins) (e : ValveEnd) (b : Bool) : (p.withSwitch e b).switch (otherEnd e) = p.switch (otherEnd e) := by
  cases e <;> rfl

theorem Pins.bothMade_iff (p : Pins) (e : ValveEnd) : p.bothMade = (p.switch e && p.switch (otherEnd e)) := by
  cases e
  · rfl
  · exact Bool.and_comm _ _

variable {e : ValveEnd}

/-- A switch that no drive reaches for only makes its level (R146). -/
theorem endSwitchMade_level (hm : s.pins.switch e = false) (hd : driveEnd s.valve.drive ≠ some e ∨ s.valve.exercise = .closeRun)
    (ho : s.pins.switch (otherEnd e) = false) : endSwitchMade e s = { s with pins := s.pins.withSwitch e true } := by
  have hboth : (s.pins.withSwitch e true).bothMade = false := by
    rw [Pins.bothMade_iff _ e, Pins.switch_withSwitch_other, ho, Bool.and_false]
  have hdrive : ¬ (driveEnd s.valve.drive = some e ∧ s.valve.exercise ≠ .closeRun) := fun ⟨h1, h2⟩ => hd.elim (fun h => h h1) h2
  simp only [endSwitchMade, hm, hdrive, hboth, Bool.false_eq_true, if_false]

/-- With the other switch made it is SHUTOFF_SWITCH (R146). -/
theorem endSwitchMade_both (hm : s.pins.switch e = false) (hd : driveEnd s.valve.drive ≠ some e ∨ s.valve.exercise = .closeRun)
    (ho : s.pins.switch (otherEnd e) = true) : endSwitchMade e s = bothSwitchesMade s := by
  have hboth : (s.pins.withSwitch e true).bothMade = true := by
    rw [Pins.bothMade_iff _ e, Pins.switch_withSwitch, Pins.switch_withSwitch_other, ho, Bool.and_self]
  have hnot : s.pins.bothMade = false := by rw [Pins.bothMade_iff _ e, hm, Bool.false_and]
  have same : s.pins.withSwitch e true = { s.pins with openEnd := true, closedEnd := true } := by
    cases e
    · have hc : s.pins.closedEnd = true := ho
      rw [Pins.withSwitch, ← hc]
    · have hc : s.pins.openEnd = true := ho
      rw [Pins.withSwitch, ← hc]
  have hdrive : ¬ (driveEnd s.valve.drive = some e ∧ s.valve.exercise ≠ .closeRun) := fun ⟨h1, h2⟩ => hd.elim (fun h => h h1) h2
  rw [same] at hboth
  simp only [endSwitchMade, hm, hdrive, same, hboth, Bool.false_eq_true, if_false, if_true, bothSwitchesMade, hnot]

/-- The switch of the driven end ends the travel (R143). -/
theorem endSwitchMade_arrives (hm : s.pins.switch e = false) (hd : driveEnd s.valve.drive = some e) (hx : s.valve.exercise ≠ .closeRun) :
    endSwitchMade e s = openedDecision s (valveArrive e { s with pins := (s.pins.withSwitch e true).withSwitch (otherEnd e) false }) := by
  simp only [endSwitchMade, hm, hd, hx, Bool.false_eq_true, if_false, ne_eq, not_false_eq_true, and_self, if_true]

end

/-- Settles O36: the switch of the driven end is an arrival, and an arrival at OPEN brings the decision. -/
theorem travelArrives : Obligations.TravelArrives := by
  intro e s h hm
  refine ⟨fun hd => ⟨fun ho => event_leaves h (endSwitchMade_level hm hd ho), fun ho => ?both⟩, fun hd hx hst => ?arrival⟩
  case both => exact (event_leaves h (endSwitchMade_both hm hd ho)).trans (event_running h bothSwitchesMade).symm
  case arrival =>
    let v : State := { s with pins := (s.pins.withSwitch e true).withSwitch (otherEnd e) false }
    have ho : v.valve.state ≠ .opened := fun he => travelState_ne_opened e (hst.symm.trans he)
    obtain ⟨n, hn⟩ := valveArrive_quiet (s := v) e (.inl ho)
    have decided : openedDecision s (valveArrive e v) = if e = .openEnd then changeDecision (valveArrive e v) else valveArrive e v := by
      have hrest : (valveArrive e v).valve.state = restState e := by rw [valveArrive_valve]; rfl
      split
      next he => exact openedDecision_opened (hrest.trans ((restState_opened e).2 he)) ho
      next he => exact openedDecision_none (.inl fun hc => he ((restState_opened e).1 (hrest.symm.trans hc)))
    refine ⟨valveArrive e v, event_leaves h ((endSwitchMade_arrives hm hd hx).trans decided), ?_⟩
    have target : v.targetEnd = s.targetEnd := rfl
    rw [hn]
    refine ⟨rfl, rfl, rfl, rfl, rfl, rfl, rfl, ?_, rfl, rfl⟩
    rw [← target]
    rfl

/-! ### Failures and pauses (R144) -/

section
variable {s : State}

theorem travelLimitReached_idle (h : s.valve.drive = .stopped) : travelLimitReached s = s := if_pos (.inl h)

theorem valveStalled_idle (h : s.valve.drive = .stopped) : valveStalled s = s := if_pos (.inl h)

theorem driveEnd_driveTo (e : ValveEnd) : driveEnd (driveTo e) = some e := by cases e <;> rfl

theorem driveTo_ne_stopped (e : ValveEnd) : driveTo e ≠ .stopped := by cases e <;> simp [driveTo]

variable {e : ValveEnd} (hx : s.valve.exercise ≠ .closeRun) (hd : s.valve.drive = driveTo e)
include hx hd

theorem travelLimitReached_driven : travelLimitReached s = attemptFails false { s with valve := { s.valve with
    travel := s.settings.inst.travelLimit } } :=
  if_neg fun h => h.elim (fun h => driveTo_ne_stopped e (hd.symm.trans h)) hx

theorem valveStalled_driven : valveStalled s = attemptFails true { s with valve := { s.valve with overcurrent := 500 } } :=
  if_neg fun h => h.elim (fun h => driveTo_ne_stopped e (hd.symm.trans h)) hx

/-- A first attempt that fails waits the retry pause (R144). -/
theorem attemptFails_first (stall : Bool) (h2 : s.valve.second = false) :
    attemptFails stall s = { s with valve := { s.valve with second := true, drive := .stopped, pause := .retry } } := by
  simp only [attemptFails, hd, driveEnd_driveTo, hx, h2, Bool.false_eq_true, if_false]

/-- A second attempt that fails leaves the valve STUCK (R144). -/
theorem attemptFails_second (stall : Bool) (h2 : s.valve.second = true) (ht : s.leak.test.phase.closes = false) :
    attemptFails stall s = valveStuckCore (.stuck (failureDetail e stall)) (failureDetail e stall) s := by
  have untested : (valveStuckCore (.stuck (failureDetail e stall)) (failureDetail e stall) s).leak = s.leak := by
    rw [(valves_valveStuckCore _ _ s).others]
  simp only [attemptFails, hd, driveEnd_driveTo, hx, h2, if_false, if_true, valveStuck, abandonClosing, untested, ht, Bool.false_eq_true]

end

/-- What a second failure leaves, whatever times the record holds (R144). -/
theorem attemptFails_stuck {s : State} {e : ValveEnd} (v : Valve) (stall : Bool) (hx : v.exercise ≠ .closeRun) (hd : v.drive = driveTo e)
    (h2 : v.second = true) (hst : v.state = travelState e) (ht : s.leak.test.phase.closes = false) :
    ∃ n, attemptFails stall { s with valve := v } = { s with
      valve := { v.sticking (.stuck (failureDetail e stall)) with state := .stuck, tag := none }
      faults := s.faults.report .shutoffStuck .none (failureDetail e stall : Nat) s.now, notices := n } := by
  rw [attemptFails_second (s := { s with valve := v }) hx hd stall h2 ht]
  exact valveStuckCore_quiet (s := { s with valve := v }) _ _ (.inl fun ho => travelState_ne_opened e (hst.symm.trans ho))

/-- Settles O37: a failed attempt by the time or by the stall, the first and the second. -/
theorem attemptsFail : Obligations.AttemptsFail := by
  intro e s h hx
  refine ⟨fun hd => ⟨event_leaves h (travelLimitReached_idle hd), event_leaves h (valveStalled_idle hd)⟩,
    fun hd h2 => ⟨event_leaves h ?_, event_leaves h ?_⟩, fun hd h2 hst ht => ?_⟩
  · rw [travelLimitReached_driven hx hd]
    exact attemptFails_first (s := { s with valve := { s.valve with travel := s.settings.inst.travelLimit } }) hx hd false h2
  · rw [valveStalled_driven hx hd]
    exact attemptFails_first (s := { s with valve := { s.valve with overcurrent := 500 } }) hx hd true h2
  · intro base
    have timed : failureDetail e false = base := by cases e <;> rfl
    have stalled : failureDetail e true = base + 1 := by cases e <;> rfl
    obtain ⟨n, hn⟩ := attemptFails_stuck { s.valve with travel := s.settings.inst.travelLimit } false hx hd h2 hst ht
    obtain ⟨m, hm⟩ := attemptFails_stuck { s.valve with overcurrent := 500 } true hx hd h2 hst ht
    rw [timed] at hn
    rw [stalled] at hm
    exact ⟨⟨_, event_leaves h ((travelLimitReached_driven hx hd).trans hn), rfl, rfl, rfl, rfl, rfl, rfl, rfl, rfl⟩,
      ⟨_, event_leaves h ((valveStalled_driven hx hd).trans hm), rfl, rfl, rfl, rfl, rfl, rfl, rfl, rfl⟩⟩

/-! ### Pauses (R143, R144, R145, R150) -/

/-- The state in which a pause has ended (R143). -/
def State.unpaused (s : State) : State := { s with valve := { s.valve with pause := .none } }

section
variable {s : State}

theorem pauseEnd_idle (h : s.valve.pause = .none) : pauseEnd s = s := if_pos h

theorem pauseEnd_ends (h : s.valve.pause ≠ .none) : pauseEnd s = openedDecision s (driveOrArrive s.targetEnd s.unpaused) := if_neg h

/-- A pause that ends with the target's switch open drives the motor (R143). -/
theorem pauseEnd_drives (h : s.valve.pause ≠ .none) (hs : s.pins.switch s.targetEnd = false) (ho : s.valve.state ≠ .opened) :
    ∃ n, pauseEnd s = { s with
      valve := { s.valve with
        state := travelState s.targetEnd, drive := driveTo s.targetEnd, pause := .none, travel := 0, overcurrent := 0 }
      notices := n } := by
  obtain ⟨n, hn⟩ := valveChange_quiet (s := s.unpaused) (travelState s.targetEnd) (.inl ho)
  have drives : driveOrArrive s.targetEnd s.unpaused = _ := (driveOrArrive_drives (s := s.unpaused) hs).trans (congrArg (drive s.targetEnd) hn)
  refine ⟨n, ?_⟩
  rw [pauseEnd_ends h, drives]
  exact openedDecision_none (.inl (travelState_ne_opened _))

/-- A pause that ends with the target's switch made ends the travel (R143). -/
theorem pauseEnd_arrives (h : s.valve.pause ≠ .none) (hs : s.pins.switch s.targetEnd = true) (hl : s.line = {}) :
    (pauseEnd s).valve = s.unpaused.arrivedValve s.targetEnd ∧ (pauseEnd s).pins = s.pins := by
  have arrives : driveOrArrive s.targetEnd s.unpaused = _ := driveOrArrive_arrives (s := s.unpaused) hs
  have hv := valveArrive_valve s.targetEnd s.unpaused
  have kept := (valves_valveArrive s.targetEnd s.unpaused).others
  have hp : (valveArrive s.targetEnd s.unpaused).pins = s.pins := by rw [kept]; rfl
  have ht : (valveArrive s.targetEnd s.unpaused).line.test = none := by
    rw [kept]
    show s.line.test = none
    rw [hl]
  rw [pauseEnd_ends h, arrives]
  generalize valveArrive s.targetEnd s.unpaused = u at hv hp ht ⊢
  unfold openedDecision
  split
  · have hu := untested_changeDecision ht
    exact ⟨hu.valve.trans hv, hu.pins.trans hp⟩
  · exact ⟨hv, hp⟩

end

/-- Settles O38: a pause that ends drives the motor, or arrives at once. -/
theorem pausesEnd : Obligations.PausesEnd := by
  intro s h e
  refine ⟨fun hp => event_leaves h (pauseEnd_idle hp), fun hp hs ho => ?drives, fun hp hs hst hl => ?arrives⟩
  case drives =>
    obtain ⟨n, hn⟩ := pauseEnd_drives hp hs ho
    exact ⟨_, event_leaves h hn, rfl, rfl⟩
  case arrives =>
    obtain ⟨hv, hpins⟩ := pauseEnd_arrives hp hs hl
    have hself : s.unpaused.targetEnd = s.targetEnd := rfl
    refine ⟨_, event_running h pauseEnd, ?_⟩
    rw [hv, State.arrivedValve, hself, if_pos rfl]
    exact ⟨rfl, rfl, rfl, rfl, rfl, rfl, hpins⟩

/-! ### Both switches made, and a switch released (R146) -/

section
variable {s : State}

/-- SHUTOFF_SWITCH while no test has the valve (R146). -/
theorem bothSwitchesMade_stuck (hb : s.pins.bothMade = false) (ht : s.leak.test.phase.closes = false) :
    bothSwitchesMade s = valveStuckCore .switch (valveCode s.valve.state)
      { s with pins := { s.pins with openEnd := true, closedEnd := true } } := by
  have untested : (valveStuckCore .switch (valveCode s.valve.state)
      { s with pins := { s.pins with openEnd := true, closedEnd := true } }).leak = s.leak := by
    rw [(valves_valveStuckCore _ _ _).others]
  simp only [bothSwitchesMade, hb, Bool.false_eq_true, if_false, switchFault, valveStuck, abandonClosing, untested, ht]

variable {e : ValveEnd} (hx : s.valve.exercise ≠ .closeRun)
include hx

/-- A released switch of no resting valve, or with the other switch made, only makes its level (R146). -/
theorem endSwitchReleased_level (h : s.valve.state ≠ restState e ∨ s.pins.switch (otherEnd e) = true) :
    endSwitchReleased e s = { s with pins := s.pins.withSwitch e false } := by
  unfold endSwitchReleased
  rw [if_neg fun hc => hx hc.2]
  refine if_neg fun ⟨h1, h2⟩ => h.elim (fun h => h h1) fun h3 => ?_
  rw [Pins.switch_withSwitch_other, h3] at h2
  exact absurd h2 (by decide)

/-- The release of a resting valve's own switch starts a travel (R146). -/
theorem endSwitchReleased_travels (hs : s.valve.state = restState e) (ho : s.pins.switch (otherEnd e) = false) :
    endSwitchReleased e s = beginTravel { s with pins := s.pins.withSwitch e false } := by
  unfold endSwitchReleased
  rw [if_neg fun hc => hx hc.2]
  exact if_pos ⟨hs, (Pins.switch_withSwitch_other s.pins e false).trans ho⟩

end

/-- With one switch open and the other released, both are open. -/
theorem Pins.withSwitch_open {p : Pins} {e : ValveEnd} (h : p.switch (otherEnd e) = false) :
    p.withSwitch e false = { p with openEnd := false, closedEnd := false } := by
  cases e
  · have hc : p.closedEnd = false := h
    rw [Pins.withSwitch, ← hc]
  · have hc : p.openEnd = false := h
    rw [Pins.withSwitch, ← hc]

/-- Settles O39: both switches made leave the valve STUCK; a release is a level, or starts a travel. -/
theorem endSwitchesDisagree : Obligations.EndSwitchesDisagree := by
  intro s h
  refine ⟨fun ho hc => event_leaves h (if_pos ?both), fun hb ht => ⟨_, event_leaves h (bothSwitchesMade_stuck hb ht), ?stuck⟩,
    fun e hx => ⟨fun hl => event_leaves h (endSwitchReleased_level hx hl), fun hs ho =>
      ⟨_, event_leaves h (endSwitchReleased_travels hx hs ho), ?travels⟩⟩⟩
  case both => simp [Pins.bothMade, ho, hc]
  case stuck =>
    have kept := (valves_valveStuckCore .switch (valveCode s.valve.state)
      { s with pins := { s.pins with openEnd := true, closedEnd := true } }).others
    have hv := valveStuckCore_valve .switch (valveCode s.valve.state) { s with pins := { s.pins with openEnd := true, closedEnd := true } }
    have hf := valveStuckCore_faults .switch (valveCode s.valve.state) { s with pins := { s.pins with openEnd := true, closedEnd := true } }
    generalize valveStuckCore .switch (valveCode s.valve.state) _ = u at kept hv hf ⊢
    refine ⟨by rw [hv], by rw [hv]; rfl, by rw [hv]; rfl, by rw [hv]; rfl, by rw [hv], by rw [kept], hf, ?_⟩
    rw [kept]
  case travels =>
    have both := Pins.withSwitch_open ho
    let v : State := { s with pins := s.pins.withSwitch e false }
    have hopen : v.pins.switch v.targetEnd = false := by
      show (s.pins.withSwitch e false).switch v.targetEnd = false
      rw [both]
      cases v.targetEnd <;> rfl
    refine ⟨beginTravel_valve (s := v) hopen, ?_⟩
    rw [(valves_beginTravel v).others]
    exact both

/-! ### The exercise (R149, R150) -/

section
variable {s : State}

theorem exerciseDue_iff (s : State) : exerciseDue s = true ↔
    s.settings.user.leak.exerciseDays ≠ 0 ∧ s.settings.user.leak.exerciseDays ≤ s.valve.exerciseDays := by simp [exerciseDue]

theorem exerciseCue_arms (hx : s.valve.exercise = .none) (h0 : s.settings.user.leak.exerciseDays ≠ 0)
    (hd : s.settings.user.leak.exerciseDays ≤ s.valve.exerciseDays) :
    exerciseCue s = { s with valve := { s.valve with exercise := .armed, exerciseTime := 0 } } :=
  if_pos ⟨(exerciseDue_iff s).2 ⟨h0, hd⟩, hx⟩

theorem exerciseCue_idle (h : s.valve.exercise ≠ .none ∨ s.settings.user.leak.exerciseDays = 0
    ∨ s.valve.exerciseDays < s.settings.user.leak.exerciseDays) : exerciseCue s = s :=
  if_neg fun ⟨hdue, hx⟩ => by
    obtain ⟨h0, hd⟩ := (exerciseDue_iff s).1 hdue
    exact h.elim (fun h => h hx) fun h => h.elim h0 fun h => absurd hd (Nat.not_le.2 h)

theorem exerciseStart_idle (h : s.valve.exercise ≠ .armed) : exerciseStart s = s := if_neg fun hc => h hc.1

theorem armedExpiry_idle (h : s.valve.exercise ≠ .armed) : armedExpiry s = s := if_neg fun hc => h hc.1

theorem closeRunEnd_idle (ms : Nat) (h : s.valve.exercise ≠ .closeRun) : closeRunEnd ms s = s := if_neg h

theorem runReleased_idle (h : s.valve.exercise ≠ .closeRun) : runReleased s = s := if_neg h

theorem exerciseReady_iff (s : State) : exerciseReady s = true ↔ (s.settings.user.leak.exerciseDays ≠ 0
    ∧ s.settings.user.leak.exerciseDays ≤ s.valve.exerciseDays) ∧ s.valve.state = .opened ∧ s.targetClosed = false
    ∧ s.meter.now.vIn = 0 ∧ s.supply.state = .mains := by
  rw [← exerciseDue_iff]
  simp [exerciseReady, and_assoc]

/-- The exercise starts from OPEN, where no flush runs (R149, R150). -/
theorem exerciseStart_begins (hx : s.valve.exercise = .armed) (hr : exerciseReady s = true) (hf : s.filter.state ≠ .flushing) :
    ∃ n, exerciseStart s = { s with
      valve := { s.valve with
        state := .closing, exercise := .closeRun, exerciseTime := 0, released := false, drive := .toClosed, pause := .none
        second := false, travel := 0, overcurrent := 0 }
      notices := n } := by
  obtain ⟨n, hn⟩ := valveChange_quiet (s := { s with valve := { s.valve with
    exercise := .closeRun, exerciseTime := 0, released := false, drive := .toClosed, pause := .none, second := false, travel := 0
    overcurrent := 0 } }) .closing (.inr hf)
  exact ⟨n, (if_pos ⟨hx, hr⟩).trans hn⟩

variable (ms : Nat) (hx : s.valve.exercise = .closeRun)
include hx

theorem closeRunEnd_passes (hr : s.valve.released = true) : closeRunEnd ms s = faultGone .shutoffSeized .none { s with valve := { s.valve with
    drive := .stopped, pause := .reversal, second := false, exercise := .openRun, exerciseTime := ms, exerciseDays := 0 } } := by
  simp only [closeRunEnd, hx, hr, if_true]
  rfl

theorem closeRunEnd_seized (hr : s.valve.released = false) : closeRunEnd ms s = faultReport .shutoffSeized .none ms { s with
    valve := { s.valve with drive := .stopped, pause := .reversal, second := false, exercise := .openRun, exerciseTime := ms } } := by
  simp only [closeRunEnd, hx, hr, if_true, Bool.false_eq_true, if_false]

end

/-- Settles O40: each event of the exercise, by its phase and its conditions. -/
theorem exerciseRuns : Obligations.ExerciseRuns := by
  intro ms s h v
  refine ⟨fun hx h0 hd => event_leaves h (exerciseCue_arms hx h0 hd), fun hi => event_leaves h (exerciseCue_idle hi),
    fun hx => ⟨event_leaves h (exerciseStart_idle hx), event_leaves h (armedExpiry_idle hx)⟩, fun hx h0 hd ho hr hv hm hf => ?starts,
    fun hx ht => event_leaves h (if_pos ⟨hx, ht⟩),
    fun hx => ⟨event_leaves h (closeRunEnd_idle ms hx), event_leaves h (runReleased_idle hx)⟩,
    fun hx => ⟨event_leaves h (if_pos hx), fun hr => event_leaves h (closeRunEnd_passes ms hx hr),
      fun hr => event_leaves h (closeRunEnd_seized ms hx hr)⟩⟩
  case starts =>
    have target : s.targetClosed = false := by
      rw [State.targetClosed, hr]
      rfl
    obtain ⟨n, hn⟩ := exerciseStart_begins hx ((exerciseReady_iff s).2 ⟨⟨h0, hd⟩, ho, target, hv, hm⟩) hf
    exact ⟨_, event_leaves h hn, rfl, rfl⟩

end Sys2Proof.Machine

/-! The close reasons, the trip latch's reset and the supply: O35, O41, O42 and O43. -/

namespace Sys2Proof.Machine

set_option Elab.async false

/-! ### The close reasons (R142) -/

section
variable {s t u : State}

theorem addReason_reasons (n : Reason) (s : State) : (addReason n s).valve.reasons = s.valve.reasons.put n true := (valves_addReason n s).reasons

theorem dropReason_reasons (n : Reason) (s : State) : (dropReason n s).valve.reasons = s.valve.reasons.put n false :=
  (valves_dropReason n s).reasons

theorem calm_openedDecision (s t : State) : (openedDecision s t).calm = t.calm := by
  unfold openedDecision
  split
  · exact calm_changeDecision t
  · rfl

theorem calm_removeReason (n : Reason) (s : State) : (removeReason n s).calm = (dropReason n s).calm := calm_openedDecision s _

theorem Reasons.any_put (r : Reasons) (n : Reason) : (r.put n true).any = true := by cases n <;> simp [Reasons.put, Reasons.any]

/-- A first reason makes an OPEN valve begin to close (R142, R143). -/
theorem addReason_closes (n : Reason) (hr : s.valve.reasons.any = false) (ho : s.valve.state = .opened) (hc : s.pins.closedEnd = false) :
    (addReason n s).valve = { s.valve with
      reasons := s.valve.reasons.put n true, state := .closing, drive := .toClosed, pause := .none, second := false, retried := false
      travel := 0, overcurrent := 0 } := by
  have target : (s.withReason n true).targetEnd = .closedEnd := if_pos (Reasons.any_put _ _)
  have begun : addReason n s = beginTravel (s.withReason n true) := by
    have hno : s.targetClosed = false := hr
    have ho' : (s.withReason n true).valve.state = .opened := ho
    unfold addReason
    rw [hno, if_neg Bool.false_ne_true]
    show targetBecameClosed (s.withReason n true) = _
    unfold targetBecameClosed
    rw [ho']
  have hopen : (s.withReason n true).pins.switch (s.withReason n true).targetEnd = false := by
    rw [target]
    exact hc
  rw [begun, beginTravel_valve hopen, target]
  rfl

/-- A valve at CLOSED stays there (R142). -/
theorem addReason_closed (n : Reason) (hc : s.valve.state = .closed) : addReason n s = s.withReason n true := by
  have hc' : (s.withReason n true).valve.state = .closed := hc
  unfold addReason
  show (if s.targetClosed = true then s.withReason n true else targetBecameClosed (s.withReason n true)) = _
  split
  · rfl
  · unfold targetBecameClosed
    rw [hc']

/-! ### SHUTOFF_CMD (R147, R148) -/

theorem recordTag_others (tag : Byte) (s : State) :
    ∃ n, recordTag tag s = { s with valve := { s.valve with tag := some tag }, notices := n } := by
  unfold recordTag
  rw [requestDoneIf_others]
  exact ⟨_, rfl⟩

end

section
variable {s : State} {tag : Byte}

/-- The state that CLOSE leaves (R148). -/
def State.closeTaken (tag : Byte) (s : State) : State := answerTag (addReason .host (recordTag tag s))

/-- The state that OPEN leaves (R148). -/
def State.openTaken (tag : Byte) (s : State) : State := answerTag (removeReason .host (recordTag tag s))

theorem takeRequest_close (tag : Byte) (s : State) : takeRequest tag s (.shutoffCmd 0) = (follow (s.closeTaken tag),
    { status := .ok, body := unsignedField 1 (reasonsCode (follow (s.closeTaken tag)).valve.reasons) }) := rfl

theorem takeRequest_open (tag : Byte) (s : State) : takeRequest tag s (.shutoffCmd 1) = (follow (s.openTaken tag),
    { status := .ok, body := unsignedField 1 (reasonsCode (follow (s.openTaken tag)).valve.reasons) }) := rfl

theorem takeRequest_retry (tag : Byte) (s : State) : takeRequest tag s (.shutoffCmd 2) =
    if s.valve.state = .stuck then take .accepted (retryValve (recordTag tag s)) else notNow .notStuck s := rfl

variable {n : NoticeQueue}

/-- The state with the command's tag recorded. -/
def State.tagged (tag : Byte) (n : NoticeQueue) (s : State) : State := { s with valve := { s.valve with tag := some tag }, notices := n }

theorem recordTag_tagged (tag : Byte) (s : State) : ∃ n, recordTag tag s = s.tagged tag n := recordTag_others tag s

theorem closeTaken_reasons : (s.closeTaken tag).valve.reasons = { s.valve.reasons with host := true } := by
  obtain ⟨n, hn⟩ := recordTag_tagged tag s
  rw [State.closeTaken, hn, (valves_answerTag _).reasons, addReason_reasons]
  rfl

/-- With the first reason an OPEN valve begins to close, and the tag is held (R143, R148). -/
theorem closeTaken_opened (hr : s.valve.reasons.any = false) (ho : s.valve.state = .opened) (hc : s.pins.closedEnd = false) :
    (s.closeTaken tag).valve.state = .closing ∧ (s.closeTaken tag).valve.drive = .toClosed ∧ (s.closeTaken tag).valve.tag = some tag
    ∧ (s.closeTaken tag).pins = s.pins := by
  obtain ⟨n, hn⟩ := recordTag_tagged tag s
  have hpins : (s.closeTaken tag).pins = s.pins := by
    rw [State.closeTaken, hn, (valves_answerTag _).others]
    show (addReason .host (s.tagged tag n)).pins = _
    rw [(valves_addReason .host (s.tagged tag n)).others]
    rfl
  have hv := addReason_closes (s := s.tagged tag n) .host hr ho hc
  have travelling : (addReason .host (s.tagged tag n)).valve.state = travelState .closedEnd := by rw [hv]; rfl
  refine ⟨?_, ?_, ?_, hpins⟩
  all_goals rw [State.closeTaken, hn, answerTag_valve, Valve.answered_travelling _ travelling, hv]
  rfl

/-- At CLOSED the tag is answered at once (R148). -/
theorem closeTaken_closed (hc : s.valve.state = .closed) :
    (s.closeTaken tag).valve.state = .closed ∧ (s.closeTaken tag).valve.tag = none := by
  obtain ⟨n, hn⟩ := recordTag_tagged tag s
  have hr : ((s.tagged tag n).withReason .host true).valve.state = restState .closedEnd := hc
  have target : ((s.tagged tag n).withReason .host true).targetEnd = .closedEnd := if_pos (Reasons.any_put _ _)
  rw [State.closeTaken, hn, addReason_closed (s := s.tagged tag n) .host hc, answerTag_valve, Valve.answered_rest hr, if_pos target]
  exact ⟨hc, rfl⟩

theorem openTaken_host : (s.openTaken tag).valve.reasons.host = false := by
  obtain ⟨n, hn⟩ := recordTag_tagged tag s
  rw [State.openTaken, hn, (valves_answerTag _).reasons]
  have host := congrArg Calm.host (calm_removeReason .host (s.tagged tag n))
  exact host.trans (by show (dropReason .host (s.tagged tag n)).valve.reasons.host = _; rw [dropReason_reasons]; rfl)

/-- With no reason left a CLOSED valve begins to open (R142, R143). -/
theorem dropReason_opens (n : Reason) (hr : s.valve.reasons.any = true) (hn : (s.valve.reasons.put n false).any = false)
    (hc : s.valve.state = .closed) : dropReason n s = beginTravel (s.withReason n false) := by
  have h1 : s.targetClosed = true := hr
  have h2 : (s.withReason n false).targetClosed = false := hn
  unfold dropReason
  have both : (s.targetClosed && !(s.withReason n false).targetClosed) = true := by
    rw [h1, h2]
    rfl
  show (if (s.targetClosed && !(s.withReason n false).targetClosed) = true then _ else _) = _
  rw [if_pos both, hc]
  rfl

/-- With a reason left nothing moves (R142). -/
theorem dropReason_stays (n : Reason) (hn : (s.valve.reasons.put n false).any = true) : dropReason n s = s.withReason n false := by
  have h2 : (s.withReason n false).targetClosed = true := hn
  unfold dropReason
  show (if (s.targetClosed && !(s.withReason n false).targetClosed) = true then _ else _) = _
  rw [h2, Bool.not_true, Bool.and_false, if_neg Bool.false_ne_true]
  rfl

theorem openTaken_opens (hr : s.valve.reasons = { host := true }) (hc : s.valve.state = .closed) (ho : s.pins.openEnd = false) :
    (s.openTaken tag).valve.state = .opening ∧ (s.openTaken tag).valve.drive = .toOpen ∧ (s.openTaken tag).valve.tag = some tag
    ∧ (s.openTaken tag).pins = s.pins := by
  obtain ⟨n, hn⟩ := recordTag_tagged tag s
  let v := (s.tagged tag n).withReason .host false
  have any : (s.tagged tag n).valve.reasons.any = true := by show s.valve.reasons.any = true; rw [hr]; rfl
  have left : ((s.tagged tag n).valve.reasons.put .host false).any = false := by show (s.valve.reasons.put .host false).any = false; rw [hr]; rfl
  have target : v.targetEnd = .openEnd := if_neg (by show ¬ v.valve.reasons.any = true; rw [show v.valve.reasons.any = false from left]; exact Bool.false_ne_true)
  have hv := beginTravel_valve (s := v) (by rw [target]; exact ho)
  rw [target] at hv
  have dropped : dropReason .host (s.tagged tag n) = beginTravel v := dropReason_opens .host any left hc
  have travelling : (beginTravel v).valve.state = travelState .openEnd := by rw [hv]
  have removed : removeReason .host (s.tagged tag n) = beginTravel v := by
    rw [removeReason, dropped]
    exact openedDecision_none (.inl fun e => travelState_ne_opened _ (travelling.symm.trans e))
  refine ⟨?_, ?_, ?_, ?_⟩
  · rw [State.openTaken, hn, removed, answerTag_valve, hv]; rfl
  · rw [State.openTaken, hn, removed, answerTag_valve, hv]; rfl
  · rw [State.openTaken, hn, removed, answerTag_valve, Valve.answered_travelling _ travelling, hv]; rfl
  · rw [State.openTaken, hn, removed, (valves_answerTag _).others]
    show (beginTravel v).pins = _
    rw [(valves_beginTravel v).others]
    rfl

theorem openTaken_stays (hr : s.valve.reasons = { host := true, trip := true }) (hc : s.valve.state = .closed) :
    (s.openTaken tag).valve.state = .closed := by
  obtain ⟨n, hn⟩ := recordTag_tagged tag s
  have left : ((s.tagged tag n).valve.reasons.put .host false).any = true := by show (s.valve.reasons.put .host false).any = true; rw [hr]; rfl
  have hc' : ((s.tagged tag n).withReason .host false).valve.state = .closed := hc
  have removed : removeReason .host (s.tagged tag n) = (s.tagged tag n).withReason .host false := by
    rw [removeReason, dropReason_stays .host left]
    exact openedDecision_none (.inl (by rw [hc']; decide))
  rw [State.openTaken, hn, removed, answerTag_valve]
  exact hc

/-- RETRY of a STUCK valve whose target's switch is open makes one attempt (R147). -/
theorem retryValve_drives (hs : s.valve.state = .stuck) (ho : s.pins.switch s.targetEnd = false) : ∃ n, retryValve s = { s with
    valve := { s.valve with
      state := travelState s.targetEnd, drive := driveTo s.targetEnd, second := true, retried := true, stuck := none, pause := .none
      travel := 0, overcurrent := 0 }
    notices := n } := by
  have both : s.pins.bothMade = false := by rw [Pins.bothMade_iff _ s.targetEnd, ho, Bool.false_and]
  obtain ⟨n, hn⟩ := valveChange_quiet (s := { s with valve := { s.valve with second := true, retried := true, stuck := none } })
    (travelState s.targetEnd) (.inl (by show s.valve.state ≠ _; rw [hs]; decide))
  refine ⟨n, ?_⟩
  unfold retryValve
  simp only [both, ho, Bool.false_eq_true, if_false]
  rw [hn]
  rfl

end

/-- Settles O41: what the reason put in the set or taken from it makes of the valve, and of the tag. -/
theorem shutoffRequests : Obligations.ShutoffRequests := by
  intro svc tag s h
  let w := frameDropped (s.withSvc svc)
  refine ⟨⟨w.closeTaken tag, exec_answers rfl h trivial (takeRequest_close tag w), closeTaken_reasons, fun hr ho hc => ?_, fun hc =>
      closeTaken_closed (s := w) hc⟩,
    ⟨w.openTaken tag, exec_answers rfl h trivial (takeRequest_open tag w), openTaken_host, fun hr hc ho => openTaken_opens (s := w) hr hc ho,
      fun hr hc => openTaken_stays (s := w) hr hc⟩,
    fun hs => exec_answers rfl h trivial ((takeRequest_retry tag w).trans (if_neg hs)), fun hs ho => ?_⟩
  · have none_left : w.valve.reasons.any = false := by show s.valve.reasons.any = false; rw [hr]; rfl
    exact closeTaken_opened (s := w) none_left ho hc
  · obtain ⟨n, hn⟩ := recordTag_tagged tag w
    obtain ⟨m, hm⟩ := retryValve_drives (s := w.tagged tag n) hs ho
    refine ⟨_, exec_answers rfl h trivial ((takeRequest_retry tag w).trans (if_pos hs)), ?_⟩
    rw [hn, hm]
    exact ⟨rfl, rfl⟩

/-! ### LEAK_RESET and PRESSURE_TEST (R130, R133) -/

section
variable {s t : State}

/-- What an accepted LEAK_RESET changes (R130). -/
theorem resetLatch_reset (keep : Bool) (l : Trip) (s : State) : (resetLatch keep l s).leak.latch = none
    ∧ (resetLatch keep l s).leak.detector = {} ∧ (resetLatch keep l s).valve.reasons.trip = false
    ∧ (resetLatch keep l s).valve.reasons.host = (s.valve.reasons.host || keep) ∧ (resetLatch keep l s).settings = s.settings
    ∧ (resetLatch keep l s).meter = s.meter ∧ (resetLatch keep l s).supply = s.supply ∧ (resetLatch keep l s).pods = s.pods := by
  obtain ⟨v, hv, hkept, hhost⟩ : ∃ v, v = (if keep then addReason .host s else s)
      ∧ v = { s with valve := v.valve, filter := v.filter, line := { s.line with flush := v.line.flush }, faults := v.faults
                     notices := v.notices }
      ∧ v.valve.reasons.host = (s.valve.reasons.host || keep) := by
    refine ⟨_, rfl, ?_⟩
    cases keep with
    | false => exact ⟨rfl, (Bool.or_false _).symm⟩
    | true =>
      refine ⟨(valves_addReason .host s).others, ?_⟩
      rw [if_pos rfl, addReason_reasons, Bool.or_true]
      rfl
  let cleared : State := { post .leakCleared .none (causeCode l.first * 256 + causeSlot l.first : Nat) (1 + l.further.length : Nat)
    (sinceTrip l s) v with leak := { v.leak with latch := none } }
  have reset : resetLatch keep l s = { removeReason .trip cleared with
      leak := { (removeReason .trip cleared).leak with detector := {} } } := by
    subst hv
    rfl
  have calm := calm_removeReason .trip cleared
  have dropped := (valves_dropReason .trip cleared).others
  have hr := dropReason_reasons .trip cleared
  generalize dropReason .trip cleared = d at calm dropped hr
  rw [reset]
  generalize removeReason .trip cleared = u at calm ⊢
  have e {α : Type} (f : Calm → α) : f u.calm = f d.calm := congrArg f calm
  refine ⟨(e Calm.latch).trans ?_, rfl, (e Calm.trip).trans ?_, (e Calm.host).trans ?_, (e Calm.settings).trans ?_, (e Calm.meter).trans ?_,
    (e Calm.supply).trans ?_, (e Calm.pods).trans ?_⟩
  · show d.leak.latch = none
    rw [dropped]
    rfl
  · show d.valve.reasons.trip = false
    rw [hr]
    rfl
  · show d.valve.reasons.host = _
    rw [hr]
    exact hhost
  · show d.settings = _
    rw [dropped]
    show v.settings = _
    rw [hkept]
  · show d.meter = _
    rw [dropped]
    show v.meter = _
    rw [hkept]
  · show d.supply = _
    rw [dropped]
    show v.supply = _
    rw [hkept]
  · show d.pods = _
    rw [dropped]
    show v.pods = _
    rw [hkept]

theorem grantDecision_owned (h : s.line.owner ≠ .none) : grantDecision s = s := by
  refine if_neg fun hg => ?_
  simp only [grantAllowed, Bool.and_eq_true, beq_iff_eq] at hg
  exact h hg.1.1

/-- A test claimed on a used line waits (R84). -/
theorem testClaim_waits {tag : Option Byte} (ho : s.line.owner ≠ .none) (ht : s.line.test = none) : testClaim tag s = { s with
    leak := { s.leak with test := { phase := .claiming, tag := tag } }, line := { s.line with test := some { granted := false } } } := by
  have owned : ({ s.line with test := some { granted := false } } : Line).owner ≠ .none := by
    have same : ({ s.line with test := some { granted := false } } : Line).owner = s.line.owner := by
      simp [Line.owner, Line.regenGranted, Line.flushGranted, Line.testGranted, ht]
    rw [same]
    exact ho
  unfold testClaim claimTest
  simp only [ht]
  exact grantDecision_owned owned

end

/-- Settles O35: the refusals by their tests; a reset by what it changes, and a test by its claim. -/
theorem leakRequests : Obligations.LeakRequests := by
  intro svc tag o s h w
  have reset {u : State} {a : Answered} (ht : takeLeakReset o w = (u, a)) :
      exec (.leakReset tag o svc) s = answers (.leakReset o) tag s u a := exec_answers rfl h trivial ht
  have test {u : State} {a : Answered} (ht : takePressureTest tag w = (u, a)) :
      exec (.pressureTest tag svc) s = answers .pressureTest tag s u a := exec_answers rfl h trivial ht
  have wet : anyWetGuarded w = anyWetGuarded s := rfl
  have dry (hw : anyWetGuarded s = false) : ¬ anyWetGuarded w = true := by
    rw [wet, hw]
    exact Bool.false_ne_true
  refine ⟨fun ho => reset (if_pos ho), fun ho hw => reset ((if_neg (Nat.not_lt.2 ho)).trans (if_pos (wet.trans hw))), fun ho hw hl => ?noTrip,
    fun l ho hw hl => ⟨resetLatch (o.toNat == 1) l w, ?accepted, resetLatch_reset _ l w⟩, fun hp => test (if_pos hp),
    fun hp hl => test ?trip, fun hp hl hm => test ?battery, fun hp hl hm hv => test ?closed, fun hp hl hm hv ho ht => test ?taken⟩
  case noTrip =>
    refine reset ((if_neg (Nat.not_lt.2 ho)).trans ((if_neg (dry hw)).trans ?_))
    have hl' : w.leak.latch = none := hl
    simp only [hl']
    rfl
  case accepted =>
    refine reset ((if_neg (Nat.not_lt.2 ho)).trans ((if_neg (dry hw)).trans ?_))
    have hl' : w.leak.latch = some l := hl
    simp only [hl']
    rfl
  all_goals
    have idle : ¬ w.leak.test.phase ≠ .idle := not_not_intro hp
    refine (if_neg idle).trans ?_
  case trip => exact if_pos (Option.isSome_iff_ne_none.2 hl)
  all_goals
    have untripped : ¬ w.leak.latch.isSome = true := by
      have hl' : w.leak.latch = none := hl
      rw [hl']
      exact Bool.false_ne_true
    refine (if_neg untripped).trans ?_
  case battery => exact if_pos hm
  case closed => exact (if_neg (not_not_intro hm)).trans (if_pos hv)
  case taken =>
    refine (if_neg (not_not_intro hm)).trans ((if_neg (not_not_intro hv)).trans (congrArg (take .accepted) ?_))
    exact testClaim_waits (s := w) ho ht

/-! ### Away from mains the arbiter grants nothing (R86) -/

/-- What the operations that end things at the loss of mains keep (R117, R137, R151 to R153). -/
structure Offline (s t : State) : Prop where
  others : t = { s with
    valve := t.valve, filter := t.filter, line := t.line, leak := t.leak, pods := t.pods, faults := t.faults, notices := t.notices }
  latch : t.leak.latch = s.leak.latch

section
variable {s t u : State}

theorem Offline.refl (s : State) : Offline s s := ⟨rfl, rfl⟩

theorem Offline.trans (h : Offline s t) (h' : Offline t u) : Offline s u where
  others := by
    have e := h'.others
    rw [h.others] at e
    exact e
  latch := h'.latch.trans h.latch

theorem Offline.ite {c : Prop} [Decidable c] {a b : State} (ha : c → Offline s a) (hb : ¬ c → Offline s b) : Offline s (if c then a else b) := by
  split
  next hc => exact ha hc
  next hc => exact hb hc

theorem Offline.supply (h : Offline s t) : t.supply = s.supply := by rw [h.others]

theorem Valves.offline (h : Valves s t) : Offline s t := ⟨by rw [h.others], by rw [h.others]⟩

theorem offline_withReason (n : Reason) (b : Bool) (s : State) : Offline s (s.withReason n b) := ⟨rfl, rfl⟩

theorem grantDecision_offline (h : s.supply.state ≠ .mains) : grantDecision s = s := by
  refine if_neg fun hg => ?_
  simp only [grantAllowed, Bool.and_eq_true, beq_iff_eq] at hg
  exact h hg.1.2

theorem keepClaim_offline (k : Tank) (h : s.supply.state ≠ .mains) : keepClaim k s = s := by
  have off : (s.supply.state == .mains) = false := beq_eq_false_iff_ne.2 h
  have unheld : claimHeld k s = false := by simp [claimHeld, startAllowed, startConditions, off]
  refine if_neg fun hc => ?_
  rw [unheld] at hc
  exact Bool.false_ne_true hc.1

theorem changeDecision_offline (h : s.supply.state ≠ .mains) : changeDecision s = s := by
  rw [changeDecision, keepClaim_offline .a h, keepClaim_offline .b h, grantDecision_offline h]

theorem offline_removeReason (n : Reason) (h : s.supply.state ≠ .mains) : Offline s (removeReason n s) := by
  have dropped : Offline s (dropReason n s) := (offline_withReason n false s).trans (valves_dropReason n s).offline
  have off : (dropReason n s).supply.state ≠ .mains := dropped.supply ▸ h
  refine .ite (fun _ => ?_) fun _ => dropped
  rw [changeDecision_offline off]
  exact dropped

theorem offline_addReason (n : Reason) (s : State) : Offline s (addReason n s) :=
  (offline_withReason n true s).trans (valves_addReason n s).offline

theorem offline_giveUpTest (h : s.supply.state ≠ .mains) : Offline s (giveUpTest s) := by
  have given : Offline s { s with line := { s.line with test := none } } := ⟨rfl, rfl⟩
  refine .ite (fun _ => ?_) fun _ => given
  rw [grantDecision_offline (s := { s with line := { s.line with test := none } }) h]
  exact given

theorem offline_recordResult (r : TestResult) (v : Int) (p0 : Nat) (d : Int) (s : State) : Offline s (recordResult r v p0 d s) := by
  have told (g : Option Byte) (o : DoneOutcome) (u : State) : Offline u (requestDoneIf .none g kindPressureTest o 0 u) := by
    rw [requestDoneIf_others]
    exact ⟨rfl, rfl⟩
  have cued (u : State) : Offline u (exerciseCue u) := .ite (fun _ => ⟨rfl, rfl⟩) fun _ => .refl u
  have cleared (u : State) : Offline u { u with leak := { u.leak with test := {} } } := ⟨rfl, rfl⟩
  have recorded : Offline s (post .testResult .none (testResultCode r) v p0 { s with leak := { s.leak with record := { s.leak.record with
    result := some r, time := s.now, p0 := p0, decay := d } } }) := ⟨rfl, rfl⟩
  exact ((recorded.trans (told _ _ _)).trans (cleared _)).trans (cued _)

theorem offline_abandonClosing (r : EndReason) (h : s.supply.state ≠ .mains) : Offline s (abandonClosing r s) := by
  have removed := offline_removeReason .test h
  have freed : Offline s (if s.leak.test.phase.closes then removeReason .test s else s) := .ite (fun _ => removed) fun _ => .refl s
  have given := freed.trans (offline_giveUpTest (freed.supply ▸ h))
  exact .ite (fun _ => .ite (fun _ => .refl s) fun _ => given.trans (offline_recordResult _ _ _ _ _)) fun _ => .refl s

theorem offline_mainsLeft (h : s.supply.state ≠ .mains) : Offline s (mainsLeft s) := by
  have cut := (valves_flushCut s).offline
  exact cut.trans (offline_abandonClosing .supply (cut.supply ▸ h))

theorem offline_lowEntered (s : State) : Offline s (lowEntered s) := by
  have told : Offline s (faultReport .batteryLow .none s.supply.battery s) := ⟨rfl, rfl⟩
  exact .ite (fun _ => told.trans (offline_addReason _ _)) fun _ => told

theorem offline_shutdown (s : State) : Offline s (shutdown s) := ⟨rfl, rfl⟩

/-- The supply state told and the end of BATTERY_LOW, before what the change ends and brings (R151). -/
def State.supplied (n : SupplyState) (s : State) : State :=
  let told := post2 .supplyState .none (supplyCode n) s.supply.battery { s with supply := { s.supply with state := n } }
  if s.supply.state = .batteryLow then faultGone .batteryLow .none told else told

theorem supplyChange_eq {n : SupplyState} (h : s.supply.state ≠ n) : supplyChange n s =
    (let left := if s.supply.state = .mains then mainsLeft (s.supplied n) else s.supplied n
     match (generalizing := false) n with
     | .mains => mainsEntered left
     | .battery => left
     | .batteryLow => lowEntered left
     | .shutdown => shutdown left) := if_neg h

theorem offline_supplied (n : SupplyState) (s : State) : Offline { s with supply := { s.supply with state := n } } (s.supplied n) := by
  unfold State.supplied
  exact .ite (fun _ => ⟨rfl, rfl⟩) fun _ => ⟨rfl, rfl⟩

/-- A change of the supply away from mains (R151 to R153). -/
theorem offline_supplyChange {n : SupplyState} (h : s.supply.state ≠ n) (hn : n ≠ .mains) :
    Offline { s with supply := { s.supply with state := n } } (supplyChange n s) := by
  have told := offline_supplied n s
  have off : (s.supplied n).supply.state ≠ .mains := by
    rw [told.supply]
    exact hn
  have left := told.trans (.ite (c := s.supply.state = .mains) (fun _ => offline_mainsLeft off) fun _ => .refl _)
  rw [supplyChange_eq h]
  cases n
  case mains => exact absurd rfl hn
  case battery => exact left
  case batteryLow => exact left.trans (offline_lowEntered _)
  case shutdown => exact left.trans (offline_shutdown _)

/-- An entry into SHUTDOWN releases every output (R152). -/
theorem supplyChange_shutdown (h : s.supply.state ≠ .shutdown) : ∃ v, supplyChange .shutdown s = shutdown v := ⟨_, supplyChange_eq h⟩

theorem shutdown_released {v : State} (hs : v.supply.state = .shutdown) : (shutdown v).valve.drive = .stopped
    ∧ (shutdown v).filter.solenoid = false ∧ (shutdown v).notices = {} ∧ (shutdown v).attention = false ∧ (shutdown v).discMotor = .off := by
  have stopped : (shutdown v).stopped = true := by simp [State.stopped, shutdown, hs]
  exact ⟨rfl, rfl, rfl, rfl, if_pos stopped⟩

/-! ### A decision leaves the pins alone -/

/-- What a grant decision keeps besides what `State.calm` gathers (R86). -/
theorem grantDecision_pins (s : State) : (grantDecision s).pins = s.pins := by
  unfold grantDecision
  split
  · split
    · rfl
    · exact (sequenced_grantRegen _ s).pins
    · exact (untested_grantFlush _ s).pins
    · unfold grantTest
      split
      · unfold testAccept
        dsimp only
        rw [(offline_addReason _ _).others]
      · dsimp only
        split
        · exact (untested_grantFlush _ _).pins
        · rfl
  · rfl

theorem claimRegen_pins (k : Tank) (c : Bool) (s : State) : (claimRegen k c s).pins = s.pins := by
  unfold claimRegen
  split
  · exact grantDecision_pins _
  · split <;> rfl

theorem keepClaim_pins (k : Tank) (s : State) : (keepClaim k s).pins = s.pins := by
  unfold keepClaim
  split
  · exact claimRegen_pins k false s
  · rfl

theorem changeDecision_pins (s : State) : (changeDecision s).pins = s.pins := by
  rw [changeDecision, grantDecision_pins, keepClaim_pins, keepClaim_pins]

theorem removeReason_pins (n : Reason) (s : State) : (removeReason n s).pins = s.pins := by
  have dropped : (dropReason n s).pins = s.pins := by
    rw [((offline_withReason n false s).trans (valves_dropReason n s).offline).others]
  unfold removeReason openedDecision
  split
  · rw [changeDecision_pins, dropped]
  · exact dropped

/-- The change to MAINS (R86, R153). -/
theorem mainsEntered_keeps (s : State) : (mainsEntered s).calm = (removeReason .lowBattery s).calm
    ∧ (mainsEntered s).pins = s.pins := ⟨calm_changeDecision _, (changeDecision_pins _).trans (removeReason_pins _ s)⟩

end

theorem stateOnLoss_ne_mains (p : Supply) : stateOnLoss p ≠ .mains := by
  unfold stateOnLoss
  repeat' split
  all_goals decide

/-- The return of mains to a running part that has been away from it (R151, R153). -/
theorem mainsReturn_keeps {s : State} (hm : s.supply.state ≠ .mains) : (mainsReturn s).supply = { s.supply with state := .mains }
    ∧ (mainsReturn s).pins.mains = true ∧ (mainsReturn s).valve.reasons.lowBattery = false ∧ (mainsReturn s).settings = s.settings
    ∧ (mainsReturn s).meter = s.meter ∧ (mainsReturn s).leak.latch = s.leak.latch ∧ (mainsReturn s).clock = s.clock := by
  let v : State := { s with pins := { s.pins with mains := true } }
  have hne : v.supply.state ≠ .mains := hm
  have told := offline_supplied .mains v
  have entered : mainsReturn s = mainsEntered (v.supplied .mains) := by
    rw [mainsReturn, supplyChange_eq (s := v) hne]
    exact congrArg mainsEntered (if_neg hne)
  obtain ⟨calm, pins⟩ := mainsEntered_keeps (v.supplied .mains)
  rw [calm_removeReason] at calm
  have dropped := ((offline_withReason .lowBattery false _).trans (valves_dropReason .lowBattery (v.supplied .mains)).offline)
  have reasons := dropReason_reasons .lowBattery (v.supplied .mains)
  have kept := told.trans dropped
  rw [entered]
  generalize dropReason .lowBattery (v.supplied .mains) = d at calm reasons kept
  generalize mainsEntered (v.supplied .mains) = u at calm pins ⊢
  have e {α : Type} (f : Calm → α) : f u.calm = f d.calm := congrArg f calm
  refine ⟨(e Calm.supply).trans kept.supply, ?_, (e Calm.lowBattery).trans ?_, (e Calm.settings).trans ?_, (e Calm.meter).trans ?_,
    (e Calm.latch).trans kept.latch, (e Calm.clock).trans ?_⟩
  · rw [pins, told.others]
  · show d.valve.reasons.lowBattery = false
    rw [reasons]
    rfl
  · show d.settings = _
    rw [kept.others]
  · show d.meter = _
    rw [kept.others]
  · show d.clock = _
    rw [kept.others]

theorem execMainsReturned_running {s : State} (h : s.stopped = false) : exec .mainsReturned s = event mainsReturn s := by
  show execMainsReturned s = _
  rw [execMainsReturned, h, if_neg Bool.false_ne_true]

/-- Settles O42: the loss goes by the steady voltage; the return is the change to MAINS. -/
theorem mainsComesAndGoes : Obligations.MainsComesAndGoes := by
  intro s h
  let v : State := { s with pins := { s.pins with mains := false } }
  refine ⟨fun hm => event_leaves h (if_neg hm), fun hm => ⟨supplyChange (stateOnLoss s.supply) v, event_leaves h (if_pos hm), ?_⟩,
    fun hm => ?_, fun hm => ⟨mainsReturn s, ?_, ?_⟩⟩
  · have hne : v.supply.state ≠ stateOnLoss s.supply := fun e => stateOnLoss_ne_mains s.supply (e.symm.trans hm)
    have gone := offline_supplyChange (s := v) hne (stateOnLoss_ne_mains _)
    refine ⟨⟨gone.supply, fun hs => ?_⟩, ?_, ?_, ?_, ?_, ?_, gone.latch, ?_⟩
    · have hs' : stateOnLoss s.supply = .shutdown := hs
      rw [hs'] at hne gone ⊢
      obtain ⟨u, hu⟩ := supplyChange_shutdown (s := v) hne
      rw [hu] at gone ⊢
      exact shutdown_released (congrArg Supply.state gone.supply)
    all_goals rw [gone.others]
  · exact (execMainsReturned_running h).trans (event_leaves h (if_pos hm))
  · exact (execMainsReturned_running h).trans (event_running h mainsReturn)
  · exact mainsReturn_keeps hm

/-! ### The steady voltage (R151) -/

section
variable {s : State}

theorem voltageSteady_none (h : stateOnVoltage s.supply = none) : voltageSteady s = s := by rw [voltageSteady, h]

theorem voltageSteady_some {n : SupplyState} (h : stateOnVoltage s.supply = some n) : voltageSteady s = supplyChange n s := by
  rw [voltageSteady, h]

/-- On battery a stop reports BATTERY_LOW gone and releases the outputs (R151, R152). -/
theorem supplyChange_stops (hm : s.supply.state ≠ .mains) (hs : s.supply.state ≠ .shutdown) :
    ∃ l, supplyChange .shutdown s = { s with
      supply := { s.supply with state := .shutdown }, valve := { s.valve with drive := .stopped, pause := .none }
      filter := { s.filter with solenoid := false }, pods := { s.pods with out := none, awaiting := none, calling := false }
      notices := {}, faults := l } := by
  rw [supplyChange_eq hs]
  simp only [hm, if_false, State.supplied]
  split <;> exact ⟨_, rfl⟩

end

section
variable {s : State}

/-- The supply state told, with no BATTERY_LOW to end (R151). -/
theorem supplied_told {n : SupplyState} (h : s.supply.state ≠ .batteryLow) : s.supplied n =
    post2 .supplyState .none (supplyCode n) s.supply.battery { s with supply := { s.supply with state := n } } := if_neg h

/-- On battery the low voltage enters BATTERY_LOW (R151, R153). -/
theorem supplyChange_low (h : s.supply.state = .battery) : supplyChange .batteryLow s =
    lowEntered (post2 .supplyState .none (supplyCode .batteryLow) s.supply.battery { s with supply := { s.supply with state := .batteryLow } }) := by
  have hm : ¬ s.supply.state = .mains := by rw [h]; decide
  rw [supplyChange_eq (n := .batteryLow) (by rw [h]; decide), ← supplied_told (by rw [h]; decide)]
  exact congrArg lowEntered (if_neg hm)

/-- With the voltage up again it is BATTERY, and BATTERY_LOW is gone (R151). -/
theorem supplyChange_up (h : s.supply.state = .batteryLow) : supplyChange .battery s = faultGone .batteryLow .none
    (post2 .supplyState .none (supplyCode .battery) s.supply.battery { s with supply := { s.supply with state := .battery } }) := by
  have hm : ¬ s.supply.state = .mains := by rw [h]; decide
  rw [supplyChange_eq (n := .battery) (by rw [h]; decide)]
  exact (if_neg hm).trans (if_pos h)

theorem lowEntered_hold (h : s.settings.user.leak.lowBatteryAction = .hold) :
    lowEntered s = faultReport .batteryLow .none s.supply.battery s :=
  if_neg fun hc => absurd (h.symm.trans hc) (by decide)

theorem lowEntered_close (h : s.settings.user.leak.lowBatteryAction = .close) :
    lowEntered s = addReason .lowBattery (faultReport .batteryLow .none s.supply.battery s) := if_pos h

end

/-- Settles O43: the row of R151 that the counts name, and what it brings. -/
theorem steadyVoltageDecides : Obligations.SteadyVoltageDecides := by
  intro s h p told
  have idle (hn : stateOnVoltage s.supply = none) : exec .voltageSteady s = commit s (follow s) := event_leaves h (voltageSteady_none hn)
  have low (hb : p.state = .battery) (h5 : p.below105 < 10) (h4 : 10 ≤ p.below114) :
      voltageSteady s = lowEntered (told .batteryLow s) :=
    (voltageSteady_some (by simp only [stateOnVoltage, p] at *; simp [hb, h4, Nat.not_le.2 h5])).trans (supplyChange_low hb)
  refine ⟨fun hm => idle ?mains, fun hb h5 h4 => idle ?battery, fun hb h5 h9 => idle ?batteryLow, fun hb h5 h4 ha => event_leaves h ?hold,
    fun hb h5 h4 ha => ⟨_, event_leaves h ((low hb h5 h4).trans (lowEntered_close ha)), ?close⟩, fun hb h5 h9 => event_leaves h ?up,
    fun hm h5 => ?stops⟩
  case mains => simp only [stateOnVoltage, p] at *; simp [hm]
  case battery => simp only [stateOnVoltage, p] at *; simp [hb, Nat.not_le.2 h4, Nat.not_le.2 h5]
  case batteryLow => simp only [stateOnVoltage, p] at *; simp [hb, Nat.not_le.2 h9, Nat.not_le.2 h5]
  case hold => exact (low hb h5 h4).trans (lowEntered_hold ha)
  case close =>
    let v : State := faultReport .batteryLow .none p.battery (told .batteryLow s)
    have kept := offline_addReason .lowBattery v
    refine ⟨kept.supply, addReason_reasons .lowBattery v, fun hr ho hc => ?_⟩
    have none_left : v.valve.reasons.any = false := by
      show s.valve.reasons.any = false
      rw [hr]
      rfl
    have hv := addReason_closes (s := v) .lowBattery none_left ho hc
    show (addReason .lowBattery v).valve.state = _
    rw [hv]
  case up =>
    exact (voltageSteady_some (by simp only [stateOnVoltage, p] at *; simp [hb, h9, Nat.not_le.2 h5])).trans (supplyChange_up hb)
  case stops =>
    have running : s.supply.state ≠ .shutdown := fun e => by simp [State.stopped, e] at h
    have row : stateOnVoltage s.supply = some .shutdown := by
      have h5' : 10 ≤ s.supply.below105 := h5
      unfold stateOnVoltage
      cases hst : s.supply.state
      case mains => exact absurd hst hm
      case shutdown => exact absurd hst running
      case battery => simp only [h5', if_true]
      case batteryLow => simp only [h5', if_true]
    obtain ⟨l, hl⟩ := supplyChange_stops hm running
    have stopped : (supplyChange .shutdown s).stopped = true := by
      rw [hl]
      rfl
    have stays : follow (supplyChange .shutdown s) = supplyChange .shutdown s := if_pos stopped
    refine ⟨supplyChange .shutdown s, (event_leaves h (voltageSteady_some row)).trans (by rw [stays]), ?_⟩
    rw [hl]
    exact ⟨rfl, rfl, rfl, rfl, rfl, rfl, rfl, rfl⟩

end Sys2Proof.Machine

/-! The trip latch and the moisture pods: O44 to O47. -/

namespace Sys2Proof.Machine

set_option Elab.async false

/-! ### A cause latched (R128, R129) -/

/-- The latch after a cause (R128, R129). -/
def latchAfter (c : Cause) (detail : Int) (s : State) : Trip :=
  match s.leak.latch with
  | none => { first := c, time := s.now, detail := detail, further := [], litres := s.leak.detector.litres }
  | some t => if t.first = c ∨ c ∈ t.further then t else { t with further := t.further ++ [c] }

/-- What latching a cause and ending a test leave alone. -/
structure Latches (s t : State) : Prop where
  settings : t.settings = s.settings
  clock : t.clock = s.clock
  meter : t.meter = s.meter
  supply : t.supply = s.supply
  pods : t.pods = s.pods
  detector : t.leak.detector = s.leak.detector

section
variable {s t u : State}

theorem Latches.refl (s : State) : Latches s s := ⟨rfl, rfl, rfl, rfl, rfl, rfl⟩

theorem Latches.trans (h : Latches s t) (h' : Latches t u) : Latches s u :=
  ⟨h'.settings.trans h.settings, h'.clock.trans h.clock, h'.meter.trans h.meter, h'.supply.trans h.supply, h'.pods.trans h.pods,
    h'.detector.trans h.detector⟩

theorem Latches.of_calm (h : t.calm = s.calm) : Latches s t :=
  ⟨congrArg Calm.settings h, congrArg Calm.clock h, congrArg Calm.meter h, congrArg Calm.supply h, congrArg Calm.pods h,
    congrArg Calm.detector h⟩

theorem Latches.of_valves (h : Valves s t) : Latches s t := by
  refine ⟨?_, ?_, ?_, ?_, ?_, ?_⟩
  all_goals rw [h.others]

theorem latches_addReason (n : Reason) (s : State) : Latches s (addReason n s) :=
  Latches.trans (t := s.withReason n true) ⟨rfl, rfl, rfl, rfl, rfl, rfl⟩ (.of_valves (valves_addReason n s))

theorem addReason_latch (n : Reason) (s : State) : (addReason n s).leak.latch = s.leak.latch := (offline_addReason n s).latch

theorem latches_removeReason (n : Reason) (s : State) : Latches s (removeReason n s) :=
  Latches.trans (t := dropReason n s) (Latches.trans (t := s.withReason n false) ⟨rfl, rfl, rfl, rfl, rfl, rfl⟩ (.of_valves (valves_dropReason n s)))
    (.of_calm (calm_removeReason n s))

theorem removeReason_latch (n : Reason) (s : State) : (removeReason n s).leak.latch = s.leak.latch := by
  have dropped : (dropReason n s).leak.latch = s.leak.latch := by
    rw [((offline_withReason n false s).trans (valves_dropReason n s).offline).latch]
  exact (congrArg Calm.latch (calm_removeReason n s)).trans dropped

theorem holds_iff (l : Trip) (c : Cause) : l.holds c = true ↔ l.first = c ∨ c ∈ l.further := by simp [Trip.holds]

/-- A cue of the exercise changes the valve's record alone (R149). -/
theorem exerciseCue_others (s : State) : exerciseCue s = { s with valve := (exerciseCue s).valve } := by
  unfold exerciseCue
  split <;> rfl

/-- The state with a test's result recorded, and the test over (R138). -/
def State.resulted (r : TestResult) (p0 : Nat) (decay : Int) (s : State) : State :=
  { s with
    valve := (exerciseCue s).valve
    leak := { s.leak with record := { s.leak.record with result := some r, time := s.now, p0 := p0, decay := decay }, test := {} } }

/-- Recording a result posts it, and cues the exercise (R138, R149). -/
theorem recordResult_others (r : TestResult) (v : Int) (p0 : Nat) (d : Int) (s : State) :
    ∃ n, recordResult r v p0 d s = { s.resulted r p0 d with notices := n } := by
  have cue {u : State} (hv : u.valve = s.valve) (hs : u.settings = s.settings) : exerciseCue u = { u with valve := (exerciseCue s).valve } := by
    rw [exerciseCue_others]
    congr 1
    unfold exerciseCue exerciseDue
    rw [hv, hs]
    split
    · rfl
    · exact hv
  have answered (u : State) (g : Option Byte) (o : DoneOutcome) :
      ∃ n, requestDoneIf .none g kindPressureTest o 0 u = { u with notices := n } := ⟨_, requestDoneIf_others _ _ _ _ _ _⟩
  unfold recordResult
  dsimp only
  obtain ⟨n, hn⟩ := answered (post .testResult .none (testResultCode r) v p0 { s with leak := { s.leak with
    record := { s.leak.record with result := some r, time := s.now, p0 := p0, decay := d } } }) s.leak.test.tag
    (if r = .pass ∨ r = .microleak then .done else .cancelled)
  rw [hn]
  exact ⟨n, cue rfl rfl⟩

/-- A test abandoned leaves the latch and the detector (R137, R138). -/
theorem latches_abandonTest (r : EndReason) (s : State) :
    Latches s (abandonTest r s) ∧ (abandonTest r s).leak.latch = s.leak.latch := by
  have both {a b : State} (h : Latches s a ∧ a.leak.latch = s.leak.latch) (h' : Latches a b ∧ b.leak.latch = a.leak.latch) :
      Latches s b ∧ b.leak.latch = s.leak.latch := ⟨h.1.trans h'.1, h'.2.trans h.2⟩
  have given (v : State) : Latches v (giveUpTest v) ∧ (giveUpTest v).leak.latch = v.leak.latch :=
    ⟨.of_calm (calm_giveUpTest v), congrArg Calm.latch (calm_giveUpTest v)⟩
  have recorded (d : Int) (p : Nat) (v : State) : Latches v (recordResult .abandoned d p 0 v)
      ∧ (recordResult .abandoned d p 0 v).leak.latch = v.leak.latch := by
    obtain ⟨n, h⟩ := recordResult_others .abandoned d p 0 v
    rw [h]
    exact ⟨⟨rfl, rfl, rfl, rfl, rfl, rfl⟩, rfl⟩
  unfold abandonTest
  split
  · exact ⟨.refl s, rfl⟩
  · unfold endTest
    dsimp only [microleakResult]
    refine both (a := giveUpTest _) (both (a := if s.leak.test.phase.closes then removeReason .test s else s) ?_ (given _)) (recorded _ _ _)
    split
    · exact ⟨latches_removeReason .test s, removeReason_latch .test s⟩
    · exact ⟨.refl s, rfl⟩

/-- A cause latched, unless it already is (R128, R129). -/
theorem latchCore_latches (c : Cause) (d : Int) (s : State) :
    Latches s (latchCore c d s) ∧ (latchCore c d s).leak.latch = some (latchAfter c d s) := by
  unfold latchCore latchAfter
  cases hl : s.leak.latch with
  | none =>
    dsimp only
    split
    · refine ⟨Latches.trans ?_ (latches_addReason .trip _), addReason_latch .trip _⟩
      exact ⟨rfl, rfl, rfl, rfl, rfl, rfl⟩
    · exact ⟨⟨rfl, rfl, rfl, rfl, rfl, rfl⟩, rfl⟩
  | some t =>
    dsimp only
    by_cases hh : t.holds c = true
    · rw [if_pos hh, if_pos ((holds_iff t c).1 hh)]
      exact ⟨.refl s, hl⟩
    · rw [if_neg hh, if_neg fun h => hh ((holds_iff t c).2 h)]
      exact ⟨⟨rfl, rfl, rfl, rfl, rfl, rfl⟩, rfl⟩

theorem latchCause_latches (c : Cause) (d : Int) (s : State) :
    Latches s (latchCause c d s) ∧ (latchCause c d s).leak.latch = some (latchAfter c d s) := by
  unfold latchCause
  split
  next hl =>
    refine ⟨.refl s, ?_⟩
    unfold latched at hl
    unfold latchAfter
    cases ht : s.leak.latch with
    | none =>
      rw [ht] at hl
      cases hl
    | some t =>
      rw [ht] at hl
      dsimp only
      rw [if_pos ((holds_iff t c).1 hl)]
  next =>
    obtain ⟨h, hlatch⟩ := latchCore_latches c d s
    obtain ⟨h', hlatch'⟩ := latches_abandonTest .trip (latchCore c d s)
    exact ⟨h.trans h', hlatch'.trans hlatch⟩

/-- With no test under way, a first cause adds TRIP under the leak action CLOSE (R129). -/
theorem latchCause_trip {c : Cause} {d : Int} (hl : s.leak.latch = none) (ht : s.leak.test.phase = .idle)
    (ha : s.settings.user.leak.action = .close) : (latchCause c d s).valve.reasons.trip = true := by
  have unlatched : latched c s = false := by rw [latched, hl]
  have core : ∃ v, latchCore c d s = addReason .trip v ∧ v.leak.test = s.leak.test := by
    unfold latchCore
    rw [hl]
    dsimp only
    exact ⟨_, if_pos ha, rfl⟩
  obtain ⟨v, hv, hvt⟩ := core
  have idle : (addReason .trip v).leak.test.phase = .idle := by
    have kept : (addReason .trip v).leak = v.leak := by
      rw [(valves_addReason .trip v).others]
      rfl
    rw [kept, hvt, ht]
  unfold latchCause
  rw [unlatched, if_neg Bool.false_ne_true, hv, abandonTest, if_pos idle, addReason_reasons]
  rfl

end

/-! ### Polls (R157) -/

section
variable {s : State}

/-- A command that changes nothing leaves the state as it is. -/
theorem commit_self (s : State) : commit s s = .next s := by
  have same : s.since s = s := by rw [State.since, if_pos rfl]
  rw [commit, same]

theorem whenOn_running (h : s.stopped = false) (f : State → State) : whenOn f s = commit s (f s) := by
  rw [whenOn, h, if_neg Bool.false_ne_true]

theorem whenOn_leaves (h : s.stopped = false) {f : State → State} {u : State} (hf : f s = u) : whenOn f s = commit s u := by
  rw [whenOn_running h, hf]

theorem whenOn_idle (h : s.stopped = false) {f : State → State} (hf : f s = s) : whenOn f s = .next s := by
  rw [whenOn_leaves h hf, commit_self]

/-- In a list in which a rank grows, the search finds the element of least rank that satisfies its test. -/
theorem find?_least {α : Type} {r : α → Nat} {p : α → Bool} {l : List α} (hl : l.Pairwise fun a b => r a < r b) {n : α} (hn : n ∈ l)
    (hp : p n = true) (hmin : ∀ m, p m = true → r n ≤ r m) : l.find? p = some n := by
  induction l with
  | nil => cases hn
  | cons a l ih =>
    obtain ⟨ha, hl⟩ := List.pairwise_cons.1 hl
    by_cases hpa : p a = true
    · rw [List.find?_cons_of_pos hpa]
      rcases List.mem_cons.1 hn with rfl | hn
      · rfl
      · exact absurd (hmin a hpa) (Nat.not_le.2 (ha n hn))
    · rw [List.find?_cons_of_neg hpa]
      rcases List.mem_cons.1 hn with rfl | hn
      · exact absurd hp hpa
      · exact ih hl hn

/-- The places from the poll position to a slot. -/
def pollRank (position : Option (Fin 8)) (m : Fin 8) : Nat :=
  match position with
  | none => m.val
  | some p => (m.val + 7 - p.val) % 8

/-- The order in which the slots are polled (R157). -/
def pollOrder (position : Option (Fin 8)) : List (Fin 8) :=
  match position with
  | none => allSlots
  | some p => (List.range 8).map fun i => p + 1 + Fin.ofNat 8 i

theorem pollOrder_ranked (position : Option (Fin 8)) :
    (pollOrder position).Pairwise (fun a b => pollRank position a < pollRank position b) ∧ ∀ m, m ∈ pollOrder position := by
  cases position with
  | none => decide
  | some p =>
    revert p
    decide

theorem nextPoll_eq (s : State) : nextPoll s = (pollOrder s.pods.position).find? fun n => (s.slot n).state != .empty := rfl

theorem nextPoll_least {n : Fin 8} (hn : (s.slot n).state ≠ .empty)
    (hmin : ∀ m, (s.slot m).state ≠ .empty → pollRank s.pods.position n ≤ pollRank s.pods.position m) : nextPoll s = some n := by
  obtain ⟨hl, hmem⟩ := pollOrder_ranked s.pods.position
  rw [nextPoll_eq]
  exact find?_least hl (hmem n) (bne_iff_ne.2 hn) fun m hm => hmin m (bne_iff_ne.1 hm)

theorem nextPoll_none (h : ∀ n, (s.slot n).state = .empty) : nextPoll s = none := by
  rw [nextPoll_eq, List.find?_eq_none]
  intro n _
  simp [h n]

/-! ### Missed answers (R160) -/

/-- The state once the 40 ms of a poll have ended. -/
def State.unawaited (s : State) : State := { s with pods := { s.pods with awaiting := none } }

/-- A slot whose missed count has grown (R160). -/
def PodSlot.counted (p : PodSlot) : PodSlot := { p with missed := min 255 (p.missed + 1) }

/-- A slot LOST (R160). -/
def PodSlot.gone (p : PodSlot) : PodSlot := { p with state := .lost, wet := false, wetSince := none, candidate := none }

variable {n : Fin 8}

theorem missedAnswer_empty (h : (s.slot n).state = .empty) : missedAnswer n s = s := if_pos h

theorem missedAnswer_counts (h : (s.slot n).state ≠ .empty) :
    missedAnswer n s = podLost n (podMissing n (s.withSlot n (s.slot n).counted)) := if_neg h

theorem podMissing_idle (h : (s.slot n).state ≠ .active ∨ (s.slot n).missed < 3) : podMissing n s = s :=
  if_neg fun ⟨ha, hm⟩ => h.elim (fun h => h ha) fun h => absurd hm (Nat.not_le.2 h)

/-- A slot changed in its state is told (R158). -/
theorem changeSlot_told {p : PodSlot} (h : (s.slot n).state ≠ p.state) : changeSlot n p s = postPod n (s.withSlot n p) :=
  if_neg fun hc => h hc.1

theorem podMissing_told (ha : (s.slot n).state = .active) (hm : 3 ≤ (s.slot n).missed) :
    podMissing n s = postPod n (s.withSlot n { s.slot n with state := .missing }) :=
  (if_pos ⟨ha, hm⟩).trans (changeSlot_told (by simp [ha]))

theorem podLost_idle (h : (s.slot n).state = .empty ∨ (s.slot n).state = .lost ∨ (s.slot n).missed < 10) : podLost n s = s := by
  refine if_neg fun ⟨hst, hm⟩ => ?_
  rcases h with h | h | h
  · simp [h] at hst
  · simp [h] at hst
  · exact absurd hm (Nat.not_le.2 h)

/-- The state in which POD_LOST is reported (R160). -/
def State.losing (n : Fin 8) (s : State) : State :=
  faultReport .podLost (.slot n) (s.slot n).serialNat (postPod n (s.withSlot n (s.slot n).gone))

/-- A slot that is lost: POD_STATE, the fault, and by the action the latch (R160). -/
theorem podLost_eq (hst : (s.slot n).state = .active ∨ (s.slot n).state = .missing) (hm : 10 ≤ (s.slot n).missed) : podLost n s =
    if s.settings.user.leak.podLostAction = .close then latchCause (.podLost n) (s.slot n).temperature (s.losing n) else s.losing n := by
  have told : changeSlot n { s.slot n with state := .lost, wet := false, wetSince := none, candidate := none } s
      = postPod n (s.withSlot n (s.slot n).gone) :=
    changeSlot_told (by rcases hst with h | h <;> simp [h])
  unfold podLost
  rw [if_pos ⟨hst, hm⟩]
  dsimp only
  rw [told]
  rfl

end

section
variable {s y : State} {n : Fin 8}

theorem postPod_slot (n m : Fin 8) (s : State) : (postPod n s).slot m = s.slot m := rfl

theorem losing_slot (n : Fin 8) (s : State) : (s.losing n).slot n = (s.slot n).gone := by
  show (s.withSlot n (s.slot n).gone).slot n = _
  exact withSlot_slot_same _ _ _

/-- The latch of a cause when the latch and the detector stand as in `s`. -/
theorem latchAfter_congr (c : Cause) (d : Int) (hl : y.leak = s.leak) (hc : y.clock = s.clock) : latchAfter c d y = latchAfter c d s := by
  rw [latchAfter, latchAfter, hl, State.now, State.now, hc]

theorem latchAfter_first {c : Cause} {d : Int} (h : s.leak.latch = none) : latchAfter c d s = {
    first := c, time := s.now, detail := d, further := []
    litres := if s.leak.detector.active.isSome then s.leak.detector.volume / 1000 else 0 } := by
  simp only [latchAfter, h, Detector.litres]

theorem latchAfter_further {c : Cause} {d : Int} {t : Trip} (h : s.leak.latch = some t) :
    latchAfter c d s = if t.first = c ∨ c ∈ t.further then t else { t with further := t.further ++ [c] } := by
  simp only [latchAfter, h]

/-- A lost pod that latches: its slot, the latch, and what stays (R127, R160). -/
theorem latchCause_losing (hl : y.leak = s.leak) (hc : y.clock = s.clock) (hs : y.settings = s.settings) (hm : y.meter = s.meter) (d : Int) :
    (latchCause (.podLost n) d (y.losing n)).slot n = (y.slot n).gone
    ∧ (latchCause (.podLost n) d (y.losing n)).leak.latch = some (latchAfter (.podLost n) d s)
    ∧ (latchCause (.podLost n) d (y.losing n)).settings = s.settings ∧ (latchCause (.podLost n) d (y.losing n)).meter = s.meter := by
  obtain ⟨kept, latch⟩ := latchCause_latches (.podLost n) d (y.losing n)
  refine ⟨?_, latch.trans (congrArg some (latchAfter_congr _ _ hl hc)), kept.settings.trans hs, kept.meter.trans hm⟩
  rw [State.slot, kept.pods]
  exact losing_slot n y

theorem withSlot_withSlot (s : State) (n : Fin 8) (p q : PodSlot) : (s.withSlot n p).withSlot n q = s.withSlot n q := by
  simp [State.withSlot]

theorem answerMissed_awaited {q : Byte} (h : s.pods.awaiting = some (n, q)) : answerMissed s = missedAnswer n s.unawaited := by
  rw [answerMissed, h]
  rfl

/-- The state after a slot has counted a missed answer (R160). -/
def State.countedMiss (n : Fin 8) (s : State) : State := s.unawaited.withSlot n (s.slot n).counted

theorem countedMiss_slot (n : Fin 8) (s : State) : (s.countedMiss n).slot n = (s.slot n).counted := withSlot_slot_same _ _ _

theorem answerMissed_counts {q : Byte} (h : s.pods.awaiting = some (n, q)) (he : (s.slot n).state ≠ .empty) :
    answerMissed s = podLost n (podMissing n (s.countedMiss n)) :=
  (answerMissed_awaited h).trans (missedAnswer_counts (s := s.unawaited) he)

end

/-- Settles O45: the count that a missed answer reaches, and what it brings by the slot's state. -/
theorem podsGoMissingAndLost : Obligations.PodsGoMissingAndLost := by
  intro n s h p w counted lost trips
  have tripping {c : Instr} {y : State} {x : PodSlot}
      (he : exec c s = commit s (follow (latchCause (.podLost n) p.temperature (y.losing n)))) (hx : (y.slot n).gone = x)
      (hl : y.leak = s.leak) (hc : y.clock = s.clock) (hs : y.settings = s.settings) (hm : y.meter = s.meter) : trips c x := by
    obtain ⟨slot, latch, settings, meter⟩ := latchCause_losing (n := n) hl hc hs hm p.temperature
    exact ⟨_, he, slot.trans hx, fun hn => by rw [latch, latchAfter_first hn], fun t ht => by rw [latch, latchAfter_further ht],
      settings, meter⟩
  refine ⟨fun hn => event_leaves h (by rw [answerMissed, hn]), fun q hq => ?missed, fun ha hm => event_leaves h (podMissing_told ha hm),
    fun hi => event_leaves h (podMissing_idle hi), fun hi => event_leaves h (podLost_idle hi), fun hst hm => ⟨fun ha => ?notified, fun ha => ?tripped⟩⟩
  case notified =>
    have row : podLost n s = s.losing n := (podLost_eq hst hm).trans (if_neg (by rw [ha]; decide))
    exact event_leaves h row
  case tripped =>
    have row : podLost n s = latchCause (.podLost n) (s.slot n).temperature (s.losing n) := (podLost_eq hst hm).trans (if_pos ha)
    exact tripping (event_leaves h row) rfl rfl rfl rfl rfl
  case missed =>
    let v := s.countedMiss n
    have hv : v.slot n = counted := countedMiss_slot n s
    have missed (he : p.state ≠ .empty) {u : State} (hu : podLost n (podMissing n v) = u) : exec .pollAnswerMissed s = commit s (follow u) :=
      event_leaves h ((answerMissed_counts hq he).trans hu)
    have few {k : Nat} (hk : p.missed < k) : (v.slot n).missed < k + 1 := by
      rw [hv]
      show min 255 (p.missed + 1) < k + 1
      omega
    have many {k : Nat} (hk : k ≤ p.missed) (hb : k < 255) : k + 1 ≤ (v.slot n).missed := by
      rw [hv]
      show k + 1 ≤ min 255 (p.missed + 1)
      omega
    have state : (v.slot n).state = p.state := by rw [hv]
    let y := postPod n (w.withSlot n { counted with state := .missing })
    have hy : y.slot n = { counted with state := .missing } := withSlot_slot_same w n _
    have becomes (ha : p.state = .active) (h2 : 2 ≤ p.missed) : podMissing n v = y := by
      rw [podMissing_told (by rw [state, ha]) (many h2 (by decide)), hv]
      exact congrArg (postPod n) (withSlot_withSlot w n counted _)
    have stays (hm : p.state = .missing) : podMissing n v = v := podMissing_idle (.inl (by rw [state, hm]; decide))
    have ten (h9 : 9 ≤ p.missed) : 10 ≤ (y.slot n).missed := by
      have hv9 := many h9 (by decide)
      rw [hy]
      rwa [hv] at hv9
    refine ⟨fun he => event_leaves h ((answerMissed_awaited hq).trans (missedAnswer_empty (s := s.unawaited) he)), fun he hm => missed he ?_,
      fun hst hm => missed (by rw [hst]; decide) ?_, fun hst => missed (by rw [hst]; decide) ?_,
      fun hst h2 h9 => missed (by rw [hst]; decide) ?_, fun hst h9 ha => missed (by rw [hst]; decide) ?_, fun hst h9 => ?_, fun hst h9 ha => ?_⟩
    · rw [podMissing_idle (.inr (few hm)), podLost_idle (.inr (.inr (Nat.lt_of_lt_of_le (few hm) (by decide))))]
      rfl
    · rw [podMissing_idle (.inl (by rw [state, hst]; decide)), podLost_idle (.inr (.inr (few hm)))]
      rfl
    · rw [podMissing_idle (.inl (by rw [state, hst]; decide)), podLost_idle (.inr (.inl (by rw [state, hst])))]
      rfl
    · rw [becomes hst h2, podLost_idle]
      rw [hy]
      refine .inr (.inr ?_)
      have hv9 := few h9
      rwa [hv] at hv9
    · rw [stays hst, podLost_eq (.inr (state.trans hst)) (many h9 (by decide)), if_neg (by show ¬ s.settings.user.leak.podLostAction = .close; rw [ha]; decide),
        State.losing, hv]
      exact congrArg (fun u => faultReport .podLost (.slot n) p.serialNat (postPod n u)) (withSlot_withSlot w n counted (lost counted))
    · refine ⟨podLost n y, missed (by rw [hst]; decide) (by rw [becomes hst (Nat.le_trans (by decide) h9)]), ?_⟩
      rw [podLost_eq (.inr (by rw [hy])) (ten h9)]
      split
      · exact (latchCause_losing (s := y) rfl rfl rfl rfl _).1.trans (by rw [hy]; rfl)
      · exact (losing_slot n y).trans (by rw [hy]; rfl)
    · rcases hst with hst | hst
      · have row : podLost n (podMissing n v) = latchCause (.podLost n) p.temperature (y.losing n) := by
          rw [becomes hst (Nat.le_trans (by decide) h9), podLost_eq (.inr (by rw [hy])) (ten h9), hy]
          exact if_pos ha
        exact tripping (missed (by rw [hst]; decide) row) (by rw [hy]; rfl) rfl rfl rfl rfl
      · have row : podLost n (podMissing n v) = latchCause (.podLost n) p.temperature (v.losing n) := by
          rw [stays hst, podLost_eq (.inr (state.trans hst)) (many h9 (by decide)), hv]
          exact if_pos ha
        exact tripping (missed (by rw [hst]; decide) row) (by rw [hv]; rfl) rfl rfl rfl rfl

end Sys2Proof.Machine

/-! The answers of the pods, their enrolment and the pod requests: O44, O46 and O47. -/

namespace Sys2Proof.Machine

set_option Elab.async false

/-! ### Slots -/

section
variable {s : State} {n : Fin 8} {p : PodSlot}

theorem withSlot_self (n : Fin 8) (s : State) : s.withSlot n (s.slot n) = s := by
  have same : s.pods.slots.set n (s.slot n) = s.pods.slots := Vector.set_getElem_self n.isLt
  rw [State.withSlot, same]

/-- A slot changed, told or not. -/
theorem changeSlot_others (n : Fin 8) (p : PodSlot) (s : State) : ∃ m, changeSlot n p s = { s.withSlot n p with notices := m } := by
  unfold changeSlot
  dsimp only
  split
  · exact ⟨_, rfl⟩
  · exact ⟨_, rfl⟩

/-! ### Good answers (R159, R161, R162) -/

/-- A slot with the mark of the freeze warning after a good answer (R162). -/
def PodSlot.frozen (f : Int) (p : PodSlot) : PodSlot :=
  { p with freeze := if p.temperature ≤ f then true else if f + 2 ≤ p.temperature then false else p.freeze }

theorem PodSlot.frozen_warned {f : Int} (h : p.temperature ≤ f) : p.frozen f = { p with freeze := true } := by
  rw [frozen, if_pos h]

theorem PodSlot.frozen_over {f : Int} (h : f + 2 ≤ p.temperature) : p.frozen f = { p with freeze := false } := by
  rw [frozen, if_neg (by omega), if_pos h]

theorem PodSlot.frozen_stays {f : Int} (hw : p.temperature ≤ f → p.freeze = true) (ho : f + 2 ≤ p.temperature → p.freeze = false) :
    p.frozen f = p := by
  have same : (if p.temperature ≤ f then true else if f + 2 ≤ p.temperature then false else p.freeze) = p.freeze := by
    split
    next h => exact (hw h).symm
    next =>
      split
      next h => exact (ho h).symm
      next => rfl
  rw [frozen, same]

/-- The freeze test changes the mark alone, and warns (R162). -/
theorem freezeTest_others (n : Fin 8) (s : State) :
    ∃ m, freezeTest n s = { s.withSlot n ((s.slot n).frozen s.settings.user.leak.freeze) with notices := m } := by
  unfold freezeTest
  dsimp only
  split
  next h =>
    rw [PodSlot.frozen_warned h.1]
    exact ⟨_, rfl⟩
  next hwarn =>
    split
    next h =>
      rw [PodSlot.frozen_over h.1]
      exact ⟨_, rfl⟩
    next hover =>
      rw [PodSlot.frozen_stays (fun h => by simpa [h] using hwarn) (fun h => by simpa [h] using hover), withSlot_self]
      exact ⟨s.notices, rfl⟩

/-- The slot after a good answer, the freeze test included (R159, R162). -/
def PodSlot.heard (p : PodSlot) (a : Answer) (now : Stamp) (f : Int) : PodSlot := (p.answered a now).frozen f

/-- The fault records after a good answer (R160). -/
def FaultLog.heard (l : FaultLog) (n : Fin 8) (p : PodSlot) : FaultLog := if p.state = .lost then l.gone .podLost (.slot n) else l

/-- The state in which a guarded pod that has become wet is reported (R159). -/
theorem goodAnswer_told (n : Fin 8) (a : Answer) (s : State) :
    ∃ m, changeSlot n ((s.slot n).answered a s.now) (if (s.slot n).state = .lost then faultGone .podLost (.slot n) s else s)
      = { s.withSlot n ((s.slot n).answered a s.now) with faults := s.faults.heard n (s.slot n), notices := m } := by
  unfold FaultLog.heard
  split
  · exact changeSlot_others n _ (faultGone .podLost (.slot n) s)
  · exact changeSlot_others n _ s

/-- A good answer that makes no guarded pod wet (R159, R162). -/
theorem goodAnswer_others {a : Answer} (h : (((s.slot n).answered a s.now).wet && !(s.slot n).wet && ((s.slot n).answered a s.now).shutoff) = false) :
    ∃ m, goodAnswer n a s = { s.withSlot n ((s.slot n).heard a s.now s.settings.user.leak.freeze) with
      faults := s.faults.heard n (s.slot n), notices := m } := by
  obtain ⟨m, hm⟩ := goodAnswer_told n a s
  unfold goodAnswer
  dsimp only
  rw [h, if_neg Bool.false_ne_true, hm]
  obtain ⟨m', hm'⟩ := freezeTest_others n { s.withSlot n ((s.slot n).answered a s.now) with faults := s.faults.heard n (s.slot n), notices := m }
  refine ⟨m', hm'.trans ?_⟩
  have slot : State.slot { s.withSlot n ((s.slot n).answered a s.now) with faults := s.faults.heard n (s.slot n), notices := m } n
      = (s.slot n).answered a s.now := withSlot_slot_same s n _
  rw [slot]
  exact congrArg (fun u : State => { u with faults := s.faults.heard n (s.slot n), notices := m' }) (withSlot_withSlot s n _ _)

/-- A good answer that makes a guarded pod wet latches ZONE before the freeze test (R127, R159). -/
theorem goodAnswer_wet {a : Answer} (h : (((s.slot n).answered a s.now).wet && !(s.slot n).wet && ((s.slot n).answered a s.now).shutoff) = true) :
    ∃ m m', goodAnswer n a s = { (podWet n { s.withSlot n ((s.slot n).answered a s.now) with
        faults := s.faults.heard n (s.slot n), notices := m }).withSlot n ((s.slot n).heard a s.now s.settings.user.leak.freeze) with
      notices := m' } := by
  obtain ⟨m, hm⟩ := goodAnswer_told n a s
  unfold goodAnswer
  dsimp only
  rw [h, if_pos rfl, hm]
  let v : State := { s.withSlot n ((s.slot n).answered a s.now) with faults := s.faults.heard n (s.slot n), notices := m }
  obtain ⟨kept, _⟩ := latchCause_latches (.zone n) (v.slot n).temperature v
  obtain ⟨m', hm'⟩ := freezeTest_others n (podWet n v)
  have slot : (podWet n v).slot n = (s.slot n).answered a s.now := by
    rw [podWet, State.slot, kept.pods]
    exact withSlot_slot_same s n _
  have freeze : (podWet n v).settings = s.settings := kept.settings
  refine ⟨m, m', hm'.trans ?_⟩
  rw [slot, freeze]
  rfl

end

/-! ### Answers in their 40 ms (R156, R157) -/

section
variable {s : State} {n : Fin 8} {q sl sq : Byte} {a : Answer} {good : Bool}

theorem takeAnswer_unawaited (h : s.pods.awaiting = none) : takeAnswer sl sq a good s = s := by
  unfold takeAnswer
  rw [h]

theorem takeAnswer_empty (h : s.pods.awaiting = some (n, q)) (he : (s.slot n).state = .empty) :
    takeAnswer sl sq a good s = s.unawaited := by
  unfold takeAnswer
  rw [h]
  exact if_pos he

theorem takeAnswer_good (h : s.pods.awaiting = some (n, q)) (he : (s.slot n).state ≠ .empty) (hlo : -40 ≤ a.temperature)
    (hhi : a.temperature ≤ 85) : takeAnswer (BitVec.ofNat 8 n.val) q a true s = goodAnswer n a s.unawaited := by
  have number : (BitVec.ofNat 8 n.val).toNat = n.val := by
    rw [BitVec.toNat_ofNat]
    exact Nat.mod_eq_of_lt (Nat.lt_trans n.isLt (by decide))
  unfold takeAnswer
  rw [h]
  exact (if_neg he).trans (if_pos ⟨rfl, number, rfl, hlo, hhi⟩)

theorem takeAnswer_garbled (h : s.pods.awaiting = some (n, q)) (he : (s.slot n).state ≠ .empty)
    (hg : good = false ∨ sl.toNat ≠ n.val ∨ sq ≠ q ∨ a.temperature < -40 ∨ 85 < a.temperature) :
    takeAnswer sl sq a good s = missedAnswer n s.unawaited := by
  unfold takeAnswer
  rw [h]
  refine (if_neg he).trans (if_neg fun ⟨hgood, hsl, hsq, hlo, hhi⟩ => ?_)
  rcases hg with hg | hg | hg | hg | hg
  · rw [hg] at hgood
    cases hgood
  · exact hg hsl
  · exact hg hsq
  · omega
  · omega

theorem pollSend_none (h : nextPoll s = none) : pollSend s = s := by
  unfold pollSend
  rw [h]

theorem pollSend_sends (h : nextPoll s = some n) : pollSend s = { s with pods := { s.pods with
    position := some n, seq := s.pods.seq + 1, awaiting := some (n, s.pods.seq), calling := false
    out := some (.poll n s.pods.seq) } } := by
  unfold pollSend
  rw [h]

/-- A slot that hears a reading which does not newly agree, or agrees on dry, or is not guarded, makes no wet report. -/
theorem answered_silent {p : PodSlot} {now : Stamp} (h : p.candidate ≠ some a.wet ∨ p.wet = a.wet ∨ a.wet = false ∨ p.shutoff = false) :
    ((p.answered a now).wet && !p.wet && (p.answered a now).shutoff) = false := by
  unfold PodSlot.answered
  dsimp only
  rcases h with h | h | h | h
  · rw [beq_eq_false_iff_ne.2 h]
    simp
  · simp [h]
  · cases hw : p.wet <;> simp [h]
  · simp [h]

/-- The slot after a good answer, field by field (R159, R161, R162). -/
theorem PodSlot.heard_eq (p : PodSlot) (a : Answer) (now : Stamp) (f : Int) : p.heard a now f = { p with
    missed := 0, state := .active, batteryLow := a.batteryLow, tamper := a.tamper, temperature := a.temperature, candidate := some a.wet
    wet := if p.candidate = some a.wet then a.wet else p.wet
    wetSince := if p.candidate = some a.wet ∧ p.wet ≠ a.wet then (if a.wet then some now else none) else p.wetSince
    freeze := if a.temperature ≤ f then true else if f + 2 ≤ a.temperature then false else p.freeze } := by
  unfold heard frozen answered
  dsimp only
  by_cases hc : p.candidate = some a.wet
  · by_cases hw : p.wet = a.wet
    · simp [hc, hw]
    · simp [hc, hw]
  · simp [hc]

end

/-- Settles O44: the next slot polled, and what each kind of answer does. -/
theorem pollsAndAnswers : Obligations.PollsAndAnswers := by
  intro s h
  refine ⟨fun he => whenOn_idle h (pollSend_none (nextPoll_none he)), ?polls,
    fun sl sq w b t temp good hn => event_leaves h (takeAnswer_unawaited hn),
    fun n q sl sq w b t temp good hq he => event_leaves h (takeAnswer_empty hq he),
    fun n q w b t temp hq he hlo hhi hs => ?silent, fun n q b t temp hq he hlo hhi hc hw hg hi => ?wet,
    fun n q sl sq w b t temp good hq he hm hg => event_leaves h ?missed⟩
  case polls =>
    intro ahead n he hmin
    have next : nextPoll s = some n := nextPoll_least he fun m hm => hmin m hm
    exact whenOn_leaves h (pollSend_sends next)
  case silent =>
    let a : Answer := { wet := w, batteryLow := b, tamper := t, temperature := temp }
    obtain ⟨m, hm⟩ := goodAnswer_others (s := s.unawaited) (n := n) (a := a) (answered_silent hs)
    refine ⟨_, event_leaves h ((takeAnswer_good (a := a) hq he hlo hhi).trans hm), ?_, fun k hk => ?_, rfl, rfl, rfl⟩
    · exact (withSlot_slot_same s.unawaited n _).trans (PodSlot.heard_eq _ a s.now _)
    · exact withSlot_slot_other s.unawaited n k _ hk
  case wet =>
    let a : Answer := { wet := true, batteryLow := b, tamper := t, temperature := temp }
    have newly : (((s.slot n).answered a s.now).wet && !(s.slot n).wet && ((s.slot n).answered a s.now).shutoff) = true := by
      simp [PodSlot.answered, a, hc, hw, hg]
    obtain ⟨m, m', hm⟩ := goodAnswer_wet (s := s.unawaited) (n := n) (a := a) newly
    refine ⟨_, event_leaves h ((takeAnswer_good (a := a) hq he hlo hhi).trans hm), ?_⟩
    generalize hv : ({ s.unawaited.withSlot n ((s.unawaited.slot n).answered a s.unawaited.now) with
      faults := s.unawaited.faults.heard n (s.unawaited.slot n), notices := m } : State) = v
    have slot : (v.slot n).temperature = temp := by
      rw [← hv]
      exact congrArg PodSlot.temperature (withSlot_slot_same s.unawaited n _)
    have leak : v.leak = s.leak := by rw [← hv]; rfl
    have clock : v.clock = s.clock := by rw [← hv]; rfl
    have settings : v.settings = s.settings := by rw [← hv]; rfl
    have latch : (podWet n v).leak.latch = some (latchAfter (.zone n) temp s) := by
      rw [podWet, (latchCause_latches _ _ v).2, slot, latchAfter_congr _ _ leak clock]
    have heard := (withSlot_slot_same (podWet n v) n ((s.slot n).heard a s.now s.settings.user.leak.freeze)).trans
      (PodSlot.heard_eq _ a s.now s.settings.user.leak.freeze)
    refine ⟨(congrArg PodSlot.wet heard).trans (if_pos hc), (congrArg PodSlot.wetSince heard).trans ?_, congrArg PodSlot.state heard,
      fun hl => latch.trans (congrArg some (latchAfter_first hl)), fun l hl => latch.trans (congrArg some (latchAfter_further hl)),
      fun hl ha => ?_⟩
    · have turns : (s.slot n).candidate = some a.wet ∧ (s.slot n).wet ≠ a.wet := ⟨hc, by simp [hw, a]⟩
      exact (if_pos turns).trans (if_pos rfl)
    · exact latchCause_trip (s := v) (by rw [leak, hl]) (by rw [leak, hi]) (by rw [settings, ha])
  case missed =>
    have fresh : (s.slot n).counted = { s.slot n with missed := (s.slot n).missed + 1 } := by
      rw [PodSlot.counted, Nat.min_eq_right (by omega)]
    have few : ((s.countedMiss n).slot n).missed < 3 := by
      rw [countedMiss_slot, fresh]
      exact Nat.add_lt_add_right hm 1
    have counted : missedAnswer n s.unawaited = podLost n (podMissing n (s.countedMiss n)) := missedAnswer_counts (s := s.unawaited) he
    rw [takeAnswer_garbled hq he hg, counted, podMissing_idle (.inr few), podLost_idle (.inr (.inr (Nat.lt_of_lt_of_le few (by decide)))),
      State.countedMiss, fresh]
    rfl

/-! ### Enrolment (R163, R164) -/

section
variable {s : State} {n : Fin 8} {w : Enrolment} {serial : BitVec 32} {good : Bool} {ms : Nat}

theorem enrolCall_shut (h : s.pods.window = none) : enrolCall s = s := by
  rw [enrolCall, h]
  rfl

theorem enrolCall_open (h : s.pods.window ≠ none) :
    enrolCall s = { s with pods := { s.pods with calling := true, out := some .enrolCall } } :=
  if_pos (Option.isSome_iff_ne_none.2 h)

theorem enrolWindowClose_shut (h : s.pods.window = none) : enrolWindowClose s = s := by
  unfold enrolWindowClose
  rw [h]

theorem enrolWindowClose_open (h : s.pods.window = some w) : enrolWindowClose s = if w.remaining = 0 then windowClose w s else s := by
  unfold enrolWindowClose
  rw [h]

theorem enrolAnswer_over (h : s.pods.calling = false ∨ s.pods.window = none) : enrolAnswer serial good ms s = s := by
  unfold enrolAnswer
  split
  next hc hw =>
    rcases h with h | h
    · rw [h] at hc
      cases hc
    · rw [h] at hw
      cases hw
  next => rfl

theorem enrolAnswer_heard (hc : s.pods.calling = true) (hw : s.pods.window = some w) : enrolAnswer serial good ms s =
    if 40 < ms then { s with pods := { s.pods with calling := false } }
    else if good = true ∧ serial ≠ 0 then enrolSerial serial w s else s := by
  unfold enrolAnswer
  rw [hc, hw]

theorem enrolAnswer_garbled (hm : ms ≤ 40) (hg : good = false ∨ serial = 0) : enrolAnswer serial good ms s = s := by
  by_cases h : s.pods.calling = false ∨ s.pods.window = none
  · exact enrolAnswer_over h
  · obtain ⟨hc, hw⟩ := not_or.1 h
    obtain ⟨w, hw⟩ := Option.ne_none_iff_exists'.1 hw
    have bad : ¬ (good = true ∧ serial ≠ 0) := fun ⟨h1, h2⟩ => hg.elim (fun h => by simp [h] at h1) h2
    rw [enrolAnswer_heard (Bool.eq_true_of_not_eq_false hc) hw, if_neg (Nat.not_lt.2 hm), if_neg bad]

theorem enrolAnswer_good (hm : ms ≤ 40) (hc : s.pods.calling = true) (hw : s.pods.window = some w) (h0 : serial ≠ 0) :
    enrolAnswer serial true ms s = enrolSerial serial w s := by
  rw [enrolAnswer_heard hc hw, if_neg (Nat.not_lt.2 hm), if_pos ⟨rfl, h0⟩]

theorem lowestEmpty_none_iff : (lowestEmpty s).isNone = true ↔ ∀ m, (s.slot m).state ≠ .empty := by
  have every (m : Fin 8) : m ∈ allSlots := by
    revert m
    decide
  rw [Option.isNone_iff_eq_none, lowestEmpty, List.find?_eq_none]
  exact ⟨fun h m hm => h m (every m) (beq_iff_eq.2 hm), fun h m _ hm => h m (beq_iff_eq.1 hm)⟩

theorem lowestEmpty_empty (h : lowestEmpty s = some n) : (s.slot n).state = .empty := by
  have found := List.find?_some h
  exact beq_iff_eq.1 found

/-- The state in which a new pod has its slot (R164). -/
def State.placed (serial : BitVec 32) (n : Fin 8) (w : Enrolment) (s : State) : State := { s with pods := { s.pods with
  slots := s.pods.slots.set n { serial := some serial, state := .missing }
  out := some (.assign serial n), window := some { w with new := w.new + 1 } } }

/-- The state in which the controller has been told of a new pod (R164). -/
def State.enrolled (serial : BitVec 32) (n : Fin 8) (w : Enrolment) (s : State) : State :=
  post .podEnrolled (.slot n) 1 serial.toNat n.val (postPod n (s.placed serial n w))

/-- A new pod in its slot; the window closes when no slot stays EMPTY (R163, R164). -/
theorem assign_eq (he : (s.slot n).state = .empty) : assign serial n w s =
    if (lowestEmpty (s.enrolled serial n w)).isNone then windowClose { w with new := w.new + 1 } (s.enrolled serial n w)
    else s.enrolled serial n w := by
  have told : changeSlot n { serial := some serial, state := .missing }
      { s with pods := { s.pods with out := some (.assign serial n), window := some { w with new := w.new + 1 } } }
      = postPod n (s.placed serial n w) := changeSlot_told (by
    show (s.slot n).state ≠ SlotState.missing
    rw [he]
    decide)
  unfold assign
  dsimp only
  rw [told]
  rfl

/-- After an enrolment a slot is EMPTY when it was and is not the pod's. -/
theorem enrolled_empty_iff (m : Fin 8) : ((s.enrolled serial n w).slot m).state = .empty ↔ m ≠ n ∧ (s.slot m).state = .empty := by
  have slot : (s.enrolled serial n w).slot m = (s.withSlot n { serial := some serial, state := .missing }).slot m := rfl
  rw [slot]
  by_cases hm : m = n
  · rw [hm, withSlot_slot_same]
    simp
  · rw [withSlot_slot_other _ _ _ _ hm]
    simp [hm]

end

/-- Settles O46: what an ENROL_CALL's answer does, by the window, the check, the serial and the roster. -/
theorem podsEnrol : Obligations.PodsEnrol := by
  intro s h
  refine ⟨fun hw => ⟨whenOn_idle h (enrolCall_shut hw), whenOn_idle h (enrolWindowClose_shut hw)⟩, fun hw => whenOn_leaves h (enrolCall_open hw),
    fun serial good ms hn => whenOn_idle h (enrolAnswer_over hn), fun serial good ms hm hg => whenOn_idle h (enrolAnswer_garbled hm hg),
    fun serial good ms hm hc hw => ?late, fun serial n w ms hm hc hw h0 hs => whenOn_leaves h ((enrolAnswer_good hm hc hw h0).trans ?again),
    fun serial n w ms hm hc hw h0 hs hl => ?new, fun serial w ms hm hc hw h0 hs hl => whenOn_idle h ((enrolAnswer_good hm hc hw h0).trans ?full),
    fun w hw hr => whenOn_idle h ((enrolWindowClose_open hw).trans (if_neg hr)),
    fun w hw hr => whenOn_leaves h ((enrolWindowClose_open hw).trans (if_pos hr))⟩
  case late =>
    obtain ⟨w, hw⟩ := Option.ne_none_iff_exists'.1 hw
    exact whenOn_leaves h ((enrolAnswer_heard hc hw).trans (if_pos hm))
  case again =>
    unfold enrolSerial
    rw [hs]
    rfl
  case full =>
    unfold enrolSerial
    rw [hs, hl]
  case new =>
    intro placed told
    have assigned : enrolAnswer serial true ms s = if (lowestEmpty told).isNone then windowClose { w with new := w.new + 1 } told else told := by
      rw [enrolAnswer_good hm hc hw h0, enrolSerial, hs, hl]
      exact assign_eq (lowestEmpty_empty hl)
    refine ⟨fun ⟨m, hm, he⟩ => whenOn_leaves h (assigned.trans (if_neg fun hn => ?_)),
      fun hall => whenOn_leaves h (assigned.trans ((if_pos ?_).trans rfl))⟩
    · exact lowestEmpty_none_iff.1 hn m ((enrolled_empty_iff m).2 ⟨hm, he⟩)
    · exact lowestEmpty_none_iff.2 fun m hm => hall m ((enrolled_empty_iff m).1 hm).1 ((enrolled_empty_iff m).1 hm).2

/-! ### The pods' requests (R163, R165, R166) -/

section
variable {s : State} {n : Fin 8} {b f : Byte} {l : List Byte}

theorem slotNumber_none (h : 8 ≤ b.toNat) : slotNumber b = none := dif_neg (Nat.not_lt.2 h)

theorem slotNumber_some (h : b.toNat = n.val) : slotNumber b = some n := by
  have lt : b.toNat < 8 := h ▸ n.isLt
  rw [slotNumber, dif_pos lt]
  exact congrArg some (Fin.ext h)

theorem takePodRemove_slot (h : b.toNat = n.val) : takePodRemove b s =
    if (s.slot n).state = .empty then notNow .empty s else take .ok (emptySlot n (faultGone .podLost (.slot n) s)) := by
  unfold takePodRemove
  rw [slotNumber_some h]

theorem takePodLabel_slot (h : b.toNat = n.val) : takePodLabel b f l s =
    if 1 < f.toNat ∨ l.contains 0 = true then notNow .badValue s
    else if (s.slot n).state = .empty then notNow .empty s
    else take .ok (labelSlot n (f.toNat == 1) l s) := by
  unfold takePodLabel
  rw [slotNumber_some h]

theorem takePodRemove_badSlot (h : 8 ≤ b.toNat) : takePodRemove b s = notNow .badSlot s := by
  unfold takePodRemove
  rw [slotNumber_none h]

theorem takePodLabel_badSlot (h : 8 ≤ b.toNat) : takePodLabel b f l s = notNow .badSlot s := by
  unfold takePodLabel
  rw [slotNumber_none h]

/-- A label that newly guards a wet pod (R166). -/
def PodSlot.newlyGuards (p : PodSlot) (flag : Bool) : Bool :=
  flag && !p.shutoff && (p.state == .active || p.state == .missing) && p.wet

/-- A slot with its label and its flag (R166). -/
def PodSlot.labelled (p : PodSlot) (flag : Bool) (l : List Byte) : PodSlot := { p with shutoff := flag, label := l }

theorem labelSlot_eq (flag : Bool) : labelSlot n flag l s = if (s.slot n).newlyGuards flag = true then
    podWet n (s.withSlot n ((s.slot n).labelled flag l)) else s.withSlot n ((s.slot n).labelled flag l) := rfl

theorem PodSlot.newlyGuards_iff (p : PodSlot) (f : Byte) : p.newlyGuards (f.toNat == 1) = true
    ↔ f.toNat = 1 ∧ p.shutoff = false ∧ p.wet = true ∧ (p.state = .active ∨ p.state = .missing) := by
  simp only [newlyGuards, Bool.and_eq_true, Bool.or_eq_true, beq_iff_eq, Bool.not_eq_true']
  tauto

end

/-- Settles O47: POD_ENROL, POD_REMOVE and POD_LABEL, by the tests that refuse them. -/
theorem podRequests : Obligations.PodRequests := by
  intro svc tag s h w
  refine ⟨fun d => ?enrol, fun b hb => ⟨exec_answers rfl h trivial (takePodRemove_badSlot hb),
    fun f l hl => exec_answers rfl h hl (takePodLabel_badSlot hb)⟩, fun n b hb => ⟨fun he => ?_, fun he => ?_, fun f l hl => ?label⟩⟩
  case enrol =>
    split
    next hw => exact exec_answers rfl h trivial (if_pos hw)
    next hw => exact exec_answers rfl h trivial (if_neg hw)
  · exact exec_answers rfl h trivial ((takePodRemove_slot hb).trans (if_pos he))
  · exact exec_answers rfl h trivial ((takePodRemove_slot hb).trans (if_neg he))
  case label =>
    have row : takeRequest tag w (.podLabel b f l) = _ := takePodLabel_slot hb
    refine ⟨fun hv => ?_, fun hf hn he => ?_, fun hf hn he => ?_⟩
    · exact exec_answers rfl h hl (row.trans (if_pos (hv.imp_right List.contains_iff_mem.2)))
    all_goals
      have valid : ¬ (1 < f.toNat ∨ l.contains 0 = true) := not_or.2 ⟨Nat.not_lt.2 hf, fun hc => hn (List.contains_iff_mem.1 hc)⟩
    · exact exec_answers rfl h hl ((row.trans (if_neg valid)).trans (if_pos he))
    · intro p guards labelled
      have taken : takeRequest tag w (.podLabel b f l) = take .ok (labelSlot n (f.toNat == 1) l w) := (row.trans (if_neg valid)).trans (if_neg he)
      have guards_iff : (w.slot n).newlyGuards (f.toNat == 1) = true ↔ guards := PodSlot.newlyGuards_iff p f
      refine ⟨fun hg => ?_, fun hg hi => ?_⟩
      · exact exec_answers rfl h hl (taken.trans (congrArg (take .ok) ((labelSlot_eq _).trans (if_neg fun hc => hg (guards_iff.1 hc)))))
      · let v := w.withSlot n labelled
        have row' : labelSlot n (f.toNat == 1) l w = podWet n v := (labelSlot_eq _).trans (if_pos (guards_iff.2 hg))
        have slot : v.slot n = labelled := withSlot_slot_same w n labelled
        obtain ⟨kept, latch⟩ := latchCause_latches (.zone n) (v.slot n).temperature v
        have litre : latchAfter (.zone n) (v.slot n).temperature v = latchAfter (.zone n) p.temperature s := by
          rw [slot]
          exact latchAfter_congr _ _ rfl rfl
        refine ⟨podWet n v, exec_answers rfl h hl (taken.trans (congrArg (take .ok) row')), ?_, fun m hm => ?_,
          fun hl => ⟨latch.trans (congrArg some (litre.trans (latchAfter_first hl))), fun ha => latchCause_trip (s := v) hl hi ha⟩,
          fun t ht => latch.trans (congrArg some (litre.trans (latchAfter_further ht)))⟩
        · exact (congrArg (fun p => p.slots.get n) kept.pods).trans slot
        · exact (congrArg (fun p => p.slots.get m) kept.pods).trans (withSlot_slot_other w n m labelled hm)

end Sys2Proof.Machine

/-! The serial line: the receiver, the two places, and the requests whose reply completes: O50, O51 and O54. -/

namespace Sys2Proof.Machine

set_option Elab.async false

/-! ### Events of the line (R169, R171) -/

section
variable {s u : State} {svc : Bool} {f : Frame} {bs : List Byte} {h : Handling}

theorem lineEvent_leaves (hs : s.stopped = false) {g : State → State} (hg : g (s.withSvc svc) = u) : lineEvent svc g s = commit s u :=
  whenOn_leaves (f := fun s => g (s.withSvc svc)) hs hg

theorem receive_handled (h : s.link.handling = none) : receive f s = handleFrame f (frameDropped s) := by
  unfold receive
  rw [h]
  rfl

theorem receive_held (h : s.link.handling ≠ none) (he : s.link.held = none) :
    receive f s = { frameDropped s with link := { (frameDropped s).link with held := some f } } := by
  obtain ⟨x, hx⟩ := Option.ne_none_iff_exists'.1 h
  unfold receive
  rw [hx, he]
  rfl

theorem receive_lost (h : s.link.handling ≠ none) (he : s.link.held ≠ none) :
    receive f s = { frameDropped s with link := { (frameDropped s).link with overrun := true } } := by
  obtain ⟨x, hx⟩ := Option.ne_none_iff_exists'.1 h
  obtain ⟨g, hg⟩ := Option.ne_none_iff_exists'.1 he
  unfold receive
  rw [hx, hg]
  rfl

theorem deliver_receives (h : f.payload.length ≤ 248) : deliver f s = receive f s := if_pos h

/-- The state after the bytes of a frame (R169, R171). -/
def State.received (bs : List Byte) (s : State) : State :=
  match frameOfBytes bs with
  | some f => receive f s
  | none => frameDropped s

theorem exec_frameReceived (bs : List Byte) (svc : Bool) (s : State) :
    exec (.frameReceived bs svc) s = lineEvent svc (State.received bs) s := rfl

theorem received_none (h : frameOfBytes bs = none) : s.received bs = frameDropped s := by
  rw [State.received, h]

theorem received_frame (h : frameOfBytes bs = some f) : s.received bs = receive f s := by
  rw [State.received, h]

/-- The bytes of a frame as they arrive are the frame, whatever the state (R168, R171). -/
theorem exec_frameReceived_bytes (hl : f.payload.length ≤ 248) (hb : frameOfBytes f.bytes = some f) (svc : Bool) (s : State) :
    exec (.frameReceived f.bytes svc) s = lineEvent svc (deliver f) s := by
  have taken : State.received f.bytes = deliver f := funext fun s => (received_frame hb).trans (deliver_receives hl).symm
  rw [exec_frameReceived, taken]

theorem lengthByte_toNat {p : List Byte} (h : p.length ≤ 248) : (lengthByte p).toNat = p.length + 2 := by
  rw [lengthByte, BitVec.toNat_ofNat]
  exact Nat.mod_eq_of_lt (by omega)

/-- A frame's bytes say the frame (R168). -/
theorem frameOfBytes_bytes (h : f.payload.length ≤ 248) : frameOfBytes f.bytes = some f := by
  have crc : f.crc.extractLsb' 8 8 ++ f.crc.extractLsb' 0 8 = f.crc := by
    ext i hi
    simp only [BitVec.getElem_append, BitVec.getElem_extractLsb']
    split
    · rw [Nat.zero_add, BitVec.getLsbD_eq_getElem hi]
    · rw [show 8 + (i - 8) = i by omega, BitVec.getLsbD_eq_getElem hi]
  unfold Frame.bytes frameOfBytes
  simp [lengthByte_toNat h, crc]
  omega

/-- The kinds that the table of requests does not hold (R172). -/
theorem parseRequest_unknown {k : Byte} {p : List Byte} (h : k = 0 ∨ (0x0C ≤ k.toNat ∧ k.toNat ≤ 0x0F) ∨ 0x20 < k.toNat) :
    parseRequest k p = .unknownKind := by
  have low : k.toNat = 0 ∨ (12 ≤ k.toNat ∧ k.toNat ≤ 15) ∨ 32 < k.toNat := by
    rcases h with h | h
    · exact .inl (by rw [h]; rfl)
    · exact .inr h
  unfold parseRequest
  split <;> first | rfl | omega

/-- A frame with a good check that no request's dispatch accepts is answered with the test it fails (R172). -/
theorem exec_goodFrame {k tag : Byte} {p : List Byte} {st : Status} (hf : s.free) (hl : p.length ≤ 248)
    (hd : dispatch (goodFrame k tag p) (frameDropped (s.withSvc svc)) = refuse st (frameDropped (s.withSvc svc))) :
    lineEvent svc (deliver (goodFrame k tag p)) s = commit s (buildReply (goodFrame k tag p) (if 0x80 ≤ k.toNat then 0xFF else k + 0x80)
      (frameDropped (s.withSvc svc), { status := st })) := by
  obtain ⟨hs, hh⟩ := hf
  have good : (goodFrame k tag p).checked = true := beq_self_eq_true _
  refine lineEvent_leaves hs ?_
  rw [deliver_receives hl, receive_handled (s := s.withSvc svc) hh, handleFrame, if_pos good, hd]
  rfl

end

/-- Settles O50: the receiver's events, the three places a frame can go to, and the first tests of dispatch. -/
theorem receiverAndDispatch : Obligations.ReceiverAndDispatch := by
  refine ⟨fun s hs => ⟨whenOn_leaves hs rfl, whenOn_leaves hs rfl, fun n hn => whenOn_leaves hs (if_pos ?bad),
      fun n hlo hhi => whenOn_idle hs (if_neg ?good), fun svc bs => ?received⟩,
    fun f hf => ⟨frameOfBytes_bytes hf, exec_frameReceived_bytes hf (frameOfBytes_bytes hf)⟩,
    fun c r svc tag s hc hw => ?request, fun k p hk => parseRequest_unknown hk,
    fun svc k tag p s hf hl => ⟨fun hp => exec_goodFrame hf hl ?_, fun hp => exec_goodFrame hf hl ?_⟩⟩
  case bad => simpa [lengthBad] using hn
  case good =>
    simp only [lengthBad, Bool.or_eq_true, decide_eq_true_eq]
    omega
  case received =>
    intro v
    have arrives {f : Frame} {u : State} (hb : frameOfBytes bs = some f) (hu : receive f (s.withSvc svc) = u) :
        exec (.frameReceived bs svc) s = commit s u := lineEvent_leaves hs ((received_frame hb).trans hu)
    refine ⟨fun hb => lineEvent_leaves hs (received_none hb), fun f hb => ⟨fun hh => arrives hb ?_, fun h hh he => arrives hb ?_,
      fun h g hh he => arrives hb ?_⟩⟩
    · exact receive_handled (s := s.withSvc svc) hh
    · exact receive_held (s := s.withSvc svc) (Option.ne_none_iff_exists'.2 ⟨h, hh⟩) he
    · exact receive_lost (s := s.withSvc svc) (Option.ne_none_iff_exists'.2 ⟨h, hh⟩) (Option.ne_none_iff_exists'.2 ⟨g, he⟩)
  case request =>
    have hl : (r.frame tag).payload.length ≤ 248 := requestPayload_length r hw
    rw [exec_request hc, exec_frameReceived_bytes hl (frameOfBytes_bytes hl)]
    rfl
  all_goals
    unfold dispatch
    rw [goodFrame, hp]

/-! ### Held requests and completions (R171, R179) -/

section
variable {s u : State} {svc : Bool} {h : Handling}

/-- The place of the request handled is emptied, and the held frame is taken up (R171). -/
theorem nextRequest_empty (h : s.link.held = none) : nextRequest s = { s with link := { s.link with handling := none } } := by
  unfold nextRequest
  dsimp only
  rw [h]

theorem nextRequest_held {f : Frame} (h : s.link.held = some f) :
    nextRequest s = handleFrame f { s with link := { s.link with handling := none, held := none } } := by
  unfold nextRequest
  rw [h]

theorem replyDone_none (h : s.link.handling = none) : replyDone s = s := by
  unfold replyDone
  rw [h]

/-- The effect of a completion (R17, R171, R179, R183). -/
def State.completed (c : Completion) (s : State) : State :=
  match c with
  | .plain => nextRequest s
  | .noticeTake => nextRequest (noticesTaken s)
  | .historyRead n gap => nextRequest (historyTaken n gap s)
  | .reset => warmReset s.restartInputs s

theorem replyDone_handling (hh : s.link.handling = some h) : replyDone s = s.completed h.completion := by
  unfold replyDone
  rw [hh]
  rfl

end

/-- Settles O51: where a request that finds another handled goes, and each completion. -/
theorem requestsWaitAndComplete : Obligations.RequestsWaitAndComplete := by
  refine ⟨fun c r svc tag h s hc hw hs hh => ?held, fun svc s hs hh => lineEvent_leaves hs (replyDone_none hh), fun svc h s hs hh => ?completes⟩
  case held =>
    intro w
    have busy : w.link.handling ≠ none := Option.ne_none_iff_exists'.2 ⟨h, hh⟩
    have placed {u : State} (hu : receive (r.frame tag) w = u) : exec c s = commit s u := by
      rw [exec_request hc]
      exact lineEvent_leaves hs ((deliver_receives (requestPayload_length r hw)).trans hu)
    exact ⟨fun he => placed (receive_held busy he), fun he => placed (receive_lost busy he)⟩
  case completes =>
    intro w done
    have next (v : State) (hv : v.link = s.link) : nextRequest v = done v := by
      show nextRequest v = match s.link.held with | none => _ | some f => _
      cases hd : s.link.held with
      | none => exact nextRequest_empty (by rw [hv, hd])
      | some f => exact nextRequest_held (by rw [hv, hd])
    have completes {c : Completion} {u : State} (hc : h.completion = c) (hu : replyDone w = u) : exec (.replyComplete svc) s = commit s u :=
      lineEvent_leaves hs hu
    have row := replyDone_handling (s := w) hh
    refine ⟨fun hc => ?_, fun hc => ?_, fun n gap hc => ?_, fun hc => ?_⟩
    all_goals rw [hc] at row
    · exact completes hc (row.trans (next w rfl))
    · exact completes hc (row.trans (next (noticesTaken w) rfl))
    · exact completes hc (row.trans (next (historyTaken n gap w) rfl))
    · exact completes hc row

/-! ### Carried notices and records (R17, R183) -/

section
variable {α : Type} {p : α → Bool} {mark clear : α → α} {l : List α}

/-- Marking the first elements of a list leaves the others to a filter of the unmarked. -/
theorem filter_marked (hm : ∀ x, p (mark x) = true) (hl : ∀ x ∈ l, p x = false) (n : Nat) :
    ((l.take n).map mark ++ l.drop n).filter (fun x => !p x) = l.drop n := by
  rw [List.filter_append, List.filter_eq_nil_iff.2, List.filter_eq_self.2, List.nil_append]
  · intro x hx
    simp [hl x (List.mem_of_mem_drop hx)]
  · intro x hx
    obtain ⟨y, _, rfl⟩ := List.mem_map.1 hx
    simp [hm y]

end

section
variable {h : History}

/-- The history with the carried records marked in flight (R17). -/
def History.carried (h : History) : History := { h with
  ring := h.ring.take h.cursor ++ (carriedHistory h).map (fun r => { r with inFlight := true }) ++ h.ring.drop (h.cursor + (carriedHistory h).length) }

theorem carriedHistory_length (h : History) : (carriedHistory h).length = min 20 (h.ring.length - h.cursor) := by simp [carriedHistory]

theorem HistoryRecord.unmarked {r : HistoryRecord} (h : r.inFlight = false) : { r with inFlight := false } = r := by rw [← h]

/-- The completion takes the marks off again (R17). -/
theorem carried_unmarked (hf : ∀ r ∈ h.ring, r.inFlight = false) : h.carried.ring.map (fun r => { r with inFlight := false }) = h.ring := by
  have same (l : List HistoryRecord) (hl : ∀ r ∈ l, r.inFlight = false) : l.map (fun r => { r with inFlight := false }) = l := by
    exact (List.map_congr_left (g := id) fun r hr => HistoryRecord.unmarked (hl r hr)).trans (List.map_id l)
  have taken : carriedHistory h = (h.ring.drop h.cursor).take 20 := rfl
  have kept : h.ring.take h.cursor ++ carriedHistory h ++ h.ring.drop (h.cursor + (carriedHistory h).length) = h.ring := by
    rw [taken, ← List.drop_drop, List.append_assoc, List.length_take]
    conv_rhs => rw [← List.take_append_drop h.cursor h.ring, ← List.take_append_drop 20 (h.ring.drop h.cursor)]
    congr 2
    rw [List.drop_eq_drop_iff]
    omega
  unfold History.carried
  rw [List.map_append, List.map_append, List.map_map]
  conv_rhs => rw [← kept]
  congr 2
  · exact same _ fun r hr => hf r (List.mem_of_mem_take hr)
  · exact same _ fun r hr => hf r (List.mem_of_mem_drop (List.mem_of_mem_take hr))
  · exact same _ fun r hr => hf r (List.mem_of_mem_drop hr)

theorem lastInFlight_append {a m b : List HistoryRecord} (hn : m ≠ []) (hm : ∀ r ∈ m, r.inFlight = true) (hb : ∀ r ∈ b, r.inFlight = false) :
    lastInFlight (a ++ m ++ b) = a.length + m.length := by
  obtain ⟨x, l, hx⟩ := List.exists_cons_of_ne_nil (List.reverse_ne_nil_iff.2 hn)
  have marked : x.inFlight = true := hm x (List.mem_reverse.1 (by rw [hx]; exact List.mem_cons_self))
  rw [lastInFlight, List.reverse_append, List.reverse_append, List.takeWhile_append_of_pos, hx, List.cons_append,
    List.takeWhile_cons_of_neg (by simp [marked])]
  · simp only [List.length_append, List.length_reverse, List.length_nil]
    omega
  · intro r hr
    simp [hb r (List.mem_reverse.1 hr)]

/-- The last record in flight is the last one carried (R17). -/
theorem lastInFlight_carried (hf : ∀ r ∈ h.ring, r.inFlight = false) (hc : h.cursor ≤ h.ring.length) (hn : (carriedHistory h).length ≠ 0) :
    lastInFlight h.carried.ring = h.cursor + (carriedHistory h).length := by
  unfold History.carried
  rw [lastInFlight_append (by simpa using hn) (by simp) fun r hr => hf r (List.mem_of_mem_drop hr), List.length_take, List.length_map,
    Nat.min_eq_left hc]

/-- A HISTORY_READ that completes moves the cursor past the records it carried and clears the GAP it reported (R17). -/
theorem readDone_carried (hf : ∀ r ∈ h.ring, r.inFlight = false) (hc : h.cursor ≤ h.ring.length) :
    let done := h.carried.readDone (carriedHistory h).length h.gap
    done.ring = h.ring ∧ done.cursor = h.cursor + min 20 (h.ring.length - h.cursor) ∧ done.gap = false := by
  refine ⟨carried_unmarked hf, ?_, Bool.and_not_self h.gap⟩
  rw [← carriedHistory_length]
  show (if (carriedHistory h).length = 0 then h.cursor else lastInFlight h.carried.ring) = _
  split
  next h0 => rw [h0, Nat.add_zero]
  next hn => exact lastInFlight_carried hf hc hn

end

/-- A reply's completion with no held frame, after the event that built the reply. -/
theorem replyComplete_since {s u : State} (hs : u.stopped = false) (he : u.link.held = none)
    {g : State → State} (hg : ∀ v : State, v.link = u.link → replyDone v = nextRequest (g v)) (hl : ∀ v, (g v).link = v.link) (again : Bool) :
    ∃ b, exec (.replyComplete again) (s.since u)
      = .next { g ((s.since u).withSvc again) with link := { u.link with handling := none }, before := b } := by
  let v := (s.since u).withSvc again
  have done : replyDone v = { g v with link := { u.link with handling := none } } := by
    rw [hg v rfl, nextRequest_empty (by rw [hl]; exact he), hl]
    rfl
  exact ⟨_, lineEvent_leaves (s := s.since u) hs done⟩

/-- Settles O54: the reply of NOTICE_TAKE and of HISTORY_READ, and its completion with no held frame. -/
theorem noticesAndHistoryAreTaken : Obligations.NoticesAndHistoryAreTaken := by
  intro svc tag s h he w
  refine ⟨fun hn => ?notices, fun hr hc => ?history⟩
  case notices =>
    intro u
    refine ⟨exec_answers rfl h trivial rfl, fun again => ?_⟩
    obtain ⟨b, hb⟩ := replyComplete_since (s := s) (u := u) (g := noticesTaken) h.1 he
      (fun v hv => replyDone_handling (congrArg Link.handling hv)) (fun v => rfl) again
    exact ⟨_, hb, filter_marked (fun n => rfl) hn 4, rfl⟩
  case history =>
    intro k n
    have len : (carriedHistory k).length = n := carriedHistory_length k
    refine ⟨{ w with meter := { s.meter with history := k.carried } }, rfl, ?_⟩
    intro u
    have taken : takeRequest tag w .historyRead = ({ w with meter := { s.meter with history := k.carried } },
        { status := .ok, body := historyBody s, completion := .historyRead n k.gap }) := by
      rw [← len]
      rfl
    refine ⟨exec_answers rfl h trivial taken, fun again => ?_⟩
    obtain ⟨b, hb⟩ := replyComplete_since (s := s) (u := u) (g := historyTaken n k.gap) h.1 he
      (fun v hv => replyDone_handling (congrArg Link.handling hv)) (fun v => rfl) again
    obtain ⟨ring, cursor, gap⟩ := readDone_carried hr hc
    rw [len] at ring cursor gap
    exact ⟨_, hb, ring, cursor, gap, rfl⟩

end Sys2Proof.Machine

/-! What the owners of a setting keep when they take its new value, and the requests that clear and restore: O55. -/

namespace Sys2Proof.Machine

set_option Elab.async false

/-! ### Recovery passes and mode changes keep what is calm (R54, R82) -/

section
variable {s t u : State}

theorem calm_recoverChangeover (c : Changeover) (x : Pos) (s : State) : (recoverChangeover c x s).calm = s.calm := by
  unfold recoverChangeover
  repeat' split
  all_goals simp only [calm_askMove, calm_update]

theorem calm_recoverRegeneration (k : Tank) (x : Pos) (s : State) : (recoverRegeneration k x s).calm = s.calm := by
  unfold recoverRegeneration
  dsimp only
  repeat' split
  all_goals simp only [calm_askMove, calm_stepArrival, calm_enterOtherStep]

theorem calm_recoverService (x : Pos) (s : State) : (recoverService x s).calm = s.calm := by
  unfold recoverService
  dsimp only
  repeat' split
  all_goals simp only [calm_commission, calm_askMove]

theorem calm_recoveryPass (s : State) : (recoveryPass s).calm = s.calm := by
  unfold recoveryPass
  repeat' split
  all_goals simp only [calm_recoverChangeover, calm_askMove, calm_recoverRegeneration, calm_recoverService]

theorem calm_modeChange (s : State) : (modeChange s).calm = s.calm := by
  unfold modeChange
  split
  · exact (calm_recoveryPass _).trans (calm_update s s.cap _ s.seq s.line s.brine s.filter s.notices s.pins)
  · exact calm_applyManual s

/-! ### What the owner of a setting keeps (R175) -/

/-- What every owner keeps when it takes a new value: the settings, the counter, the supply, the pods, and the Metering Unit but for its
meters. -/
structure Owned (s t : State) : Prop where
  settings : t.settings = s.settings
  clock : t.clock = s.clock
  supply : t.supply = s.supply
  pods : t.pods = s.pods
  meter : ∃ m, t.meter = { s.meter with meters := m }

theorem Owned.refl (s : State) : Owned s s := ⟨rfl, rfl, rfl, rfl, _, rfl⟩

theorem Owned.trans (h : Owned s t) (h' : Owned t u) : Owned s u where
  settings := h'.settings.trans h.settings
  clock := h'.clock.trans h.clock
  supply := h'.supply.trans h.supply
  pods := h'.pods.trans h.pods
  meter := by
    obtain ⟨m, hm⟩ := h.meter
    obtain ⟨m', hm'⟩ := h'.meter
    exact ⟨m', by rw [hm', hm]⟩

theorem Owned.of_latches (h : Latches s t) : Owned s t := ⟨h.settings, h.clock, h.supply, h.pods, _, h.meter⟩

theorem Owned.of_calm (h : t.calm = s.calm) : Owned s t := .of_latches (.of_calm h)

theorem Owned.of_sequenced (h : Sequenced s t) : Owned s t := by
  refine ⟨h.settings, h.clock, h.supply, ?_, _, h.meter⟩
  rw [h.others]

theorem Owned.totals (h : Owned s t) : t.meter.totals = s.meter.totals := by
  obtain ⟨m, hm⟩ := h.meter
  rw [hm]

end

/-! ### A resin volume (R28, R81) -/

section
variable (k : Tank) (s : State)

theorem sequenced_resetLearning : Sequenced s (resetLearning k s) := ⟨rfl⟩

theorem sequenced_disableCapacity : Sequenced s (disableCapacity k s) := ⟨rfl⟩

theorem sequenced_waitingChangeover (ready : Bool) : Sequenced s (waitingChangeover k ready s) := by
  unfold waitingChangeover
  dsimp only
  refine .ite (fun _ => ?_) fun _ => .refl s
  have posted : Sequenced s (if ready then post1 .changeoverPending (.tank k.other) (serviceCode (s.tank k).service) s else s) :=
    .ite (fun _ => sequenced_post1 _ _ _ s) fun _ => .refl s
  exact .ite (fun _ => posted.trans (sequenced_forceUrgent k _)) fun _ => posted

theorem sequenced_madeExhausted : Sequenced s (madeExhausted k s) :=
  ((sequenced_changeTank k _ s).trans (sequenced_askProjection k _)).trans (sequenced_waitingChangeover k _ _)

theorem sequenced_madeDisabled : Sequenced s (madeDisabled k s) :=
  ((((sequenced_withdrawRegen k s).trans (sequenced_changeTank k _ _)).trans (sequenced_disableCapacity k _)).trans
    (sequenced_requestDoneIf _ _ _ _ _ _)).trans (sequenced_waitingChangeover k _ _)

theorem sequenced_vrChanged (v : Nat) : Sequenced s (vrChanged k v s) := by
  have learned := sequenced_resetLearning k s
  unfold vrChanged
  dsimp only
  repeat' split
  all_goals first
    | exact learned
    | exact learned.trans (sequenced_madeDisabled k _)
    | exact learned.trans (sequenced_madeExhausted k _)

theorem withdrawRegen_brine : (withdrawRegen k s).brine = s.brine ∧ (withdrawRegen k s).disc = s.disc := by
  unfold withdrawRegen
  dsimp only
  repeat' split
  all_goals exact ⟨rfl, rfl⟩

end

/-! ### Every owner (R175) -/

section
variable (s : State)

theorem Owned.ite {s a b : State} {c : Prop} [Decidable c] (ha : Owned s a) (hb : Owned s b) : Owned s (if c then a else b) := by
  split
  · exact ha
  · exact hb

theorem probeFaultGone_others (k : Tank) : ∃ r f, probeFaultGone k s = { s with cap := { s.cap with probeFault := r }, faults := f } := by
  unfold probeFaultGone
  split
  · exact ⟨_, _, rfl⟩
  · exact ⟨s.cap.probeFault, s.faults, rfl⟩

theorem owned_probeDepthChanged : Owned s (probeDepthChanged s) := by
  have gone (k : Tank) (v : State) : Owned v (probeFaultGone k v) := by
    obtain ⟨r, f, h⟩ := probeFaultGone_others v k
    rw [h]
    exact ⟨rfl, rfl, rfl, rfl, _, rfl⟩
  have cleared : Owned s { s with cap := { s.cap with runs := ⟨0, 0⟩ } } := ⟨rfl, rfl, rfl, rfl, _, rfl⟩
  exact .ite ((cleared.trans (gone .a _)).trans (gone .b _)) cleared

theorem owned_evaluateSaltMass : Owned s (evaluateSaltMass s) := .of_sequenced (brining_evaluateSaltMass s).sequenced

theorem owned_sensorFittedChanged : Owned s (sensorFittedChanged s) := by
  have gone : Owned s (if s.brine.saltFault then
      faultGone .saltSensor .none { s with brine := { s.brine with saltFault := false } } else s) :=
    .ite ⟨rfl, rfl, rfl, rfl, _, rfl⟩ (.refl s)
  exact .ite (.refl s) (gone.trans (owned_evaluateSaltMass _))

theorem owned_capacityClamp : Owned s (capacityClamp s) :=
  Owned.trans (t := { s with brine := { s.brine with inventory := min s.brine.inventory (saltCapacity s) } }) ⟨rfl, rfl, rfl, rfl, _, rfl⟩
    (.of_sequenced (brining_inventoryChanged _ _).sequenced)

theorem owned_leakModeChanged : Owned s (leakModeChanged s) := .ite ⟨rfl, rfl, rfl, rfl, _, rfl⟩ (.refl s)

theorem owned_leakActionTaken : Owned s (leakActionTaken s) :=
  .ite (.ite (.of_latches (latches_addReason .trip s)) (.refl s)) (.of_latches (latches_removeReason .trip s))

theorem owned_lowBatteryTaken : Owned s (lowBatteryTaken s) :=
  .ite (.ite (.of_latches (latches_addReason .lowBattery s)) (.refl s)) (.of_latches (latches_removeReason .lowBattery s))

/-- What the owner of any setting keeps (R175). -/
theorem owned_settingTaken (id : Nat) (changed : Bool) : Owned s (settingTaken id changed s) := by
  have when {a : State} (h : Owned s a) : Owned s (if changed then a else s) := .ite h (.refl s)
  unfold settingTaken
  dsimp only
  split
  · exact when (.of_sequenced (sequenced_vrChanged .a s _))
  · exact when (.of_sequenced (sequenced_vrChanged .b s _))
  · exact when ⟨rfl, rfl, rfl, rfl, _, rfl⟩
  · exact when ⟨rfl, rfl, rfl, rfl, _, rfl⟩
  · exact when (owned_probeDepthChanged s)
  · exact when (owned_sensorFittedChanged s)
  · exact when (owned_capacityClamp s)
  · exact ⟨rfl, rfl, rfl, rfl, _, rfl⟩
  · exact ⟨rfl, rfl, rfl, rfl, _, rfl⟩
  · exact ⟨rfl, rfl, rfl, rfl, _, rfl⟩
  · exact .of_calm (calm_modeChange s)
  · exact when (.of_calm (calm_filterEvaluate s))
  · exact when (.of_calm (calm_filterEvaluate s))
  · exact when (owned_leakModeChanged s)
  · exact owned_leakActionTaken s
  · exact owned_lowBatteryTaken s
  · exact when (owned_evaluateSaltMass s)
  · exact .refl s

/-- Every owner's part of a restore (R178). -/
theorem owned_settingsRestored (svc : Bool) (old : Settings) : Owned s (settingsRestored svc old s) := by
  unfold settingsRestored
  generalize restoredIds svc = ids
  induction ids generalizing s with
  | nil => exact .refl s
  | cons id ids ih =>
    rw [List.foldl_cons]
    exact (owned_settingTaken s id _).trans (ih _)

/-! ### What reaches the Brine Monitor's records -/

theorem defer_brine (k : Tank) (r : DeferReason) : (defer k r s).brine = s.brine := by
  unfold defer
  dsimp only
  split <;> rfl

theorem applyManual_brine : (applyManual s).brine = s.brine := by
  have one (k : Tank) (v : State) : (if ((withdrawRegen k v).tank k).service = .exhausted then defer k .manual (withdrawRegen k v)
      else withdrawRegen k v).brine = v.brine := by
    split
    · exact (defer_brine _ _ _).trans (withdrawRegen_brine k v).1
    · exact (withdrawRegen_brine k v).1
  unfold applyManual
  split
  · exact (one .b _).trans (one .a _)
  · rfl

/-- The first step of a regeneration concerns no brine (R70, R71). -/
theorem stepArrival_backwash (k : Tank) (h : (s.tank k).step = some .backwash) : (stepArrival k .backwash s).brine = s.brine := by
  unfold stepArrival
  dsimp only
  rw [if_pos h]
  split
  · exact changeTank_brine k _ s
  · exact changeTank_brine k _ s

end

section
variable {s : State}

theorem discRequest_tank (p : Pos) (k : Tank) (s : State) : (discRequest p s).tank k = s.tank k := by
  unfold discRequest
  split <;> rfl

theorem askStepMove_backwash (k : Tank) (h : (s.tank k).step = some .backwash) : (askStepMove k .backwash s).brine = s.brine := by
  have asked : ((discRequest (stepPosition k .backwash) s).tank k).step = some .backwash := by rw [discRequest_tank, h]
  unfold askStepMove
  dsimp only
  split
  · rw [applyManual_brine, stepArrival_backwash _ k asked, discRequest_brine]
  · exact discRequest_brine _ s

theorem grantRegen_brine (e : RegenEntry) (s : State) : (grantRegen e s).brine = s.brine := by
  unfold grantRegen
  dsimp only
  split
  · refine (askStepMove_backwash _ ?_).trans (changeTank_brine _ _ _)
    rw [changeTank_tank_same]
    rfl
  · rfl

theorem Valves.brine {s t : State} (h : Valves s t) : t.brine = s.brine := by rw [h.others]

theorem Valves.disc {s t : State} (h : Valves s t) : t.disc = s.disc := by rw [h.others]

theorem addReason_brine (n : Reason) (s : State) : (addReason n s).brine = s.brine := by
  rw [(valves_addReason n s).brine]
  rfl

theorem flushStart_brine (s : State) : (flushStart s).brine = s.brine := by
  obtain ⟨n, h⟩ := flushStart_others s
  rw [h]

theorem grantTest_brine (s : State) : (grantTest s).brine = s.brine := by
  unfold grantTest
  dsimp only
  repeat' split
  · exact addReason_brine _ _
  · exact flushStart_brine _
  · rfl

theorem grantDecision_brine (s : State) : (grantDecision s).brine = s.brine := by
  unfold grantDecision
  repeat' split
  · rfl
  · exact grantRegen_brine _ s
  · exact flushStart_brine _
  · exact grantTest_brine s
  · rfl

theorem keepClaim_brine (k : Tank) (s : State) : (keepClaim k s).brine = s.brine := by
  unfold keepClaim claimRegen
  dsimp only
  repeat' split
  · exact grantDecision_brine _
  · rfl
  · rfl
  · rfl

theorem changeDecision_brine (s : State) : (changeDecision s).brine = s.brine :=
  (grantDecision_brine _).trans ((keepClaim_brine .b _).trans (keepClaim_brine .a s))

theorem removeReason_brine (n : Reason) (s : State) : (removeReason n s).brine = s.brine := by
  have dropped : (dropReason n s).brine = s.brine := by
    rw [(valves_dropReason n s).brine]
    rfl
  unfold removeReason openedDecision
  split
  · exact (changeDecision_brine _).trans dropped
  · exact dropped

theorem leakActionTaken_brine (s : State) : (leakActionTaken s).brine = s.brine := by
  unfold leakActionTaken
  repeat' split
  · exact addReason_brine _ s
  · rfl
  · exact removeReason_brine _ s

theorem lowBatteryTaken_brine (s : State) : (lowBatteryTaken s).brine = s.brine := by
  unfold lowBatteryTaken
  repeat' split
  · exact addReason_brine _ s
  · rfl
  · exact removeReason_brine _ s

theorem leakModeChanged_brine (s : State) : (leakModeChanged s).brine = s.brine := by
  unfold leakModeChanged
  split <;> rfl

end

/-! ### A restore and the salt (R102, R178) -/

section
variable {s t : State}

theorem forecastReminder_salt (s : State) : (forecastReminder s).brine.salt = s.brine.salt := by
  unfold forecastReminder
  dsimp only
  repeat' split
  all_goals rfl

theorem capacityClamp_salt (h : s.settings.inst.sensorFitted = true) : (capacityClamp s).brine.salt = s.brine.salt := by
  have kept (v : State) (hv : v.settings = s.settings) : (evaluateSaltMass v).brine.salt = v.brine.salt := by
    rw [evaluateSaltMass, if_pos (by rw [hv, h])]
  unfold capacityClamp inventoryChanged
  split
  · rfl
  · refine (forecastReminder_salt _).trans ?_
    exact kept _ rfl

theorem vrChanged_brine (k : Tank) (v : Nat) (s : State) : (vrChanged k v s).brine = s.brine ∧ (vrChanged k v s).disc = s.disc := by
  have projected (v : State) : (askProjection k v).brine = v.brine ∧ (askProjection k v).disc = v.disc := by
    unfold askProjection
    dsimp only
    repeat' split
    all_goals exact ⟨rfl, rfl⟩
  have waiting (b : Bool) (v : State) : (waitingChangeover k b v).brine = v.brine ∧ (waitingChangeover k b v).disc = v.disc := by
    unfold waitingChangeover
    dsimp only
    repeat' split
    all_goals exact ⟨rfl, rfl⟩
  have both {a b c : State} (h : b.brine = a.brine ∧ b.disc = a.disc) (h' : c.brine = b.brine ∧ c.disc = b.disc) :
      c.brine = a.brine ∧ c.disc = a.disc := ⟨h'.1.trans h.1, h'.2.trans h.2⟩
  have changed (r : TankRecord) (v : State) : (changeTank k r v).brine = v.brine ∧ (changeTank k r v).disc = v.disc :=
    ⟨changeTank_brine k r v, changeTank_disc k r v⟩
  have answered (g : Option Byte) (v : State) : (requestDoneIf (.tank k) g kindTankCmd .cancelled 0 v).brine = v.brine
      ∧ (requestDoneIf (.tank k) g kindTankCmd .cancelled 0 v).disc = v.disc := by
    rw [requestDoneIf_others]
    exact ⟨rfl, rfl⟩
  have wiped (v : State) : (disableCapacity k v).brine = v.brine ∧ (disableCapacity k v).disc = v.disc := ⟨rfl, rfl⟩
  have exhausted (v : State) : (madeExhausted k v).brine = v.brine ∧ (madeExhausted k v).disc = v.disc :=
    both (both (changed _ v) (projected _)) (waiting _ _)
  have disabled (v : State) : (madeDisabled k v).brine = v.brine ∧ (madeDisabled k v).disc = v.disc :=
    both (both (both (both (withdrawRegen_brine k v) (changed _ _)) (wiped _)) (answered _ _)) (waiting _ _)
  unfold vrChanged
  dsimp only
  repeat' split
  all_goals first
    | exact ⟨rfl, rfl⟩
    | exact disabled (resetLearning k s)
    | exact exhausted (resetLearning k s)

end


section
variable {s : State} {id : Nat} {ids : List Nat}

/-- The ids of a restore before the leak and low-battery actions (R178). -/
def quietIds : List Nat := [20, 1, 2, 3, 4, 5, 8, 10, 35, 50]

/-- Those of them that are user settings. -/
def quietUserIds : List Nat := [20, 35, 50]

/-- An owner's part of a restore, with the default mode and the salt sensor in force and the disc in AUTO: the salt state and the disc
stay (R102, R178). -/
theorem settingTaken_salt (changed : Bool) (hid : id ∈ quietIds) (hm : s.settings.user.soft.discMode = .auto)
    (hf : s.settings.inst.sensorFitted = true) (hd : s.disc.mode = .auto) :
    (settingTaken id changed s).brine.salt = s.brine.salt ∧ (settingTaken id changed s).disc = s.disc := by
  have when {a : State} (h : a.brine.salt = s.brine.salt ∧ a.disc = s.disc) :
      (if changed then a else s).brine.salt = s.brine.salt ∧ (if changed then a else s).disc = s.disc := by
    split
    · exact h
    · exact ⟨rfl, rfl⟩
  have resin (k : Tank) (v : Nat) : (vrChanged k v s).brine.salt = s.brine.salt ∧ (vrChanged k v s).disc = s.disc :=
    ⟨congrArg Brine.salt (vrChanged_brine k v s).1, (vrChanged_brine k v s).2⟩
  simp only [quietIds, List.mem_cons, List.not_mem_nil, or_false] at hid
  rcases hid with rfl | rfl | rfl | rfl | rfl | rfl | rfl | rfl | rfl | rfl
  · exact ⟨rfl, rfl⟩
  · exact when (resin .a _)
  · exact when (resin .b _)
  · refine when ?_
    exact ⟨rfl, rfl⟩
  · refine when ?_
    exact ⟨rfl, rfl⟩
  · refine when (a := probeDepthChanged s) ?_
    unfold probeDepthChanged probeFaultGone
    dsimp only
    repeat' split
    all_goals exact ⟨rfl, rfl⟩
  · have off : sensorFittedChanged s = s := if_pos hf
    exact when (by rw [off]; exact ⟨rfl, rfl⟩)
  · refine when ⟨capacityClamp_salt hf, ?_⟩
    unfold capacityClamp
    rw [(brining_inventoryChanged _ _).others]
  · have settled : settingTaken 35 changed s = s := modeChange_auto hd hm
    rw [settled]
    exact ⟨rfl, rfl⟩
  · refine when ⟨congrArg Brine.salt (leakModeChanged_brine s), ?_⟩
    unfold leakModeChanged
    split <;> rfl

/-- The user settings alone restored reach nothing of the Brine Monitor (R178). -/
theorem settingTaken_user (changed : Bool) (hid : id ∈ quietUserIds) (hm : s.settings.user.soft.discMode = .auto) (hd : s.disc.mode = .auto) :
    (settingTaken id changed s).brine = s.brine ∧ (settingTaken id changed s).disc = s.disc := by
  simp only [quietUserIds, List.mem_cons, List.not_mem_nil, or_false] at hid
  rcases hid with rfl | rfl | rfl
  · exact ⟨rfl, rfl⟩
  · have settled : settingTaken 35 changed s = s := modeChange_auto hd hm
    rw [settled]
    exact ⟨rfl, rfl⟩
  · show (if changed then leakModeChanged s else s).brine = _ ∧ (if changed then leakModeChanged s else s).disc = _
    unfold leakModeChanged
    repeat' split
    all_goals exact ⟨rfl, rfl⟩

/-- One owner told of a restored setting (R178). -/
def ownerTold (old : Settings) (s : State) (id : Nat) : State := settingTaken id (old.get id != s.settings.get id) s

theorem foldl_told_salt (old : Settings) (hids : ∀ i ∈ ids, i ∈ quietIds) (hm : s.settings.user.soft.discMode = .auto)
    (hf : s.settings.inst.sensorFitted = true) (hd : s.disc.mode = .auto) : (ids.foldl (ownerTold old) s).brine.salt = s.brine.salt := by
  induction ids generalizing s with
  | nil => rfl
  | cons id ids ih =>
    obtain ⟨salt, disc⟩ := settingTaken_salt (old.get id != s.settings.get id) (hids id List.mem_cons_self) hm hf hd
    have kept := (owned_settingTaken s id (old.get id != s.settings.get id)).settings
    refine (ih (s := ownerTold old s id) (fun i hi => hids i (List.mem_cons_of_mem _ hi)) ?_ ?_ ?_).trans salt
    · rw [ownerTold, kept, hm]
    · rw [ownerTold, kept, hf]
    · rw [ownerTold, disc, hd]

theorem foldl_told_brine (old : Settings) (hids : ∀ i ∈ ids, i ∈ quietUserIds) (hm : s.settings.user.soft.discMode = .auto)
    (hd : s.disc.mode = .auto) : (ids.foldl (ownerTold old) s).brine = s.brine := by
  induction ids generalizing s with
  | nil => rfl
  | cons id ids ih =>
    obtain ⟨brine, disc⟩ := settingTaken_user (old.get id != s.settings.get id) (hids id List.mem_cons_self) hm hd
    have kept := (owned_settingTaken s id (old.get id != s.settings.get id)).settings
    refine (ih (s := ownerTold old s id) (fun i hi => hids i (List.mem_cons_of_mem _ hi)) ?_ ?_).trans brine
    · rw [ownerTold, kept, hm]
    · rw [ownerTold, disc, hd]

/-- The leak and low-battery actions come last (R178). -/
theorem actionsTaken_brine (old : Settings) (s : State) : ([51, 69].foldl (ownerTold old) s).brine = s.brine :=
  (lowBatteryTaken_brine (ownerTold old s 51)).trans (leakActionTaken_brine s)

theorem settingsRestored_user (old : Settings) (s : State) :
    settingsRestored false old s = [51, 69].foldl (ownerTold old) (quietUserIds.foldl (ownerTold old) s) := rfl

theorem settingsRestored_all (old : Settings) (s : State) :
    settingsRestored true old s = [51, 69].foldl (ownerTold old) (quietIds.foldl (ownerTold old) s) := rfl

theorem settingsRestored_salt (old : Settings) (hs : s.settings = {}) (hd : s.disc.mode = .auto) :
    (settingsRestored true old s).brine.salt = s.brine.salt := by
  rw [settingsRestored_all, actionsTaken_brine]
  exact foldl_told_salt old (fun i hi => hi) (by rw [hs]) (by rw [hs]) hd

theorem settingsRestored_brine (old : Settings) (hs : s.settings.user = {}) (hd : s.disc.mode = .auto) :
    (settingsRestored false old s).brine = s.brine := by
  rw [settingsRestored_user, actionsTaken_brine]
  exact foldl_told_brine old (fun i hi => hi) (by rw [hs]) hd

/-- With the user settings alone restored the Metering Unit keeps its meters too (R178). -/
theorem settingsRestored_meter (old : Settings) (s : State) : (settingsRestored false old s).meter = s.meter := by
  have told (id : Nat) (v : State) (hid : id ∈ [20, 35, 50, 51, 69]) : (ownerTold old v id).meter = v.meter := by
    simp only [List.mem_cons, List.not_mem_nil, or_false] at hid
    rcases hid with rfl | rfl | rfl | rfl | rfl
    · rfl
    · exact congrArg Calm.meter (calm_modeChange v)
    · show (if _ then leakModeChanged v else v).meter = _
      unfold leakModeChanged
      repeat' split
      all_goals rfl
    · show (leakActionTaken v).meter = _
      unfold leakActionTaken
      repeat' split
      · exact (latches_addReason .trip v).meter
      · rfl
      · exact (latches_removeReason .trip v).meter
    · show (lowBatteryTaken v).meter = _
      unfold lowBatteryTaken
      repeat' split
      · exact (latches_addReason .lowBattery v).meter
      · rfl
      · exact (latches_removeReason .lowBattery v).meter
  have fold (l : List Nat) (v : State) (hl : ∀ i ∈ l, i ∈ [20, 35, 50, 51, 69]) : (l.foldl (ownerTold old) v).meter = v.meter := by
    induction l generalizing v with
    | nil => rfl
    | cons id l ih => exact (ih _ fun i hi => hl i (List.mem_cons_of_mem _ hi)).trans (told id v (hl id List.mem_cons_self))
  exact fold [20, 35, 50, 51, 69] s fun i hi => hi

end

/-! ### The roster emptied (R167) -/

section
variable {s : State}

/-- One slot of the roster emptied (R167). -/
def slotEmptied (s : State) (n : Fin 8) : State := if (s.slot n).state = .empty then s.withSlot n {} else emptySlot n s

theorem emptyRoster_eq (s : State) : emptyRoster s = allSlots.foldl slotEmptied s := rfl

theorem slotEmptied_others (s : State) (n : Fin 8) : ∃ m, slotEmptied s n = { s.withSlot n {} with notices := m } := by
  unfold slotEmptied
  split
  · exact ⟨s.notices, rfl⟩
  · exact ⟨_, rfl⟩

theorem foldl_slotEmptied_others (l : List (Fin 8)) (s : State) : ∃ p m, l.foldl slotEmptied s = { s with pods := p, notices := m } := by
  induction l generalizing s with
  | nil => exact ⟨s.pods, s.notices, rfl⟩
  | cons n l ih =>
    obtain ⟨m, hm⟩ := slotEmptied_others s n
    obtain ⟨p', m', h⟩ := ih (slotEmptied s n)
    refine ⟨p', m', ?_⟩
    rw [List.foldl_cons, h, hm]
    rfl

theorem emptyRoster_others (s : State) : ∃ p m, emptyRoster s = { s with pods := p, notices := m } := foldl_slotEmptied_others _ s

theorem slotEmptied_slot (s : State) (n m : Fin 8) : (slotEmptied s n).slot m = if m = n then {} else s.slot m := by
  obtain ⟨k, hk⟩ := slotEmptied_others s n
  rw [hk]
  show (s.withSlot n {}).slot m = _
  split
  next h => rw [h, withSlot_slot_same]
  next h => exact withSlot_slot_other s n m {} h

theorem foldl_slotEmptied_slot (l : List (Fin 8)) (s : State) (m : Fin 8) (h : m ∈ l ∨ s.slot m = {}) : (l.foldl slotEmptied s).slot m = {} := by
  induction l generalizing s with
  | nil => exact h.resolve_left List.not_mem_nil
  | cons n l ih =>
    refine ih (slotEmptied s n) ?_
    rw [slotEmptied_slot]
    rcases h with h | h
    · rcases List.mem_cons.1 h with rfl | h
      · exact .inr (if_pos rfl)
      · exact .inl h
    · refine .inr ?_
      split
      · rfl
      · exact h

theorem emptyRoster_slot (s : State) (m : Fin 8) : (emptyRoster s).slot m = {} := by
  refine foldl_slotEmptied_slot allSlots s m (.inl ?_)
  revert m
  decide

/-! ### The clock set (R16, R107, R189) -/

/-- The state with the counter set, and the refill end moved with it (R107, R189). -/
def State.reclocked (day second : Nat) (s : State) : State := { s with
  clock := { day := day, second := second, unset := false }
  brine := { s.brine with refillEnd := ((s.brine.refillEnd : Int) + (day * 86400 + second : Nat) - s.now).toNat } }

/-- The flag of a counter set within the open hour, which closes it (R16). -/
def State.clockFlagged (s : State) : State :=
  { s with meter := { s.meter with hour := { s.meter.hour with flags := { s.meter.hour.flags with clockSet := true } } } }

theorem setClock_eq (day second : Nat) (s : State) : setClock day second s =
    if hourMoved (s.reclocked day second) then closeHour (s.reclocked day second).clockFlagged else s.reclocked day second := rfl

theorem setClock_others (day second : Nat) (s : State) : ∃ m n k, setClock day second s = { s.reclocked day second with
    meter := m, notices := n, link := k } := by
  rw [setClock_eq]
  split
  · obtain ⟨y, n, k, h, _⟩ := closeHour_others (s.reclocked day second).clockFlagged
    exact ⟨_, n, k, h⟩
  · exact ⟨s.meter, s.notices, s.link, rfl⟩

theorem setClock_within {day second : Nat} (hd : s.meter.hour.day = day) (hh : s.meter.hour.hour = second / 3600) :
    setClock day second s = s.reclocked day second := by
  have still : hourMoved (s.reclocked day second) = false := by
    simp [hourMoved, State.reclocked, Clock.hour, hd, hh]
  rw [setClock_eq, still, if_neg Bool.false_ne_true]

end

/-- DEFAULTS_RESTORE without SVCn (R178). -/
theorem takeDefaults_user {s : State} (h : s.pins.svc = false) : takeDefaults s =
    takeWith .ok (fun _ => [0]) (settingsRestored false s.settings { s with settings := { s.settings with user := {} } }) := by
  unfold takeDefaults
  rw [h]
  rfl

/-- DEFAULTS_RESTORE with SVCn (R178). -/
theorem takeDefaults_all {s : State} (h : s.pins.svc = true) : takeDefaults s =
    takeWith .ok (fun _ => [1]) (furtherItems (settingsRestored true s.settings { s with settings := {} })) := by
  unfold takeDefaults
  rw [h]
  rfl

/-- The further items of a restore with SVCn: the learned factors, the Fault Log, and every slot at its first-start values (R178). -/
theorem furtherItems_others (s : State) : ∃ p m, furtherItems s
    = { s with cap := (resetLearning .b (resetLearning .a s)).cap, pods := p, notices := m, faults := {} } ∧ ∀ n : Fin 8, p.slots.get n = {} := by
  have others : resetLearning .b (resetLearning .a s) = { s with cap := (resetLearning .b (resetLearning .a s)).cap } := rfl
  generalize hx : resetLearning .b (resetLearning .a s) = x
  obtain ⟨p, m, hp⟩ := emptyRoster_others x
  have slots := emptyRoster_slot x
  rw [hp] at slots
  refine ⟨p, m, ?_, slots⟩
  rw [furtherItems, hx, hp]
  rw [hx] at others
  rw [others]

theorem resetLearning_learned (k : Tank) (s : State) : ((resetLearning .b (resetLearning .a s)).record k).learned = 1000 := by cases k <;> rfl

/-- Settles O55: each clear and restore by what its owner's rule names. -/
theorem clearsAndRestores : Obligations.ClearsAndRestores := by
  intro svc tag s h w
  refine ⟨exec_answers rfl h trivial rfl, exec_answers rfl h trivial rfl, exec_answers rfl h trivial rfl, exec_answers rfl h trivial rfl,
    fun d t ht => exec_answers rfl h trivial (if_pos ht), fun d t ht => ?clock, fun hs => ?user, fun hs => ?all⟩
  case clock =>
    obtain ⟨m, n, k, hu⟩ := setClock_others d.toNat t.toNat w
    have clock : (follow (setClock d.toNat t.toNat w)).now = d.toNat * 86400 + t.toNat := by
      rw [State.now, follow_clock, hu]
      rfl
    refine ⟨setClock d.toNat t.toNat w, exec_answers rfl h trivial ?_, ?_, ?_, ?_, fun hd hh => ?_⟩
    · refine (if_neg (Nat.not_lt.2 ht)).trans ?_
      rw [takeWith, clock]
    · rw [hu]
      rfl
    · rw [hu]
      rfl
    · rw [hu]
      rfl
    · rw [setClock_within (s := w) hd hh]
      rfl
  case user =>
    let v : State := { w with settings := { s.settings with user := {} } }
    have owned := owned_settingsRestored v false s.settings
    refine ⟨settingsRestored false s.settings v, exec_answers rfl h trivial (takeDefaults_user hs), owned.settings, owned.pods, settingsRestored_meter _ v,
      fun hd => settingsRestored_brine _ rfl hd⟩
  case all =>
    let v : State := { w with settings := {} }
    have owned := owned_settingsRestored v true s.settings
    have salt (hd : s.disc.mode = .auto) : (settingsRestored true s.settings v).brine.salt = s.brine.salt := settingsRestored_salt _ rfl hd
    refine ⟨furtherItems (settingsRestored true s.settings v), exec_answers rfl h trivial (takeDefaults_all hs), ?_⟩
    generalize settingsRestored true s.settings v = r at owned salt ⊢
    obtain ⟨p, m, hp, slots⟩ := furtherItems_others r
    rw [hp]
    exact ⟨owned.settings, rfl, slots, fun k => resetLearning_learned k r, owned.totals, salt⟩

end Sys2Proof.Machine

/-! The settings table, and what the owners do with a new value: O53. -/

namespace Sys2Proof.Machine

set_option Elab.async false

/-! ### The table, read where it was not written (section 11.4) -/

section
variable {c d : Settings} {id j : Nat} {v : Int}

theorem get_of_user (h : d.user = c.user) (hj : 13 < j) : d.get j = c.get j := by
  unfold Settings.get
  split <;> first | rw [h] | rfl | exact absurd hj (by decide)

theorem get_of_not_soft (hi : d.inst = c.inst) (hf : d.user.filter = c.user.filter) (hl : d.user.leak = c.user.leak)
    (hs : d.user.salt = c.user.salt) (hj : j < 20 ∨ 35 < j) : d.get j = c.get j := by
  unfold Settings.get
  split <;> first | rw [hi] | rw [hf] | rw [hl] | rw [hs] | rfl | exact absurd hj (by decide)

theorem get_of_not_filter (hi : d.inst = c.inst) (hf : d.user.soft = c.user.soft) (hl : d.user.leak = c.user.leak)
    (hs : d.user.salt = c.user.salt) (hj : j < 40 ∨ 48 < j) : d.get j = c.get j := by
  unfold Settings.get
  split <;> first | rw [hi] | rw [hf] | rw [hl] | rw [hs] | rfl | exact absurd hj (by decide)

theorem get_of_not_leak (hi : d.inst = c.inst) (hf : d.user.soft = c.user.soft) (hl : d.user.filter = c.user.filter)
    (hs : d.user.salt = c.user.salt) (hj : j < 50 ∨ 71 < j) : d.get j = c.get j := by
  unfold Settings.get
  split <;> first | rw [hi] | rw [hf] | rw [hl] | rw [hs] | rfl | exact absurd hj (by decide)

theorem get_of_not_salt (hi : d.inst = c.inst) (hf : d.user.soft = c.user.soft) (hl : d.user.filter = c.user.filter)
    (hs : d.user.leak = c.user.leak) (hj : j < 80 ∨ 83 < j) : d.get j = c.get j := by
  unfold Settings.get
  split <;> first | rw [hi] | rw [hf] | rw [hl] | rw [hs] | rfl | exact absurd hj (by decide)

/-- Writing a setting leaves every other one alone, within the installer settings. -/
theorem put_inst_get (h1 : 1 ≤ id) (h2 : id ≤ 13) (hj : j ≠ id) : (c.put id v).get j = c.get j := by
  by_cases h : 13 < j
  · refine get_of_user ?_ h
    interval_cases id <;> rfl
  · have le : j ≤ 13 := Nat.not_lt.1 h
    interval_cases id <;> interval_cases j <;> first | rfl | exact absurd rfl hj

theorem put_soft_get (h1 : 20 ≤ id) (h2 : id ≤ 35) (hj : j ≠ id) : (c.put id v).get j = c.get j := by
  by_cases h : j < 20 ∨ 35 < j
  · refine get_of_not_soft ?_ ?_ ?_ ?_ h
    all_goals interval_cases id <;> rfl
  · obtain ⟨lo, hi⟩ := not_or.1 h
    have ge : 20 ≤ j := Nat.not_lt.1 lo
    have le : j ≤ 35 := Nat.not_lt.1 hi
    interval_cases id <;> interval_cases j <;> first | rfl | exact absurd rfl hj

theorem put_filter_get (h1 : 40 ≤ id) (h2 : id ≤ 48) (hj : j ≠ id) : (c.put id v).get j = c.get j := by
  by_cases h : j < 40 ∨ 48 < j
  · refine get_of_not_filter ?_ ?_ ?_ ?_ h
    all_goals interval_cases id <;> rfl
  · obtain ⟨lo, hi⟩ := not_or.1 h
    have ge : 40 ≤ j := Nat.not_lt.1 lo
    have le : j ≤ 48 := Nat.not_lt.1 hi
    interval_cases id <;> interval_cases j <;> first | rfl | exact absurd rfl hj

theorem put_leak_get (h1 : 50 ≤ id) (h2 : id ≤ 71) (hj : j ≠ id) : (c.put id v).get j = c.get j := by
  by_cases h : j < 50 ∨ 71 < j
  · refine get_of_not_leak ?_ ?_ ?_ ?_ h
    all_goals interval_cases id <;> rfl
  · obtain ⟨lo, hi⟩ := not_or.1 h
    have ge : 50 ≤ j := Nat.not_lt.1 lo
    have le : j ≤ 71 := Nat.not_lt.1 hi
    interval_cases id <;> interval_cases j <;> first | rfl | exact absurd rfl hj

theorem put_salt_get (h1 : 80 ≤ id) (h2 : id ≤ 83) (hj : j ≠ id) : (c.put id v).get j = c.get j := by
  by_cases h : j < 80 ∨ 83 < j
  · refine get_of_not_salt ?_ ?_ ?_ ?_ h
    all_goals interval_cases id <;> rfl
  · obtain ⟨lo, hi⟩ := not_or.1 h
    have ge : 80 ≤ j := Nat.not_lt.1 lo
    have le : j ≤ 83 := Nat.not_lt.1 hi
    interval_cases id <;> interval_cases j <;> first | rfl | exact absurd rfl hj

/-! ### The range of a setting (R175) -/

variable {row : SettingRow}

/-- A value in the range of a row. -/
def SettingRow.Admits (r : SettingRow) (n : Int) : Prop := (r.lo ≤ n ∧ n ≤ r.hi) ∨ (r.orZero = true ∧ n = 0)

/-- Where the rows of the table stand (section 11.4). -/
theorem settingRow_range (h : settingRow id = some row) : row.lo ≤ row.hi ∧ (row.orZero = true → 0 < row.lo)
    ∧ ((1 ≤ id ∧ id ≤ 13) ∨ (20 ≤ id ∧ id ≤ 35) ∨ (40 ≤ id ∧ id ≤ 48) ∨ (50 ≤ id ∧ id ≤ 71) ∨ (80 ≤ id ∧ id ≤ 83)) := by
  unfold settingRow at h
  split at h <;> cases h <;> exact of_decide_eq_true rfl

theorem put_get_other (h : settingRow id = some row) (hj : j ≠ id) : (c.put id v).get j = c.get j := by
  obtain ⟨-, -, ⟨lo, hi⟩ | ⟨lo, hi⟩ | ⟨lo, hi⟩ | ⟨lo, hi⟩ | ⟨lo, hi⟩⟩ := settingRow_range h
  · exact put_inst_get lo hi hj
  · exact put_soft_get lo hi hj
  · exact put_filter_get lo hi hj
  · exact put_leak_get lo hi hj
  · exact put_salt_get lo hi hj

theorem clamp_within (hlo : row.lo ≤ v) (hhi : v ≤ row.hi) (hz : row.orZero = true → 0 < row.lo) : row.clamp v = v := by
  have pos : ¬ ((row.orZero && decide (v ≤ 0)) = true) := by
    rw [Bool.and_eq_true, decide_eq_true_eq]
    exact fun ⟨ho, hv⟩ => absurd (hz ho) (by omega)
  rw [SettingRow.clamp, if_neg pos, if_neg (by omega), if_neg (by omega)]

theorem clamp_above (hle : row.lo ≤ row.hi) (hhi : row.hi < v) (hz : row.orZero = true → 0 < row.lo) : row.clamp v = row.hi := by
  have pos : ¬ ((row.orZero && decide (v ≤ 0)) = true) := by
    rw [Bool.and_eq_true, decide_eq_true_eq]
    exact fun ⟨ho, hv⟩ => absurd (hz ho) (by omega)
  rw [SettingRow.clamp, if_neg pos, if_neg (by omega), if_pos hhi]

theorem clamp_below (hlo : v < row.lo) (hv : row.orZero = true → 0 < v) : row.clamp v = row.lo := by
  have pos : ¬ ((row.orZero && decide (v ≤ 0)) = true) := by
    rw [Bool.and_eq_true, decide_eq_true_eq]
    exact fun ⟨ho, h⟩ => absurd (hv ho) (by omega)
  rw [SettingRow.clamp, if_neg pos, if_pos hlo]

theorem clamp_zero (ho : row.orZero = true) (hv : v ≤ 0) : row.clamp v = 0 := by
  rw [SettingRow.clamp, if_pos (by rw [ho, decide_eq_true hv]; rfl)]

theorem clamp_admitted (hle : row.lo ≤ row.hi) (hz : row.orZero = true → 0 < row.lo) (v : Int) : row.Admits (row.clamp v) := by
  by_cases h0 : row.orZero = true ∧ v ≤ 0
  · exact .inr ⟨h0.1, clamp_zero h0.1 h0.2⟩
  · refine .inl ?_
    have pos : row.orZero = true → 0 < v := fun ho => Int.not_le.1 fun hv => h0 ⟨ho, hv⟩
    by_cases hlo : v < row.lo
    · rw [clamp_below hlo pos]
      exact ⟨Int.le_refl _, hle⟩
    · by_cases hhi : row.hi < v
      · rw [clamp_above hle hhi hz]
        exact ⟨hle, Int.le_refl _⟩
      · rw [clamp_within (Int.not_lt.1 hlo) (Int.not_lt.1 hhi) hz]
        exact ⟨Int.not_lt.1 hlo, Int.not_lt.1 hhi⟩

/-- A value in range is read back (R175). -/
theorem put_get_same (h : settingRow id = some row) {n : Int} (hn : row.Admits n) : (c.put id n).get id = n := by
  have number (hlo : 0 ≤ n) : ((n.toNat : Nat) : Int) = n := Int.toNat_of_nonneg hlo
  have bit {f : Int → Nat} (h0 : f 0 = 0) (h1 : f 1 = 1) (hb : n = 0 ∨ n = 1) : ((f n : Nat) : Int) = n := by
    rcases hb with rfl | rfl
    · rw [h0]
      rfl
    · rw [h1]
      rfl
  have mode (hb : n = 0 ∨ n = 1 ∨ n = 2) : ((leakModeCode (leakModeOf n) : Nat) : Int) = n := by
    rcases hb with rfl | rfl | rfl <;> rfl
  unfold settingRow at h
  split at h <;> cases h <;> simp only [SettingRow.Admits, SettingRow.inst, SettingRow.user, Bool.false_eq_true, false_and, or_false, true_and] at hn
  all_goals first
    | exact number (by omega)
    | exact bit (f := fun n => markCode (n == 1)) rfl rfl (by omega)
    | exact bit (f := fun n => timingCode (timingOf n)) rfl rfl (by omega)
    | exact bit (f := fun n => discModeCode (discModeOf n)) rfl rfl (by omega)
    | exact bit (f := fun n => leakActionCode (leakActionOf n)) rfl rfl (by omega)
    | exact bit (f := fun n => lowBatteryCode (lowBatteryOf n)) rfl rfl (by omega)
    | exact mode (by omega)
    | rfl

end

/-! ### GET and SET (R175) -/

section
variable {s u : State} {svc : Bool} {tag id : Byte} {v : BitVec 32} {row : SettingRow}

theorem takeGet_unknown (h : settingRow id.toNat = none) : takeGet id s = refuse .badId s := by
  unfold takeGet
  rw [h]

theorem takeGet_known (h : settingRow id.toNat = some row) : takeGet id s = readOnly (settingBody id) s := by
  unfold takeGet
  rw [h]

theorem takeSet_unknown (h : settingRow id.toNat = none) : takeSet id v s = refuse .badId s := by
  unfold takeSet
  rw [h]

theorem takeSet_locked (h : settingRow id.toNat = some row) (hi : row.installer = true) (hs : s.pins.svc = false) :
    takeSet id v s = refuse .locked s := by
  unfold takeSet
  rw [h]
  exact if_pos (by rw [hi, hs]; rfl)

/-- A SET that its owner tests (R175 step 4). -/
theorem takeSet_tested (h : settingRow id.toNat = some row) (hi : row.installer = false ∨ s.pins.svc = true) :
    takeSet id v s = match setRefusal id.toNat (row.clamp v.toInt) s with
      | some r => notNow r s
      | none => takeWith (if row.clamp v.toInt = v.toInt then .ok else .clamped) (settingBody id)
        (settingTaken id.toNat (s.settings.get id.toNat != row.clamp v.toInt)
          { s with settings := s.settings.put id.toNat (row.clamp v.toInt) }) := by
  have free : ¬ ((row.installer && !s.pins.svc) = true) := by
    rcases hi with hi | hi <;> simp [hi]
  unfold takeSet
  rw [h]
  exact if_neg free

/-- The state with a setting's value in the table, as its owner finds it (R175 step 5). -/
def State.withSetting (id : Nat) (n : Int) (s : State) : State := { s with settings := s.settings.put id n }

/-- What a SET that is taken answers (R175). -/
def setAnswer (id : Byte) (n : Int) (v : BitVec 32) : Answered :=
  { status := if n = v.toInt then .ok else .clamped, body := id :: signedField 4 n }

theorem takeSet_taken (h : settingRow id.toNat = some row) (hi : row.installer = false ∨ s.pins.svc = true)
    (hr : setRefusal id.toNat (row.clamp v.toInt) s = none)
    (hu : settingTaken id.toNat (s.settings.get id.toNat != row.clamp v.toInt) (s.withSetting id.toNat (row.clamp v.toInt)) = u) :
    takeSet id v s = (follow u, setAnswer id (row.clamp v.toInt) v) := by
  obtain ⟨hle, hz, -⟩ := settingRow_range h
  have settings : u.settings = s.settings.put id.toNat (row.clamp v.toInt) := by
    rw [← hu, (owned_settingTaken _ _ _).settings]
    rfl
  have value : (follow u).settings.get id.toNat = row.clamp v.toInt := by
    rw [follow_settings, settings]
    exact put_get_same h (clamp_admitted hle hz _)
  have body : settingBody id (follow u) = id :: signedField 4 (row.clamp v.toInt) := by rw [settingBody, value]; rfl
  rw [takeSet_tested h hi, hr]
  show takeWith _ _ (settingTaken _ _ (s.withSetting _ _)) = _
  rw [hu, takeWith, body]
  rfl

theorem takeSet_refused {r : NotNow} (h : settingRow id.toNat = some row) (hi : row.installer = false ∨ s.pins.svc = true)
    (hr : setRefusal id.toNat (row.clamp v.toInt) s = some r) : takeSet id v s = notNow r s := by
  rw [takeSet_tested h hi, hr]

/-- Only a resin volume is tested by its owner (R175 step 4). -/
theorem setRefusal_untested {k : Nat} (h : k ≠ 1) (h' : k ≠ 2) (n : Int) (s : State) : setRefusal k n s = none := by
  have no : vrTank k = none := by
    unfold vrTank
    split
    · exact absurd rfl h
    · exact absurd rfl h'
    · rfl
  unfold setRefusal
  rw [no]

/-- A setting that no owner acts on (R175). -/
theorem settingTaken_idle {k : Nat} (h : k ∉ [1, 2, 3, 4, 5, 8, 10, 20, 21, 22, 35, 40, 41, 50, 51, 69, 81]) (c : Bool) (s : State) :
    settingTaken k c s = s := by
  unfold settingTaken
  dsimp only
  split
  case h_18 => rfl
  all_goals exact absurd (by decide) h

/-- The owners that act only on a new value (R175). -/
theorem settingTaken_same {k : Nat} (h : k ∈ [3, 4, 5, 8, 10, 40, 41, 50, 81]) (s : State) : settingTaken k false s = s := by
  simp only [List.mem_cons, List.not_mem_nil, or_false] at h
  rcases h with rfl | rfl | rfl | rfl | rfl | rfl | rfl | rfl | rfl <;> rfl

end

/-! ### What each owner makes of a new value (R175) -/

section
variable {s : State}

theorem FaultLog.gone_inactive {l : FaultLog} {c : FaultCode} {u : Subject} : ∀ r ∈ (l.gone c u).records, r.code = c → r.subject = u →
    r.active = false := by
  intro r hr hc hu
  obtain ⟨x, _, rfl⟩ := List.mem_map.1 hr
  by_cases hx : x.isFor c u = true
  · rw [if_pos hx]
  · rw [if_neg hx] at hc hu
    exact absurd (by simp [FaultRecord.isFor, hc, hu]) hx

theorem FaultLog.gone_stays {l : FaultLog} {c d : FaultCode} {u w : Subject}
    (h : ∀ r ∈ l.records, r.code = c → r.subject = u → r.active = false) :
    ∀ r ∈ (l.gone d w).records, r.code = c → r.subject = u → r.active = false := by
  intro r hr hc hu
  obtain ⟨x, hx, rfl⟩ := List.mem_map.1 hr
  by_cases hi : x.isFor d w = true
  · rw [if_pos hi]
  · rw [if_neg hi] at hc hu ⊢
    exact h x hx hc hu

/-- The Fault Log when the probes' faults are reported gone (R37). -/
def depthGone (f : PerTank Bool) (l : FaultLog) : FaultLog :=
  let a := if f.get .a then l.gone .bedProbe (.tank .a) else l
  if f.get .b then a.gone .bedProbe (.tank .b) else a

theorem depthGone_inactive {f : PerTank Bool} {l : FaultLog} {k : Tank} (h : f.get k = true) :
    ∀ r ∈ (depthGone f l).records, r.code = .bedProbe → r.subject = .tank k → r.active = false := by
  unfold depthGone
  dsimp only
  cases k
  · rw [if_pos h]
    split
    · exact FaultLog.gone_stays FaultLog.gone_inactive
    · exact FaultLog.gone_inactive
  · rw [if_pos h]
    exact FaultLog.gone_inactive

/-- A probe fault reported gone (R37). -/
theorem probeFaultGone_eq (k : Tank) (s : State) : probeFaultGone k s = { s with
    cap := { s.cap with probeFault := s.cap.probeFault.set k false }
    faults := if s.cap.probeFault.get k then s.faults.gone .bedProbe (.tank k) else s.faults } := by
  unfold probeFaultGone
  by_cases h : s.cap.probeFault.get k = true
  · rw [if_pos h, if_pos h]
    rfl
  · have same : s.cap.probeFault.set k false = s.cap.probeFault := by
      rw [← Bool.eq_false_iff.2 h]
      cases k <;> rfl
    rw [if_neg h, if_neg h, same]

/-- Without the probe its faults end (R37). -/
theorem probeDepthChanged_unfitted (h : s.settings.inst.probeDepth = 0) : probeDepthChanged s = { s with
    cap := { s.cap with runs := ⟨0, 0⟩, probeFault := ⟨false, false⟩ }, faults := depthGone s.cap.probeFault s.faults } := by
  unfold probeDepthChanged
  dsimp only
  rw [if_pos h, probeFaultGone_eq .a, probeFaultGone_eq .b]
  rfl

/-- The salt state by mass, without the sensor (R102). -/
theorem setSalt_others (n : SaltState) (s : State) : ∃ b m, setSalt n s = { s with brine := b, notices := m } ∧ b.salt = n
    ∧ b.inventory = s.brine.inventory ∧ b.saltFault = s.brine.saltFault := by
  unfold setSalt
  dsimp only
  split
  next h => exact ⟨s.brine, s.notices, rfl, h, rfl, rfl⟩
  next =>
    split
    · exact ⟨_, _, rfl, rfl, rfl, rfl⟩
    · exact ⟨_, _, rfl, rfl, rfl, rfl⟩

theorem evaluateSaltMass_unfitted (h : s.settings.inst.sensorFitted = false) : ∃ b m, evaluateSaltMass s = { s with brine := b, notices := m }
    ∧ b.salt = saltByMass s.brine.salt s.brine.inventory s.settings.user.salt.lowKg ∧ b.inventory = s.brine.inventory
    ∧ b.saltFault = s.brine.saltFault := by
  rw [evaluateSaltMass, if_neg (by rw [h]; exact Bool.false_ne_true)]
  exact setSalt_others _ s

theorem evaluateSaltMass_fitted (h : s.settings.inst.sensorFitted = true) : evaluateSaltMass s = s := if_pos h

/-- Without the sensor its fault ends, and the salt state goes by the mass (R92, R102). -/
theorem sensorFittedChanged_unfitted (h : s.settings.inst.sensorFitted = false) : ∃ b m, sensorFittedChanged s = { s with
      brine := b, notices := m, faults := if s.brine.saltFault = true then s.faults.gone .saltSensor .none else s.faults }
    ∧ b.salt = saltByMass s.brine.salt s.brine.inventory s.settings.user.salt.lowKg ∧ b.inventory = s.brine.inventory
    ∧ b.saltFault = false := by
  unfold sensorFittedChanged
  rw [if_neg (by rw [h]; exact Bool.false_ne_true)]
  by_cases hf : s.brine.saltFault = true
  · rw [if_pos hf, if_pos hf]
    exact evaluateSaltMass_unfitted (s := faultGone .saltSensor .none { s with brine := { s.brine with saltFault := false } }) h
  · rw [if_neg hf, if_neg hf]
    obtain ⟨b, m, hb, salt, inventory, fault⟩ := evaluateSaltMass_unfitted h
    exact ⟨b, m, hb, salt, inventory, fault.trans (Bool.eq_false_iff.2 hf)⟩

theorem forecastReminder_others (s : State) : ∃ b m, forecastReminder s = { s with brine := b, notices := m } ∧ b.salt = s.brine.salt
    ∧ b.inventory = s.brine.inventory := by
  unfold forecastReminder
  dsimp only
  repeat' split
  all_goals exact ⟨_, _, rfl, rfl, rfl⟩

/-- The inventory brought down to a new capacity (R99). -/
theorem capacityClamp_over (h : s.settings.inst.saltCapacity * 1000 < s.brine.inventory) : ∃ b m,
    capacityClamp s = { s with brine := b, notices := m } ∧ b.inventory = s.settings.inst.saltCapacity * 1000
    ∧ b.salt = (if s.settings.inst.sensorFitted = true then s.brine.salt
      else saltByMass s.brine.salt (s.settings.inst.saltCapacity * 1000) s.settings.user.salt.lowKg) := by
  have clamped : min s.brine.inventory (saltCapacity s) = s.settings.inst.saltCapacity * 1000 := Nat.min_eq_right (Nat.le_of_lt h)
  unfold capacityClamp inventoryChanged
  rw [clamped, if_neg (Nat.ne_of_lt h)]
  generalize hv : ({ s with brine := { s.brine with inventory := s.settings.inst.saltCapacity * 1000 } } : State) = v
  have settings : v.settings = s.settings := by rw [← hv]
  have salt : v.brine.salt = s.brine.salt := by rw [← hv]
  have inventory : v.brine.inventory = s.settings.inst.saltCapacity * 1000 := by rw [← hv]
  obtain ⟨b, m, hb, hs, hi⟩ := forecastReminder_others (evaluateSaltMass v)
  have others := (brining_evaluateSaltMass v).others
  refine ⟨b, m, ?_, ?_, ?_⟩
  · rw [hb, others, ← hv]
  · rw [hi]
    by_cases hf : s.settings.inst.sensorFitted = true
    · rw [evaluateSaltMass_fitted (by rw [settings, hf]), inventory]
    · obtain ⟨b', m', hb', -, inv, -⟩ := evaluateSaltMass_unfitted (s := v) (by rw [settings]; exact Bool.eq_false_iff.2 hf)
      rw [hb', inv, inventory]
  · rw [hs]
    by_cases hf : s.settings.inst.sensorFitted = true
    · rw [evaluateSaltMass_fitted (by rw [settings, hf]), salt, if_pos hf]
    · obtain ⟨b', m', hb', salted, -, -⟩ := evaluateSaltMass_unfitted (s := v) (by rw [settings]; exact Bool.eq_false_iff.2 hf)
      rw [hb', salted, salt, inventory, settings, if_neg hf]

theorem capacityClamp_within (h : s.brine.inventory ≤ s.settings.inst.saltCapacity * 1000) : capacityClamp s = s := by
  have clamped : min s.brine.inventory (saltCapacity s) = s.brine.inventory := Nat.min_eq_left h
  unfold capacityClamp inventoryChanged
  rw [clamped]
  exact if_pos rfl

/-- The filter state evaluated (R111). -/
theorem filterEvaluate_others (h : s.filter.state ≠ .flushing) : ∃ f m, filterEvaluate s = { s with filter := f, notices := m }
    ∧ f.state = evaluatedState s.filter s.settings.user.filter := by
  rw [filterEvaluate, if_neg h, filterEvaluateNow, setFilter_others]
  exact ⟨_, _, rfl, rfl⟩

end

end Sys2Proof.Machine

/-! A new disc mode and a new resin volume as the sequencer takes them, and O53. -/

namespace Sys2Proof.Machine

set_option Elab.async false

/-! ### The tank records after the sequencer's small operations -/

section
variable {s t u : State} {k : Tank}

theorem withTank_withTank (s : State) (k : Tank) (r r' : TankRecord) : (s.withTank k r).withTank k r' = s.withTank k r' := by cases k <;> rfl

theorem withTank_tank_ne {j : Tank} (h : j ≠ k) (r : TankRecord) (s : State) : (s.withTank k r).tank j = s.tank j := by
  rw [withTank_tank, if_neg h]

/-- A tank record whose pending claim is withdrawn (R69). -/
def TankRecord.withdrawn (r : TankRecord) : TankRecord := if r.claim = .pending then { r with claim := .none } else r

theorem TankRecord.withdrawn_service (r : TankRecord) : r.withdrawn.service = r.service := by
  unfold withdrawn
  split <;> rfl

theorem TankRecord.withdrawn_claim (r : TankRecord) : r.withdrawn.claim ≠ .pending := by
  unfold withdrawn
  split
  · exact nofun
  · assumption

theorem withdrawRegen_others (k : Tank) (s : State) :
    ∃ e, withdrawRegen k s = { s.withTank k (s.tank k).withdrawn with line := { s.line with regen := e } } := by
  have claim (v : State) : (if (v.tank k).claim = .pending then v.withTank k { v.tank k with claim := .none } else v)
      = v.withTank k (v.tank k).withdrawn := by
    unfold TankRecord.withdrawn
    split
    · rfl
    · exact (withTank_self k v).symm
  unfold withdrawRegen
  dsimp only
  split
  · split
    · exact ⟨none, claim { s with line := { s.line with regen := none } }⟩
    · exact ⟨s.line.regen, claim s⟩
  · exact ⟨s.line.regen, claim s⟩

theorem Deferral.add_has {d : Deferral} {r : DeferReason} (h : d.has r = true) : d.add r = d := by
  obtain ⟨a, b, c, e, f, g, i⟩ := d
  cases r <;> cases h <;> rfl

theorem defer_others (k : Tank) (r : DeferReason) (s : State) :
    ∃ m, defer k r s = { s.withTank k { s.tank k with deferral := (s.tank k).deferral.add r } with notices := m } := by
  unfold defer
  dsimp only
  split
  next h =>
    rw [Deferral.add_has h, withTank_self]
    exact ⟨s.notices, rfl⟩
  next => exact ⟨_, rfl⟩

/-! ### MANUAL (R54, R82) -/

/-- A tank told that the effective mode has become MANUAL (R82). -/
def manualTold (k : Tank) (s : State) : State :=
  if ((withdrawRegen k s).tank k).service = .exhausted then defer k .manual (withdrawRegen k s) else withdrawRegen k s

theorem manualReported_eq (s : State) : manualReported s = manualTold .b (manualTold .a s) := rfl

/-- A tank's record once MANUAL has been reported (R82). -/
structure ManualTold (r r' : TankRecord) : Prop where
  service : r'.service = r.service
  claim : r'.claim ≠ .pending
  manual : r.service = .exhausted → r'.deferral.manual = true

theorem manualTold_tank (k : Tank) (s : State) : ManualTold (s.tank k) ((manualTold k s).tank k)
    ∧ (∀ j, j ≠ k → (manualTold k s).tank j = s.tank j) ∧ (manualTold k s).disc = s.disc := by
  obtain ⟨e, he⟩ := withdrawRegen_others k s
  have record : (withdrawRegen k s).tank k = (s.tank k).withdrawn := by
    rw [he]
    exact withTank_tank_same s k _
  have other (j : Tank) (hj : j ≠ k) : (withdrawRegen k s).tank j = s.tank j := by
    rw [he]
    exact withTank_tank_ne hj _ s
  have disc : (withdrawRegen k s).disc = s.disc := (withdrawRegen_brine k s).2
  unfold manualTold
  split
  next h =>
    obtain ⟨m, hm⟩ := defer_others k .manual (withdrawRegen k s)
    have deferred : (defer k .manual (withdrawRegen k s)).tank k
        = { (s.tank k).withdrawn with deferral := (s.tank k).withdrawn.deferral.add .manual } := by
      rw [hm, ← record]
      exact withTank_tank_same _ k _
    refine ⟨?_, fun j hj => ?_, ?_⟩
    · rw [deferred]
      exact ⟨TankRecord.withdrawn_service _, TankRecord.withdrawn_claim _, fun _ => rfl⟩
    · rw [← other j hj, hm]
      exact withTank_tank_ne hj _ _
    · rw [← disc, hm]
      rfl
  next h =>
    rw [record, TankRecord.withdrawn_service] at h
    refine ⟨?_, other, disc⟩
    rw [record]
    exact ⟨TankRecord.withdrawn_service _, TankRecord.withdrawn_claim _, fun hs => absurd hs h⟩

theorem manualReported_tank (s : State) : (∀ k, ManualTold (s.tank k) ((manualReported s).tank k)) ∧ (manualReported s).disc = s.disc := by
  obtain ⟨ha, ha', hda⟩ := manualTold_tank .a s
  obtain ⟨hb, hb', hdb⟩ := manualTold_tank .b (manualTold .a s)
  rw [manualReported_eq]
  refine ⟨fun k => ?_, hdb.trans hda⟩
  cases k
  · rw [hb' .a (by decide)]
    exact ha
  · rw [ha' .b (by decide)] at hb
    exact hb

/-! ### AUTO (R54, R82) -/

/-- What keeps the disc in AUTO: with the mode setting at AUTO no operation of the sequencer and the arbiter changes the mode (R54). -/
structure Driven (s t : State) : Prop where
  settings : t.settings = s.settings
  mode : s.settings.user.soft.discMode = .auto → t.disc.mode = s.disc.mode

theorem Driven.refl (s : State) : Driven s s := ⟨rfl, fun _ => rfl⟩

theorem Driven.trans (h : Driven s t) (h' : Driven t u) : Driven s u :=
  ⟨h'.settings.trans h.settings, fun ha => (h'.mode (by rw [h.settings, ha])).trans (h.mode ha)⟩

theorem Driven.of_disc (hs : t.settings = s.settings) (hd : t.disc = s.disc) : Driven s t := ⟨hs, fun _ => by rw [hd]⟩

/-- A change that leaves the settings and the disc alone, and then what keeps the disc in AUTO. -/
theorem Driven.before (h : Driven t u) (hs : t.settings = s.settings) (hd : t.disc = s.disc) : Driven s u := (Driven.of_disc hs hd).trans h

theorem Driven.after (h : Driven s t) (hs : u.settings = t.settings) (hd : u.disc = t.disc) : Driven s u := h.trans (.of_disc hs hd)

theorem Driven.ite {c : Prop} [Decidable c] {a b : State} (ha : Driven s a) (hb : Driven s b) : Driven s (if c then a else b) := by
  split
  · exact ha
  · exact hb

theorem driven_applyManual (s : State) : Driven s (applyManual s) := by
  refine ⟨(sequenced_applyManual s).settings, fun ha => ?_⟩
  have no : ¬ (s.settings.user.soft.discMode = .manual ∧ s.disc.mode = .auto ∧ s.disc.state = .atPosition ∧ s.seq.changeover = none) :=
    fun h => by rw [ha] at h; cases h.1
  rw [applyManual, if_neg no]

theorem driven_discRequest (p : Pos) (s : State) : Driven s (discRequest p s) := by
  unfold discRequest
  split
  · exact .refl s
  · exact ⟨rfl, fun _ => rfl⟩
  · exact ⟨rfl, fun _ => rfl⟩

theorem driven_changeTank (k : Tank) (r : TankRecord) (s : State) : Driven s (changeTank k r s) :=
  .of_disc (changeTank_settings k r s) (changeTank_disc k r s)

theorem driven_requestDoneIf (j : Subject) (g : Option Byte) (x : Nat) (o : DoneOutcome) (v : Int) (s : State) :
    Driven s (requestDoneIf j g x o v s) := by
  rw [requestDoneIf_others]
  exact .of_disc rfl rfl

theorem Brining.driven (h : Brining s t) : Driven s t := by
  rw [h.others]
  exact .of_disc rfl rfl

theorem driven_enterOtherStep (k : Tank) (p : Step) (s : State) : Driven s (enterOtherStep k p s) := by
  unfold enterOtherStep
  dsimp only
  refine Driven.trans ?_ (brining_stepStarted k p _).driven
  exact Driven.trans (.ite (brining_brineEnd s).driven (.refl s)) (driven_changeTank k _ _)

theorem driven_stepArrival (k : Tank) (p : Step) (s : State) : Driven s (stepArrival k p s) := by
  unfold stepArrival
  dsimp only
  exact .ite (.ite ((driven_changeTank k _ s).trans (brining_stepStarted k p _).driven) (driven_changeTank k _ s)) (driven_enterOtherStep k p s)

theorem driven_askStepMove (k : Tank) (p : Step) (s : State) : Driven s (askStepMove k p s) := by
  unfold askStepMove
  dsimp only
  exact .ite (((driven_discRequest _ s).trans (driven_stepArrival k p _)).trans (driven_applyManual _)) (driven_discRequest _ s)

theorem driven_grantRegen (e : RegenEntry) (s : State) : Driven s (grantRegen e s) := by
  have entered : Driven s { s with line := { s.line with regen := some { e with granted := true } } } := .of_disc rfl rfl
  unfold grantRegen
  dsimp only
  exact .ite ((entered.trans (driven_changeTank e.tank _ _)).trans (driven_askStepMove e.tank .backwash _)) (.of_disc rfl rfl)

theorem driven_flushStart (s : State) : Driven s (flushStart s) := by
  obtain ⟨n, h⟩ := flushStart_others s
  rw [h]
  exact .of_disc rfl rfl

theorem driven_addReason (n : Reason) (s : State) : Driven s (addReason n s) := by
  refine .of_disc (latches_addReason n s).settings ?_
  rw [(valves_addReason n s).disc]
  rfl

theorem driven_grantDecision (s : State) : Driven s (grantDecision s) := by
  unfold grantDecision
  repeat' split
  · exact .refl s
  · exact driven_grantRegen _ s
  · exact (driven_flushStart _).before rfl rfl
  · unfold grantTest
    dsimp only
    repeat' split
    · exact (driven_addReason .test _).before rfl rfl
    · exact (driven_flushStart _).before rfl rfl
    · exact .of_disc rfl rfl
  · exact .refl s

theorem driven_changeArrival (k : Tank) (s : State) : Driven s (changeArrival k s) :=
  Driven.trans (driven_changeTank k.other _ s) (.of_disc rfl rfl)

theorem driven_changeoverBegin (s : State) : Driven s (changeoverBegin s) := by
  unfold changeoverBegin
  split
  · exact .refl s
  next t _ =>
    have begun : Driven s { s with seq := { s.seq with changeover := some { outgoing := t, phase := .toChange, dwell := 0 }, due := none } } :=
      .of_disc rfl rfl
    dsimp only
    exact .ite (.ite ((begun.trans (driven_discRequest _ _)).trans (driven_changeArrival t _)) (begun.trans (driven_discRequest _ _))) (.refl s)

theorem driven_withdrawRegen (k : Tank) (s : State) : Driven s (withdrawRegen k s) := .of_disc (sequenced_withdrawRegen k s).settings (withdrawRegen_brine k s).2

theorem driven_askProjection (k : Tank) (s : State) : Driven s (askProjection k s) := by
  unfold askProjection
  dsimp only
  repeat' split
  all_goals exact .of_disc rfl rfl

theorem driven_releaseRegen (s : State) : Driven s (releaseRegen s) :=
  .ite ((driven_grantDecision _).before rfl rfl) (.refl s)

/-- The tank READY at the end of its regeneration (R75). -/
def State.regenReady (k : Tank) (s : State) : State :=
  changeTank k { s.tank k with service := .ready, step := none, phase := none, halt := false, elapsed := 0, elapsedMin := 0 } s

/-- The credit and the salt of a regeneration that has ended (R26, R98). -/
def State.regenCredited (k : Tank) (s : State) : State := brineRegenEnd (creditTank k (brineFactor s) s)

/-- The grant released, and a claim withdrawn, at the end of a regeneration (R88). -/
def State.regenReleased (k : Tank) (c : Claim) (s : State) : State :=
  releaseRegen (withdrawRegen k (s.withTank k { s.tank k with claim := if c = .granted then .none else c }))

/-- The end of a regeneration told, and its tag answered (R75, R77). -/
def State.regenTold (k : Tank) (tag : Option Byte) (credited b grams : Nat) (s : State) : State :=
  let s4 := post .regenDone (.tank k) credited b grams s
  requestDoneIf (.tank k) tag kindTankCmd .done 0 (s4.withTank k { s4.tank k with regenTag := none })

/-- The end of a regeneration, part by part (R75). -/
theorem regenEnd_eq (k : Tank) (s : State) : regenEnd k s = changeoverBegin
    ((((s.regenReady k).regenCredited k).regenReleased k (s.tank k).claim).regenTold k (s.tank k).regenTag
      (((s.regenReady k).regenCredited k).record k).credited (brineFactor (s.regenReady k)) (saltUsed (s.regenReady k))) := rfl

theorem driven_regenEnd (k : Tank) (s : State) : Driven s (regenEnd k s) := by
  have credited (v : State) : Driven v (v.regenCredited k) := (brining_brineRegenEnd (creditTank k (brineFactor v) v)).driven.before rfl rfl
  have released (c : Claim) (v : State) : Driven v (v.regenReleased k c) :=
    ((driven_withdrawRegen k _).trans (driven_releaseRegen _)).before rfl rfl
  have told (g : Option Byte) (x b m : Nat) (v : State) : Driven v (v.regenTold k g x b m) :=
    (driven_requestDoneIf _ _ _ _ _ _).before rfl rfl
  rw [regenEnd_eq]
  exact ((((driven_changeTank k _ s).trans (credited _)).trans (released _ _)).trans (told _ _ _ _ _)).trans (driven_changeoverBegin _)

/-- The outgoing tank EXHAUSTED at its HOLD position, the changeover over (R64). -/
def State.holdReached (k : Tank) (s : State) : State :=
  let s1 := changeTank k { s.tank k with service := .exhausted } (clearRun k s)
  { s1 with seq := { s1.seq with changeover := none } }

/-- The end of a changeover told, and its tag answered (R64, R78). -/
def State.holdTold (k : Tank) (dwell : Nat) (s : State) : State :=
  let s3 := post2 .changeoverDone (.tank k.other) (s.record k).remaining dwell s
  requestDoneIf (.tank k) (s3.tank k).changeTag kindTankCmd .done 0 (s3.withTank k { s3.tank k with changeTag := none })

theorem holdArrival_eq (k : Tank) (d : Nat) (s : State) : holdArrival k d s = askProjection k ((s.holdReached k).holdTold k d) := rfl

theorem driven_holdArrival (k : Tank) (d : Nat) (s : State) : Driven s (holdArrival k d s) := by
  have reached : Driven s (s.holdReached k) :=
    ((driven_changeTank k { s.tank k with service := .exhausted } (clearRun k s)).before (s := s) rfl rfl).after rfl rfl
  have told (v : State) : Driven v (v.holdTold k d) := (driven_requestDoneIf _ _ _ _ _ _).before rfl rfl
  rw [holdArrival_eq]
  exact (reached.trans (told _)).trans (driven_askProjection k _)

theorem driven_commission (p : Pos) (s : State) : Driven s (commission p s) := .ite (driven_changeTank _ _ s) (.refl s)

theorem driven_sequencerArrival (p : Pos) (s : State) : Driven s (sequencerArrival p s) := by
  unfold sequencerArrival
  repeat' split
  · exact driven_changeArrival _ s
  · exact .refl s
  · exact .refl s
  · exact driven_holdArrival _ _ s
  · exact .refl s
  · exact driven_regenEnd _ s
  · exact .refl s
  · exact driven_stepArrival _ _ s
  · exact .refl s
  · exact driven_commission p s

theorem driven_askMove (p : Pos) (s : State) : Driven s (askMove p s) :=
  .ite (((driven_discRequest p s).trans (driven_sequencerArrival p _)).trans (driven_applyManual _)) (driven_discRequest p s)

theorem driven_recoveryPass (s : State) : Driven s (recoveryPass s) := by
  unfold recoveryPass recoverChangeover recoverRegeneration recoverService
  dsimp only
  repeat' split
  all_goals first
    | exact .refl s
    | exact driven_askMove _ s
    | exact (driven_askMove _ _).before rfl rfl
    | exact driven_stepArrival _ _ s
    | exact driven_commission _ s
    | exact driven_enterOtherStep _ _ s

end

/-! ### A resin volume taken (R28, R81) -/

section
variable {s : State} {k : Tank}

theorem askProjection_others (k : Tank) (s : State) : ∃ q, askProjection k s = s.withTank k { s.tank k with urgent := q } := by
  unfold askProjection
  dsimp only
  repeat' split
  · exact ⟨_, rfl⟩
  · exact ⟨_, rfl⟩
  · exact ⟨(s.tank k).urgent, (withTank_self k s).symm⟩
  · exact ⟨(s.tank k).urgent, (withTank_self k s).symm⟩

theorem waitingChangeover_others (k : Tank) (ready : Bool) (s : State) :
    ∃ q m, waitingChangeover k ready s = { s.withTank k { s.tank k with urgent := q } with notices := m } := by
  obtain ⟨m, hm⟩ : ∃ m, (if ready then post1 .changeoverPending (.tank k.other) (serviceCode (s.tank k).service) s else s)
      = { s with notices := m } := by
    split
    · exact ⟨_, rfl⟩
    · exact ⟨s.notices, rfl⟩
  have same (m : NoticeQueue) : { s with notices := m } = { s.withTank k { s.tank k with urgent := (s.tank k).urgent } with notices := m } :=
    congrArg (fun v : State => { v with notices := m }) (withTank_self k s).symm
  unfold waitingChangeover
  dsimp only
  rw [hm]
  split
  · split
    · exact ⟨.forced, m, rfl⟩
    · exact ⟨_, m, same m⟩
  · exact ⟨_, s.notices, same s.notices⟩

/-- A tank made EXHAUSTED by its resin volume (R81). -/
theorem madeExhausted_others (k : Tank) (s : State) :
    ∃ q m, madeExhausted k s = { s.withTank k { s.tank k with service := .exhausted, urgent := q } with notices := m } := by
  have changed := changeTank_others s k { s.tank k with service := .exhausted }
  obtain ⟨q, hq⟩ := askProjection_others k (changeTank k { s.tank k with service := .exhausted } s)
  obtain ⟨q', m, hm⟩ := waitingChangeover_others k ((s.tank k).service == .ready) (askProjection k (changeTank k { s.tank k with service := .exhausted } s))
  refine ⟨q', m, ?_⟩
  have projected : (askProjection k (changeTank k { s.tank k with service := .exhausted } s)).tank k
      = { s.tank k with service := .exhausted, urgent := q } := by
    rw [hq, withTank_tank_same, changeTank_tank_same]
  unfold madeExhausted
  dsimp only
  rw [hm, projected, hq, withTank_withTank, changeTank_others]
  exact congrArg (fun v : State => { v with notices := m }) (withTank_withTank s k _ _)

/-- A tank made DISABLED by its resin volume (R28, R81). -/
theorem madeDisabled_others (k : Tank) (s : State) : ∃ r e m, madeDisabled k s
    = { (disableCapacity k s).withTank k r with line := { s.line with regen := e }, notices := m } ∧ r.service = .disabled := by
  obtain ⟨e, he⟩ := withdrawRegen_others k s
  let r : TankRecord := { ((withdrawRegen k s).tank k).undue with service := .disabled, halt := false, regenTag := none }
  let v := disableCapacity k (changeTank k r (withdrawRegen k s))
  have hv : ∃ m, v = { (disableCapacity k s).withTank k r with line := { s.line with regen := e }, notices := m } := by
    refine ⟨(changeTank k r (withdrawRegen k s)).notices, ?_⟩
    show disableCapacity k (changeTank k r (withdrawRegen k s)) = _
    rw [changeTank_others, he]
    cases k <;> rfl
  obtain ⟨m, hm⟩ := hv
  let x := requestDoneIf (.tank k) (s.tank k).regenTag kindTankCmd .cancelled 0 v
  have hx : ∃ m, x = { (disableCapacity k s).withTank k r with line := { s.line with regen := e }, notices := m } := by
    exact ⟨x.notices, (requestDoneIf_others _ _ _ _ _ v).trans (congrArg (fun u : State => { u with notices := x.notices }) hm)⟩
  obtain ⟨m', hm'⟩ := hx
  obtain ⟨q, m'', hq⟩ := waitingChangeover_others k ((s.tank k).service == .ready) x
  have record : x.tank k = r := by
    rw [hm']
    exact withTank_tank_same _ k r
  refine ⟨{ r with urgent := q }, e, m'', ?_, rfl⟩
  show waitingChangeover k _ x = _
  rw [hq, record, hm']
  cases k <;> rfl

theorem vrRefusal_open (h : ∀ j : Tank, (s.tank j).service ≠ .inService) (hc : s.seq.chosen = k)
    (hs : (s.tank k).service = .ready ∨ (s.tank k).service = .exhausted ∨ (s.tank k).service = .disabled) (hn : s.seq.changeover = none) :
    vrRefusal k s = some .inService := by
  have open_ : commissioning s = true ∧ s.seq.chosen = k := ⟨by simp [commissioning, h .a, h .b], hc⟩
  unfold vrRefusal
  rcases hs with hs | hs | hs
  all_goals
    rw [hs, hn]
    exact if_pos open_

theorem vrRefusal_changeover (hs : (s.tank k).service = .ready ∨ (s.tank k).service = .exhausted ∨ (s.tank k).service = .disabled)
    (hn : s.seq.changeover ≠ none) : vrRefusal k s = some .changeover := by
  unfold vrRefusal
  rcases hs with hs | hs | hs
  all_goals
    rw [hs]
    exact if_pos (Option.isSome_iff_ne_none.2 hn)

theorem vrRefusal_none (hs : (s.tank k).service = .ready ∨ (s.tank k).service = .exhausted ∨ (s.tank k).service = .disabled)
    (hn : s.seq.changeover = none) (ho : ¬ ((∀ j : Tank, (s.tank j).service ≠ .inService) ∧ s.seq.chosen = k)) : vrRefusal k s = none := by
  have closed : ¬ (commissioning s = true ∧ s.seq.chosen = k) := by
    refine fun ⟨hc, hk⟩ => ho ⟨fun j => ?_, hk⟩
    simp only [commissioning, Bool.and_eq_true, bne_iff_ne] at hc
    cases j
    · exact hc.1
    · exact hc.2
  unfold vrRefusal
  rcases hs with hs | hs | hs
  all_goals
    rw [hs, hn]
    exact if_neg closed

/-- The state after a new resin volume, by the state of its tank (R81). -/
structure Refilled (k : Tank) (v : Nat) (s u : State) : Prop where
  service : (u.tank k).service = if v = 0 then .disabled else .exhausted
  learned : (u.record k).learned = 1000
  mode : (u.record k).mode = .acquisition
  smallErrors : (u.record k).smallErrors = 0
  emptied : v = 0 → (s.tank k).service ≠ .disabled → (u.record k).credited = 0 ∧ (u.record k).remaining = 0 ∧ (u.record k).consumed = 0
  kept : v ≠ 0 → (u.record k).credited = (s.record k).credited ∧ (u.record k).remaining = (s.record k).remaining
  otherService : (u.tank k.other).service = (s.tank k.other).service
  otherRecord : u.record k.other = s.record k.other

theorem refilled_learning {v : Nat} (hs : (s.tank k).service = if v = 0 then .disabled else .exhausted) : Refilled k v s (resetLearning k s) where
  service := hs
  learned := by cases k <;> rfl
  mode := by cases k <;> rfl
  smallErrors := by cases k <;> rfl
  emptied hv hd := absurd (hs.trans (if_pos hv)) hd
  kept _ := by cases k <;> exact ⟨rfl, rfl⟩
  otherService := rfl
  otherRecord := by cases k <;> rfl

theorem refilled_exhausted {v : Nat} (hv : v ≠ 0) : Refilled k v s (madeExhausted k (resetLearning k s)) := by
  obtain ⟨q, m, h⟩ := madeExhausted_others k (resetLearning k s)
  rw [h]
  refine ⟨?_, ?_, ?_, ?_, fun h0 => absurd h0 hv, fun _ => ?_, ?_, ?_⟩
  · rw [if_neg hv]
    cases k <;> rfl
  · cases k <;> rfl
  · cases k <;> rfl
  · cases k <;> rfl
  · cases k <;> exact ⟨rfl, rfl⟩
  · cases k <;> rfl
  · cases k <;> rfl

theorem refilled_disabled {v : Nat} (hv : v = 0) : Refilled k v s (madeDisabled k (resetLearning k s)) := by
  obtain ⟨r, e, m, h, hr⟩ := madeDisabled_others k (resetLearning k s)
  rw [h]
  refine ⟨?_, ?_, ?_, ?_, fun _ _ => ?_, fun hn => absurd hv hn, ?_, ?_⟩
  · rw [if_pos hv]
    cases k <;> exact hr
  · cases k <;> rfl
  · cases k <;> rfl
  · cases k <;> rfl
  · cases k <;> exact ⟨rfl, rfl, rfl⟩
  · cases k <;> rfl
  · cases k <;> rfl

theorem vrChanged_refilled {v : Nat} (hr : vrRefusal k s = none)
    (hs : (s.tank k).service = .ready ∨ (s.tank k).service = .exhausted ∨ (s.tank k).service = .disabled) :
    Refilled k v s (vrChanged k v s) := by
  unfold vrChanged
  dsimp only
  rw [hr]
  rcases hs with hs | hs | hs
  all_goals
    rw [hs]
    dsimp only
    split
    next hv =>
      first
        | exact refilled_disabled hv
        | exact refilled_learning (by rw [hs, if_pos hv])
    next hv =>
      first
        | exact refilled_exhausted hv
        | exact refilled_learning (by rw [hs, if_neg hv])

end

/-! ### SET, by the owner of the setting (R175) -/

section
variable {s u : State} {svc : Bool} {tag id : Byte} {v : BitVec 32} {row : SettingRow}

theorem exec_set (h : s.free) (hrow : settingRow id.toNat = some row) (hi : row.installer = false ∨ svc = true)
    (hr : setRefusal id.toNat (row.clamp v.toInt) (frameDropped (s.withSvc svc)) = none)
    (hu : settingTaken id.toNat (s.settings.get id.toNat != row.clamp v.toInt)
      ((frameDropped (s.withSvc svc)).withSetting id.toNat (row.clamp v.toInt)) = u) :
    exec (.set tag id v svc) s = answers (.set id v) tag s (follow u) (setAnswer id (row.clamp v.toInt) v) :=
  exec_answers rfl h trivial (takeSet_taken hrow hi hr hu)

theorem exec_set_refused {r : NotNow} (h : s.free) (hrow : settingRow id.toNat = some row) (hi : row.installer = false ∨ svc = true)
    (hr : setRefusal id.toNat (row.clamp v.toInt) (frameDropped (s.withSvc svc)) = some r) :
    exec (.set tag id v svc) s = answers (.set id v) tag s (frameDropped (s.withSvc svc)) (declined r) :=
  exec_answers rfl h trivial (takeSet_refused hrow hi hr)

/-- The resin volume of a tank is its setting (R81). -/
theorem get_resin (k : Tank) (s : State) : s.settings.get (tankByte k + 1).toNat = s.resin k := by cases k <;> rfl

theorem setRefusal_resin (k : Tank) (n : Int) (s : State) : setRefusal (tankByte k + 1).toNat n s =
    if (s.resin k : Int) = n then none else (vrRefusal k s).map vrReason := by cases k <;> rfl

theorem put_resin_same (k : Tank) (s : State) : s.settings.put (tankByte k + 1).toNat (s.resin k) = s.settings := by cases k <;> rfl

theorem settingTaken_resin (k : Tank) (c : Bool) (n : Int) (s : State) :
    settingTaken (tankByte k + 1).toNat c (s.withSetting (tankByte k + 1).toNat n) =
      if c then vrChanged k n.toNat (s.withSetting (tankByte k + 1).toNat n) else s.withSetting (tankByte k + 1).toNat n := by cases k <;> rfl

end

/-! ### Owners that act by the value (R54, R126, R129, R155) -/

section
variable {s : State}

/-- A mode that cannot apply, or applies already, waits (R54). -/
theorem modeChange_waits (h : s.disc.state ≠ .atPosition ∨ s.disc.mode = s.settings.user.soft.discMode
    ∨ s.settings.user.soft.discMode = .manual ∧ s.seq.changeover ≠ none) : modeChange s = s := by
  have auto : ¬ (s.settings.user.soft.discMode = .auto ∧ s.disc.mode = .manual ∧ s.disc.state = .atPosition) := by
    rintro ⟨ha, hm, hp⟩
    rcases h with h | h | h
    · exact h hp
    · rw [ha, hm] at h
      cases h
    · rw [ha] at h
      cases h.1
  have manual : ¬ (s.settings.user.soft.discMode = .manual ∧ s.disc.mode = .auto ∧ s.disc.state = .atPosition ∧ s.seq.changeover = none) := by
    rintro ⟨ha, hm, hp, hc⟩
    rcases h with h | h | h
    · exact h hp
    · rw [ha, hm] at h
      cases h
    · exact h.2 hc
  rw [modeChange, if_neg auto, applyManual, if_neg manual]

theorem modeChange_toManual (hs : s.settings.user.soft.discMode = .manual) (hd : s.disc.state = .atPosition) (hm : s.disc.mode = .auto)
    (hc : s.seq.changeover = none) : modeChange s = manualReported { s with disc := { s.disc with mode := .manual } } := by
  rw [modeChange, if_neg (by rw [hs]; exact fun h => nomatch h.1), applyManual, if_pos ⟨hs, hm, hd, hc⟩]

theorem modeChange_toAuto (hs : s.settings.user.soft.discMode = .auto) (hd : s.disc.state = .atPosition) (hm : s.disc.mode = .manual) :
    (modeChange s).disc.mode = .auto := by
  rw [modeChange, if_pos ⟨hs, hm, hd⟩]
  exact (driven_recoveryPass { s with disc := { s.disc with mode := .auto } }).mode hs

theorem leakModeChanged_eq (s : State) : leakModeChanged s = { s with leak := { s.leak with detector := { s.leak.detector with
    active := s.leak.detector.active.map fun _ => thresholdSet s.settings.user.leak } } } := by
  unfold leakModeChanged
  split
  next h =>
    obtain ⟨x, hx⟩ := Option.isSome_iff_exists.1 h
    rw [hx]
    rfl
  next h =>
    have none : s.leak.detector.active = none := Option.not_isSome_iff_eq_none.1 h
    rw [none]
    show s = { s with leak := { s.leak with detector := { s.leak.detector with active := Option.none } } }
    rw [← none]

theorem removeReason_trip (s : State) : (removeReason .trip s).valve.reasons.trip = false := by
  have kept : (removeReason .trip s).valve.reasons.trip = (dropReason .trip s).valve.reasons.trip :=
    congrArg Calm.trip (calm_removeReason .trip s)
  rw [kept, dropReason_reasons]
  rfl

theorem removeReason_lowBattery (s : State) : (removeReason .lowBattery s).valve.reasons.lowBattery = false := by
  have kept : (removeReason .lowBattery s).valve.reasons.lowBattery = (dropReason .lowBattery s).valve.reasons.lowBattery :=
    congrArg Calm.lowBattery (calm_removeReason .lowBattery s)
  rw [kept, dropReason_reasons]
  rfl

end

end Sys2Proof.Machine

/-! O53: the settings table, GET and SET. -/

namespace Sys2Proof.Machine

set_option Elab.async false

/-- Settles O53: the table, then GET and SET by the refusals and by the owner of each setting. -/
theorem settingsAreReadAndSet : Obligations.SettingsAreReadAndSet := by
  refine ⟨fun id row c v h => ?table, fun svc tag id v s h => ?requests⟩
  case table =>
    obtain ⟨hle, hz, -⟩ := settingRow_range h
    exact ⟨put_get_same h (clamp_admitted hle hz v), fun j hj => put_get_other h hj, fun hv => clamp_above hle hv hz,
      fun hlo hhi => clamp_within hlo hhi hz, fun ho hv => clamp_below hv fun ho' => absurd (ho.symm.trans ho') Bool.false_ne_true,
      fun ho => ⟨fun hv hlo => clamp_below hlo fun _ => hv, clamp_zero ho⟩⟩
  case requests =>
    intro w
    refine ⟨fun hn => ⟨exec_answers rfl h trivial (takeGet_unknown hn), exec_answers rfl h trivial (takeSet_unknown hn)⟩, fun row hrow => ?_⟩
    intro n taken
    obtain ⟨hle, hz, -⟩ := settingRow_range hrow
    have admitted : row.Admits n := clamp_admitted hle hz _
    refine ⟨exec_answers rfl h trivial (takeGet_known hrow), fun hi hs => exec_answers rfl h trivial (takeSet_locked hrow hi hs),
      fun hi h2 => ?plain, fun t ht hs => ?resin, fun hi => ?owners⟩
    case plain =>
      have untested : setRefusal id.toNat n w = none := setRefusal_untested (by omega) (by omega) n w
      have owned := owned_settingTaken (w.withSetting id.toNat n) id.toNat (s.settings.get id.toNat != n)
      exact ⟨_, exec_set h hrow hi untested rfl, owned.settings, owned.clock, owned.totals⟩
    case resin =>
      subst ht
      have put (hr : setRefusal (tankByte t + 1).toNat n w = none) {u : State}
          (hu : settingTaken (tankByte t + 1).toNat (s.settings.get (tankByte t + 1).toNat != n) (w.withSetting (tankByte t + 1).toNat n) = u) :
          exec (.set tag (tankByte t + 1) v svc) s = answers (.set (tankByte t + 1) v) tag s (follow u) taken :=
        exec_set h hrow (.inr hs) hr hu
      have tested := setRefusal_resin t n w
      refine ⟨fun hn => ⟨w, put (tested.trans (if_pos hn.symm)) ?_, rfl⟩, fun hn => ?_⟩
      · have unchanged : (s.settings.get (tankByte t + 1).toNat != n) = false := by rw [get_resin, hn, bne_self_eq_false]
        have same : w.withSetting (tankByte t + 1).toNat n = w := by
          rw [hn]
          exact congrArg (fun c => { w with settings := c }) (put_resin_same t s)
        rw [unchanged, settingTaken_resin, same]
        rfl
      · intro refused idle open_
        have volume : ¬ ((w.resin t : Int) = n) := fun e => hn e.symm
        have refuse {r : VrRefusal} (hr : vrRefusal t w = some r) : refused (vrReason r) :=
          exec_set_refused h hrow (.inr hs) (by rw [tested, if_neg volume, hr]; rfl)
        refine ⟨fun hi => refuse (r := .inService) ?_, fun hi => refuse (r := .regenerating) ?_, fun hi => refuse (r := .faulted) ?_,
          fun hi hc => refuse (vrRefusal_changeover (s := w) hi hc), fun hi hc ho => refuse (vrRefusal_open (s := w) ho.1 ho.2 hi hc),
          fun hi hc ho => ?taken⟩
        · rw [vrRefusal, show (w.tank t).service = .inService from hi]
        · rw [vrRefusal, show (w.tank t).service = .regenerating from hi]
        · rw [vrRefusal, show (w.tank t).service = .faulted from hi]
        case taken =>
          have free : vrRefusal t w = none := vrRefusal_none (s := w) hi hc ho
          have changed : (s.settings.get (tankByte t + 1).toNat != n) = true := by
            rw [get_resin]
            exact bne_iff_ne.2 volume
          have natural : n.toNat = 0 ↔ n = 0 := by
            have low : 0 ≤ n := by
              rcases admitted with ⟨hlo, -⟩ | ⟨-, h0⟩
              · refine Int.le_trans ?_ hlo
                cases t <;> cases hrow <;> decide
              · omega
            omega
          let p := w.withSetting (tankByte t + 1).toNat n
          obtain ⟨service, learned, mode, small, emptied, kept, other, record⟩ :=
            vrChanged_refilled (s := p) (k := t) (v := n.toNat) (vrRefusal_none (s := p) hi hc ho) hi
          have row' : settingTaken (tankByte t + 1).toNat (s.settings.get (tankByte t + 1).toNat != n) p = vrChanged t n.toNat p := by
            rw [changed]
            exact settingTaken_resin t true n w
          refine ⟨vrChanged t n.toNat p, put (by rw [tested, if_neg volume, free]; rfl) row', (sequenced_vrChanged t p n.toNat).settings, ?_,
            learned, mode, small, fun h0 hd => emptied (natural.2 h0) hd, fun h0 => kept fun e => h0 (natural.1 e), other, record⟩
          rw [service]
          simp only [natural]
    case owners =>
      intro put set same m soft filter kg byMass
      have on (h1 : id.toNat ≠ 1) (h2 : id.toNat ≠ 2) {u : State} (hu : settingTaken id.toNat (s.settings.get id.toNat != n) put = u) : set u :=
        exec_set h hrow hi (setRefusal_untested h1 h2 n w) hu
      have new (hs : ¬ same) : (s.settings.get id.toNat != n) = true := bne_iff_ne.2 hs
      have acts (h1 : id.toNat ≠ 1) (h2 : id.toNat ≠ 2) (hs : ¬ same) {u : State} (hu : settingTaken id.toNat true put = u) : set u :=
        on h1 h2 (by rw [new hs]; exact hu)
      have old (hs : same) : (s.settings.get id.toNat != n) = false := by rw [show s.settings.get id.toNat = n from hs, bne_self_eq_false]
      have low (hlo : 0 ≤ row.lo) : (n.toNat : Int) = n := by
        refine Int.toNat_of_nonneg ?_
        rcases admitted with ⟨hl, -⟩ | ⟨-, h0⟩
        · exact Int.le_trans hlo hl
        · exact h0.ge
      refine ⟨fun hid => ?_, fun hid hs => ?_, ?_, ?_, ?_, ?_, ?_, ?_, ?_, ?_, fun hid => ?_, ?_, ?_, ?_, fun hid hs hf => ?_, fun hid hs hf => ?_,
        ?_, ?_, ?_, ?_, ?_, ?_, ?_, ?_, ?_⟩
      · exact on (fun e => hid (by rw [e]; decide)) (fun e => hid (by rw [e]; decide)) (settingTaken_idle hid _ put)
      · have h1 (k : Nat) (hk : k ∉ [3, 4, 5, 8, 10, 40, 41, 50, 81]) : id.toNat ≠ k := fun e => hk (e ▸ hid)
        exact on (h1 1 (by decide)) (h1 2 (by decide)) (by rw [old hs]; exact settingTaken_same hid put)
      · rintro rfl hs
        exact acts (by decide) (by decide) hs rfl
      · rintro rfl hs
        exact acts (by decide) (by decide) hs rfl
      · rintro rfl hs h0
        have fitted : put.settings.inst.probeDepth ≠ 0 := fun e => h0 (by
          rw [← low (by cases hrow; decide)]
          exact congrArg Nat.cast e)
        have row' : settingTaken 5 true put = _ := if_neg fitted
        exact acts (by decide) (by decide) hs row'
      · rintro rfl hs h0
        have unfitted : put.settings.inst.probeDepth = 0 := congrArg Int.toNat h0
        have row' : settingTaken 5 true put = _ := probeDepthChanged_unfitted unfitted
        have done := acts (by decide) (by decide) hs row'
        exact ⟨_, done, rfl, fun k hk => depthGone_inactive hk, rfl⟩
      · rintro rfl hs h1
        have fitted : put.settings.inst.sensorFitted = true := beq_iff_eq.2 h1
        have row' : settingTaken 8 true put = put := if_pos fitted
        exact acts (by decide) (by decide) hs row'
      · rintro rfl hs h0
        have unfitted : put.settings.inst.sensorFitted = false := beq_eq_false_iff_ne.2 (by rw [h0]; decide)
        obtain ⟨b, q, row', salt, inventory, fault⟩ := sensorFittedChanged_unfitted unfitted
        have done := acts (by decide) (by decide) hs row'
        exact ⟨_, done, fault, rfl, salt, inventory, rfl⟩
      · rintro rfl hs hle
        have number := low (by cases hrow; decide)
        have within : put.brine.inventory ≤ put.settings.inst.saltCapacity * 1000 := by
          show s.brine.inventory ≤ n.toNat * 1000
          omega
        exact acts (by decide) (by decide) hs (capacityClamp_within within)
      · rintro rfl hs hlt
        have number := low (by cases hrow; decide)
        have exceeds : put.settings.inst.saltCapacity * 1000 < put.brine.inventory := by
          show n.toNat * 1000 < s.brine.inventory
          omega
        obtain ⟨b, q, row', inventory, salt⟩ := capacityClamp_over exceeds
        have grams : (n * 1000).toNat = n.toNat * 1000 := by omega
        have done := acts (by decide) (by decide) hs row'
        refine ⟨_, done, ?_, ?_, rfl⟩
        · show (b.inventory : Int) = n * 1000
          rw [inventory]
          show ((n.toNat * 1000 : Nat) : Int) = n * 1000
          omega
        · rw [grams]
          exact salt
      · have h1 (k : Nat) (hk : k ∉ [20, 21, 22]) : id.toNat ≠ k := fun e => hk (e ▸ hid)
        refine on (h1 1 (by decide)) (h1 2 (by decide)) ?_
        simp only [List.mem_cons, List.not_mem_nil, or_false] at hid
        rcases hid with e | e | e
        all_goals
          rw [e]
          rfl
      · rintro rfl hw'
        have waits : modeChange put = put := by
          refine modeChange_waits (hw'.imp_right (Or.imp_right fun ⟨h1, hc⟩ => ⟨?_, hc⟩))
          exact if_pos h1
        exact on (by decide) (by decide) waits
      · rintro rfl hd h1 hm hc
        have manual : put.settings.user.soft.discMode = .manual := if_pos h1
        have row' := modeChange_toManual (s := put) manual hd hm hc
        have done := on (by decide) (by decide) row'
        obtain ⟨told, disc⟩ := manualReported_tank { put with disc := { put.disc with mode := .manual } }
        exact ⟨_, done, disc, fun k => ⟨(told k).service, (told k).claim, (told k).manual⟩⟩
      · rintro rfl hd h0 hm
        have auto : put.settings.user.soft.discMode = .auto := if_neg (by rw [h0]; decide)
        exact ⟨_, on (by decide) (by decide) rfl, modeChange_toAuto (s := put) auto hd hm⟩
      · simp only [List.mem_cons, List.not_mem_nil, or_false] at hid
        have idle : filterEvaluate put = put := if_pos hf
        rcases hid with e | e
        all_goals
          refine acts (by omega) (by omega) hs ?_
          rw [e]
          exact idle
      · simp only [List.mem_cons, List.not_mem_nil, or_false] at hid
        obtain ⟨f, q, row', state⟩ := filterEvaluate_others (s := put) hf
        refine ⟨_, acts (by omega) (by omega) hs (u := filterEvaluate put) ?_, ?_, ?_⟩
        · rcases hid with e | e
          all_goals
            rw [e]
            rfl
        · rw [row']
          exact state
        · rw [row']
      · rintro rfl hs
        exact acts (by decide) (by decide) hs (leakModeChanged_eq put)
      · rintro rfl h1 hl
        have close : put.settings.user.leak.action = .close := if_pos h1
        have row' : leakActionTaken put = put := (if_pos close).trans (if_neg (by rw [show put.leak.latch = none from hl]; exact Bool.false_ne_true))
        exact on (by decide) (by decide) row'
      · rintro rfl h1 hl
        have close : put.settings.user.leak.action = .close := if_pos h1
        have row' : leakActionTaken put = addReason .trip put := (if_pos close).trans (if_pos (Option.isSome_iff_ne_none.2 hl))
        exact ⟨_, on (by decide) (by decide) row', addReason_reasons .trip put⟩
      · rintro rfl h0
        have notify : ¬ put.settings.user.leak.action = .close := by
          have action : put.settings.user.leak.action = .notify := if_neg (by rw [h0]; decide)
          rw [action]
          decide
        have row' : leakActionTaken put = removeReason .trip put := if_neg notify
        exact ⟨_, on (by decide) (by decide) row', removeReason_trip put⟩
      · rintro rfl h1 hl
        have close : put.settings.user.leak.lowBatteryAction = .close := if_pos h1
        have row' : lowBatteryTaken put = put := (if_pos close).trans (if_neg hl)
        exact on (by decide) (by decide) row'
      · rintro rfl h1 hl
        have close : put.settings.user.leak.lowBatteryAction = .close := if_pos h1
        have row' : lowBatteryTaken put = addReason .lowBattery put := (if_pos close).trans (if_pos hl)
        exact ⟨_, on (by decide) (by decide) row', addReason_reasons .lowBattery put⟩
      · rintro rfl h0
        have hold : ¬ put.settings.user.leak.lowBatteryAction = .close := by
          have action : put.settings.user.leak.lowBatteryAction = .hold := if_neg (by rw [h0]; decide)
          rw [action]
          decide
        have row' : lowBatteryTaken put = removeReason .lowBattery put := if_neg hold
        exact ⟨_, on (by decide) (by decide) row', removeReason_lowBattery put⟩
      · rintro rfl hs hf
        exact acts (by decide) (by decide) hs (evaluateSaltMass_fitted (s := put) hf)
      · rintro rfl hs hf
        obtain ⟨b, q, row', salt, -, -⟩ := evaluateSaltMass_unfitted (s := put) hf
        have done := acts (by decide) (by decide) hs row'
        exact ⟨_, done, salt, rfl⟩

end Sys2Proof.Machine

/-! What a request leaves of the pins. -/

namespace Sys2Proof.Machine

set_option Elab.async false

/-! ### The pins stay through the sequencer's and the arbiter's operations -/

section
variable {s t : State}

theorem Brining.pins (h : Brining s t) : t.pins = s.pins := h.sequenced.pins

theorem Valves.pins (h : Valves s t) : t.pins = s.pins := by rw [h.others]

theorem Offline.pins (h : Offline s t) : t.pins = s.pins := by rw [h.others]

theorem ite_pins {c : Prop} [Decidable c] {a b : State} (ha : a.pins = s.pins) (hb : b.pins = s.pins) : (if c then a else b).pins = s.pins := by
  split
  · exact ha
  · exact hb

theorem releaseRegen_pins (s : State) : (releaseRegen s).pins = s.pins := ite_pins (grantDecision_pins _) rfl

theorem giveUpTest_pins (s : State) : (giveUpTest s).pins = s.pins := ite_pins (grantDecision_pins _) rfl

theorem claimTest_pins (s : State) : (claimTest s).pins = s.pins := by
  unfold claimTest
  split
  · exact grantDecision_pins _
  · rfl

theorem claimFlush_pins (h : Bool) (s : State) : (claimFlush h s).pins = s.pins := by
  unfold claimFlush
  dsimp only
  split
  · exact grantDecision_pins _
  · repeat' split
    · rfl
    · exact grantDecision_pins _
    · rfl

theorem flushClaim_pins (s : State) : (flushClaim s).pins = s.pins := by
  unfold flushClaim
  dsimp only
  repeat' split
  · exact claimFlush_pins _ s
  · rfl
  · exact claimFlush_pins _ s
  · rfl

theorem regenEnd_pins (k : Tank) (s : State) : (regenEnd k s).pins = s.pins := by
  have told (g : Option Byte) (x b m : Nat) (v : State) : (v.regenTold k g x b m).pins = v.pins := requestDoneIf_pins _ _ _ _ _ _
  have released (c : Claim) (v : State) : (v.regenReleased k c).pins = v.pins :=
    (releaseRegen_pins _).trans (sequenced_withdrawRegen k _).pins
  have credited (v : State) : (v.regenCredited k).pins = v.pins := (brining_brineRegenEnd (creditTank k (brineFactor v) v)).pins
  rw [regenEnd_eq, (sequenced_changeoverBegin _).pins, told, released, credited]
  exact (sequenced_changeTank k _ s).pins

theorem sequencerArrival_pins (p : Pos) (s : State) : (sequencerArrival p s).pins = s.pins := by
  unfold sequencerArrival
  repeat' split
  · exact (sequenced_changeArrival _ s).pins
  · rfl
  · rfl
  · exact (sequenced_holdArrival _ _ s).pins
  · rfl
  · exact regenEnd_pins _ s
  · rfl
  · exact (sequenced_stepArrival _ _ s).pins
  · rfl
  · exact (sequenced_commission p s).pins

theorem askMove_pins (p : Pos) (s : State) : (askMove p s).pins = s.pins :=
  ite_pins ((sequenced_applyManual _).pins.trans ((sequencerArrival_pins p _).trans (discRequest_pins p s))) (discRequest_pins p s)

theorem recoveryPass_pins (s : State) : (recoveryPass s).pins = s.pins := by
  unfold recoveryPass recoverChangeover recoverRegeneration recoverService
  dsimp only
  repeat' split
  all_goals first
    | rfl
    | exact askMove_pins _ s
    | exact askMove_pins _ _
    | exact (sequenced_stepArrival _ _ s).pins
    | exact (sequenced_commission _ s).pins
    | exact (sequenced_enterOtherStep _ _ s).pins

theorem modeChange_pins (s : State) : (modeChange s).pins = s.pins := ite_pins (recoveryPass_pins _) (sequenced_applyManual s).pins

theorem stepMove_pins (k : Tank) (s : State) : (stepMove k s).pins = s.pins := by
  unfold stepMove
  dsimp only
  repeat' split
  · rfl
  · exact (askMove_pins _ _).trans (sequenced_changeTank k _ s).pins
  · exact (askMove_pins _ _).trans (sequenced_changeTank k _ s).pins
  · rfl

theorem regenClaim_pins (k : Tank) (s : State) : (regenClaim k s).pins = s.pins :=
  ite_pins (keepClaim_pins k s) (ite_pins ((sequenced_deferFailing k _).pins.trans (sequenced_withdrawRegen k s).pins) rfl)

theorem follow_pins (s : State) : (follow s).pins = s.pins := by
  refine ite_pins rfl ?_
  show (suspension .b (suspension .a (flushClaim (regenClaim .b (regenClaim .a (stepMove .b (stepMove .a s))))))).pins = s.pins
  rw [suspension, suspension, changeTank_pins, changeTank_pins, flushClaim_pins, regenClaim_pins, regenClaim_pins, stepMove_pins, stepMove_pins]

/-! ### The pins stay through the valve's and the monitors' operations -/

theorem addReason_pins (n : Reason) (s : State) : (addReason n s).pins = s.pins := (offline_addReason n s).pins

theorem endTest_pins (r : TestResult) (v d : Int) (s : State) : (endTest r v d s).pins = s.pins := by
  have judged : (microleakResult r d s).pins = s.pins := by
    unfold microleakResult
    split
    · rfl
    · dsimp only
      refine ite_pins (ite_pins ?_ rfl) rfl
      unfold latchCore
      dsimp only
      repeat' split
      · exact addReason_pins .trip _
      · rfl
      · rfl
      · rfl
    · rfl
  unfold endTest
  dsimp only
  rw [(offline_recordResult r v s.leak.test.p0 d _).pins, giveUpTest_pins]
  exact ite_pins ((removeReason_pins .test _).trans judged) judged

theorem abandonTest_pins (r : EndReason) (s : State) : (abandonTest r s).pins = s.pins := ite_pins rfl (endTest_pins _ _ _ s)

theorem abandonClosing_pins (r : EndReason) (s : State) : (abandonClosing r s).pins = s.pins := ite_pins (abandonTest_pins r s) rfl

theorem latchCause_pins (c : Cause) (d : Int) (s : State) : (latchCause c d s).pins = s.pins := by
  refine ite_pins rfl ((abandonTest_pins .trip _).trans ?_)
  unfold latchCore
  dsimp only
  repeat' split
  · exact addReason_pins .trip _
  · rfl
  · rfl
  · rfl

theorem filterEvaluate_pins (s : State) : (filterEvaluate s).pins = s.pins := by
  refine ite_pins rfl ?_
  rw [filterEvaluateNow, setFilter_others]

theorem openedDecision_pins (s t : State) : (openedDecision s t).pins = t.pins := ite_pins (changeDecision_pins t) rfl

end

/-! ### The pins stay through every request -/

section
variable (s : State)

theorem settingTaken_pins (id : Nat) (changed : Bool) : (settingTaken id changed s).pins = s.pins := by
  have when {a : State} (h : a.pins = s.pins) : (if changed then a else s).pins = s.pins := ite_pins h rfl
  have gone (k : Tank) (v : State) : (probeFaultGone k v).pins = v.pins := by rw [probeFaultGone_eq]
  unfold settingTaken
  dsimp only
  split
  · exact when (sequenced_vrChanged .a s _).pins
  · exact when (sequenced_vrChanged .b s _).pins
  · exact when rfl
  · exact when rfl
  · exact when (ite_pins ((gone .b _).trans (gone .a _)) rfl)
  · exact when (ite_pins rfl ((brining_evaluateSaltMass _).pins.trans (ite_pins rfl rfl)))
  · exact when (brining_inventoryChanged _ _).pins
  · rfl
  · rfl
  · rfl
  · exact modeChange_pins s
  · exact when (by rw [filterEvaluate_pins])
  · exact when (by rw [filterEvaluate_pins])
  · exact when (by rw [leakModeChanged_eq])
  · exact ite_pins (ite_pins (addReason_pins .trip s) rfl) (removeReason_pins .trip s)
  · exact ite_pins (ite_pins (addReason_pins .lowBattery s) rfl) (removeReason_pins .lowBattery s)
  · exact when (brining_evaluateSaltMass s).pins
  · rfl

theorem settingsRestored_pins (svc : Bool) (old : Settings) : (settingsRestored svc old s).pins = s.pins := by
  unfold settingsRestored
  generalize restoredIds svc = ids
  induction ids generalizing s with
  | nil => rfl
  | cons id ids ih => exact (ih _).trans (settingTaken_pins s id _)

theorem moveResumed_pins : (moveResumed s).pins = s.pins := by
  have one (k : Tank) (v : State) : (if (v.tank k).service = .faulted then changeTank k { v.tank k with service := .regenerating } v else v).pins = v.pins :=
    ite_pins (changeTank_pins k _ v) rfl
  exact (one .b _).trans (one .a s)

theorem restartPosition_pins (p : Pos) : (restartPosition p s).pins = s.pins := by
  have chosen : (if commissioning s then { s with seq := { s.seq with
      chosen := (servicePosition (firstForward (fun q => (servicePosition q).isSome) 14 p)).getD .a } } else s).pins = s.pins := ite_pins rfl rfl
  exact ite_pins ((recoveryPass_pins _).trans chosen) chosen

/-- The report of an arrival to the requester of the move (R47, R51). -/
def arrivalReported (d : Disc) (p : Pos) (s : State) : State :=
  match d.requester with
  | some .sequencer => sequencerArrival p s
  | some (.discStep tag) => if d.retryTag.isNone then requestDone .none tag kindDiscStep .done 0 s else s
  | some .restart => restartPosition p s
  | none => s

theorem arrivalReported_pins (d : Disc) (p : Pos) : (arrivalReported d p s).pins = s.pins := by
  unfold arrivalReported
  repeat' split
  · exact sequencerArrival_pins p s
  · rfl
  · rfl
  · exact restartPosition_pins s p
  · rfl

/-- A fault that a retried move held, reported gone at its arrival (R52, R53). -/
def retriedGone (c : Option FaultCode) (s : State) : State :=
  match c with
  | some c => faultGone c .none s
  | none => s

theorem discArrival_eq (p : Pos) : discArrival p s = modeChange (retriedGone s.disc.retriedFault
    (requestDoneIf .none s.disc.retryTag kindDiscRetry .done 0
      (arrivalReported s.disc p { s with disc := { s.disc.arrive with position := some p, retriedFault := none } }))) := rfl

theorem discArrival_pins (p : Pos) : (discArrival p s).pins = s.pins := by
  have gone (c : Option FaultCode) (v : State) : (retriedGone c v).pins = v.pins := by cases c <;> rfl
  rw [discArrival_eq, modeChange_pins, gone, requestDoneIf_pins, arrivalReported_pins]

theorem retryMove_pins (tag : Byte) : (retryMove tag s).pins = s.pins := by
  unfold retryMove
  dsimp only
  repeat' split
  all_goals first
    | exact (discArrival_pins _ _).trans (moveResumed_pins _)
    | exact discArrival_pins _ _
    | exact moveResumed_pins _
    | rfl

theorem skipStep_pins (k : Tank) : (skipStep k s).pins = s.pins := by
  unfold skipStep phaseAfter
  dsimp only
  split
  · rw [requestDoneIf_pins, changeTank_pins, (brining_stepReported _ s).pins]
  · rw [changeTank_pins, (brining_stepReported _ s).pins]

theorem retryValve_pins : (retryValve s).pins = s.pins := by
  unfold retryValve
  dsimp only
  split
  · exact (abandonClosing_pins _ _).trans ((valves_valveStuckCore _ _ _).pins.trans (valves_valveChange _ _).pins)
  · split
    · exact (openedDecision_pins _ _).trans (valves_valveArrive _ _).pins
    · exact (valves_drive _ _).pins.trans (valves_valveChange _ _).pins

theorem recordTag_pins (tag : Byte) : (recordTag tag s).pins = s.pins := requestDoneIf_pins _ _ _ _ _ s

theorem resetLatch_pins (k : Bool) (t : Trip) : (resetLatch k t s).pins = s.pins :=
  (removeReason_pins .trip _).trans (ite_pins (addReason_pins .host s) rfl)

theorem saltFilledEffect_pins (g : BitVec 32) : (saltFilledEffect g s).pins = s.pins := by
  unfold saltFilledEffect
  dsimp only
  exact ite_pins (brining_evaluateSaltMass _).pins ((brining_forecastReminder _).pins.trans (brining_evaluateSaltMass _).pins)

theorem setClock_pins (d n : Nat) : (setClock d n s).pins = s.pins := by
  obtain ⟨m, x, k, h⟩ := setClock_others d n s
  rw [h]
  rfl

theorem furtherItems_pins : (furtherItems s).pins = s.pins := by
  obtain ⟨p, m, h, -⟩ := furtherItems_others s
  rw [h]

theorem takeTankCmd_pins (tag k a : Byte) : (takeTankCmd tag k a s).1.pins = s.pins := by
  have regen (t : Tank) : (takeRegen tag t s).1.pins = s.pins := by
    unfold takeRegen
    repeat' split
    case h_1.isFalse => exact follow_pins _
    all_goals rfl
  have changeover (t : Tank) : (takeChangeover tag t s).1.pins = s.pins := by
    unfold takeChangeover
    repeat' split
    case isFalse.isFalse.isFalse => exact (follow_pins _).trans (sequenced_changeoverBegin _).pins
    all_goals rfl
  have done (t : Tank) (r : TankRecord) : (haltDone tag t r s).1.pins = s.pins := (follow_pins _).trans (changeTank_pins t r s)
  have halt (t : Tank) : (takeHalt tag t s).1.pins = s.pins := by
    unfold takeHalt
    dsimp only
    repeat' split
    · exact done t _
    · exact follow_pins _
    · exact done t _
    all_goals rfl
  have resume (t : Tank) : (takeResume t s).1.pins = s.pins := by
    unfold takeResume
    dsimp only
    repeat' split
    · exact (follow_pins _).trans (changeTank_pins t _ s)
    · exact (follow_pins _).trans (requestDoneIf_pins _ _ _ _ _ _)
    · rfl
  have skip (t : Tank) : (takeSkip t s).1.pins = s.pins := by
    unfold takeSkip
    dsimp only
    repeat' split
    all_goals first
      | exact (follow_pins _).trans (skipStep_pins s t)
      | rfl
  unfold takeTankCmd
  dsimp only
  repeat' split
  all_goals first
    | exact regen _
    | exact changeover _
    | exact halt _
    | exact resume _
    | exact skip _
    | rfl

theorem takeShutoff_pins (tag a : Byte) : (takeShutoff tag a s).1.pins = s.pins := by
  unfold takeShutoff
  split
  · exact (follow_pins _).trans ((valves_answerTag _).pins.trans ((addReason_pins .host _).trans (recordTag_pins s tag)))
  · exact (follow_pins _).trans ((valves_answerTag _).pins.trans ((removeReason_pins .host _).trans (recordTag_pins s tag)))
  · unfold takeRetry
    split
    · exact (follow_pins _).trans ((retryValve_pins _).trans (recordTag_pins s tag))
    · rfl
  · rfl

theorem podWet_pins (n : Fin 8) : (podWet n s).pins = s.pins := latchCause_pins _ _ s

/-- No request's effect moves a pin. -/
theorem takeRequest_pins (tag : Byte) (r : Request) : (takeRequest tag s r).1.pins = s.pins := by
  cases r
  case get id =>
    show (takeGet id s).1.pins = _
    unfold takeGet
    split <;> rfl
  case set id v =>
    show (takeSet id v s).1.pins = _
    unfold takeSet
    dsimp only
    repeat' split
    all_goals first
      | exact (follow_pins _).trans (settingTaken_pins _ _ _)
      | rfl
  case clockSet d n =>
    show (takeClock d n s).1.pins = _
    unfold takeClock
    split
    · rfl
    · exact (follow_pins _).trans (setClock_pins s _ _)
  case tankCmd k a => exact takeTankCmd_pins s tag k a
  case discStep =>
    show (takeDiscStep tag s).1.pins = _
    unfold takeDiscStep
    dsimp only
    repeat' split
    all_goals first
      | rfl
      | exact follow_pins _
  case discRetry =>
    show (takeDiscRetry tag s).1.pins = _
    unfold takeDiscRetry
    repeat' split
    case isFalse.isFalse.isFalse => exact (follow_pins _).trans (retryMove_pins s tag)
    all_goals rfl
  case flushCmd =>
    show (takeFlushCmd tag s).1.pins = _
    unfold takeFlushCmd
    repeat' split
    case isFalse.isFalse => exact follow_pins _
    all_goals rfl
  case shutoffCmd a => exact takeShutoff_pins s tag a
  case leakReset o =>
    show (takeLeakReset o s).1.pins = _
    unfold takeLeakReset
    repeat' split
    all_goals first
      | exact (follow_pins _).trans (resetLatch_pins s _ _)
      | rfl
  case pressureTest =>
    show (takePressureTest tag s).1.pins = _
    unfold takePressureTest
    repeat' split
    case isFalse.isFalse.isFalse.isFalse => exact (follow_pins _).trans (claimTest_pins _)
    all_goals rfl
  case saltFilled g => exact (follow_pins _).trans (saltFilledEffect_pins s g)
  case cartridgeFitted => exact (follow_pins _).trans (filterEvaluate_pins _)
  case podEnrol d =>
    show (takePodEnrol tag d s).1.pins = _
    unfold takePodEnrol
    split
    · rfl
    · exact follow_pins _
  case podRemove n =>
    show (takePodRemove n s).1.pins = _
    unfold takePodRemove
    repeat' split
    case h_2.isFalse => exact follow_pins _
    all_goals rfl
  case podLabel n f l =>
    show (takePodLabel n f l s).1.pins = _
    unfold takePodLabel
    repeat' split
    case h_2.isFalse.isFalse => exact (follow_pins _).trans (ite_pins (podWet_pins _ _) rfl)
    all_goals rfl
  case defaultsRestore =>
    have restored : (settingsRestored s.pins.svc s.settings { s with
        settings := if s.pins.svc then {} else { s.settings with user := {} } }).pins = s.pins := settingsRestored_pins _ _ _
    exact (follow_pins _).trans (ite_pins ((furtherItems_pins _).trans restored) restored)
  all_goals first
    | rfl
    | exact follow_pins _

end

end Sys2Proof.Machine

/-! O52: the replies, the items of STATUS and the records of the reads. -/

namespace Sys2Proof.Machine

set_option Elab.async false

/-! ### Items at their places (section 11.3) -/

section
variable {a b x : List Byte}

theorem holds_within (a x b : List Byte) : Holds (a ++ x ++ b) a.length x := by
  rw [Holds, List.append_assoc, List.drop_left, List.take_left]

theorem holds_first (x b : List Byte) : Holds (x ++ b) 0 x := holds_within [] x b

theorem holds_last (a x : List Byte) : Holds (a ++ x) a.length x := by
  have h := holds_within a x []
  rwa [List.append_nil] at h

/-- Items laid end to end from a place on. -/
def layout : Nat → List (List Byte) → List (Nat × List Byte)
  | _, [] => []
  | n, f :: fs => (n, f) :: layout (n + f.length) fs

/-- Each item of a layout stands at its place. -/
theorem holds_layout (pre : List Byte) (fs : List (List Byte)) (rest : List Byte) :
    ∀ item ∈ layout pre.length fs, Holds (pre ++ fs.flatten ++ rest) item.1 item.2 := by
  induction fs generalizing pre with
  | nil => exact nofun
  | cons f fs ih =>
    intro item hi
    rw [layout] at hi
    rcases List.mem_cons.1 hi with rfl | hi
    · have h := holds_within pre f (fs.flatten ++ rest)
      simpa using h
    · rw [← List.length_append] at hi
      have h := ih (pre ++ f) item hi
      simpa using h

/-- A record of a list of records of one length stands at its place. -/
theorem holds_flatMap {α : Type} {f : α → List Byte} {k : Nat} {l : List α} (hk : ∀ y ∈ l, (f y).length = k) (pre rest : List Byte) {i : Nat}
    {y : α} (h : l[i]? = some y) : Holds (pre ++ l.flatMap f ++ rest) (pre.length + k * i) (f y) := by
  induction l generalizing pre i with
  | nil => cases h
  | cons z l ih =>
    have hz : (f z).length = k := hk z List.mem_cons_self
    rw [List.flatMap_cons]
    cases i with
    | zero =>
      obtain rfl : z = y := Option.some.inj h
      have hh := holds_within pre (f z) (l.flatMap f ++ rest)
      simpa using hh
    | succ i =>
      have hh := ih (fun y hy => hk y (List.mem_cons_of_mem _ hy)) (pre ++ f z) (i := i) (by simpa using h)
      have place : (pre ++ f z).length + k * i = pre.length + k * (i + 1) := by
        rw [List.length_append, hz, Nat.mul_add, Nat.mul_one]
        omega
      rw [place] at hh
      simpa using hh

theorem flatMap_length_of {α : Type} {f : α → List Byte} {k : Nat} {l : List α} (hk : ∀ y ∈ l, (f y).length = k) :
    (l.flatMap f).length = k * l.length := by
  induction l with
  | nil => rfl
  | cons z l ih =>
    rw [List.flatMap_cons, List.length_append, hk z List.mem_cons_self, ih fun y hy => hk y (List.mem_cons_of_mem _ hy), List.length_cons,
      Nat.mul_add, Nat.mul_one]
    omega

end

/-! ### Lengths of records and bodies (section 11.3) -/

theorem noticeRecord_length (n : Notice) : (noticeRecord n).length = 21 := by simp [noticeRecord]

theorem historyRecord_length (r : HistoryRecord) : (historyRecord r).length = 7 := by simp [historyRecord]

theorem faultRecord_length (r : FaultRecord) : (faultRecord r).length = 20 := by simp [faultRecord]

theorem labelField_length (l : List Byte) : (labelField l).length = 16 := by
  simp only [labelField, List.length_append, List.length_take, List.length_replicate]
  omega

theorem podRecord_length (p : PodSlot) : (podRecord p).length = 30 := by simp [podRecord, labelField_length]

theorem noticesBody_length (s : State) : (noticesBody s).length = 1 + 21 * min 4 s.notices.queue.length := by
  rw [noticesBody, List.length_append, unsignedField_length, flatMap_length_of fun n _ => noticeRecord_length n, carriedNotices,
    List.length_take]

theorem faultsBody_length (s : State) : (faultsBody s).length = 1 + 20 * s.faults.records.length := by
  rw [faultsBody, List.length_append, unsignedField_length, flatMap_length_of fun r _ => faultRecord_length r]

theorem totalsBody_length (s : State) (h : s.meter.week.length ≤ 7) : (totalsBody s).length = 85 := by
  unfold totalsBody
  dsimp only
  rw [List.length_append, List.length_append, flatMap_length_of fun v _ => unsignedField_length 8 v,
    flatMap_length_of fun v _ => unsignedField_length 4 v, unsignedField_length, List.length_append, List.length_replicate]
  simp only [List.length_cons, List.length_nil]
  omega

theorem podListBody_length (s : State) : (podListBody s).length = 245 := by
  unfold podListBody
  rw [List.length_append, flatMap_length_of fun p _ => podRecord_length p, Vector.length_toList]
  split <;> simp

/-! ### STATUS (R177) -/

/-- The items of a tank in STATUS. -/
def tankFields (t : Tank) (s : State) : List (List Byte) :=
  let r := s.tank t
  [unsignedField 1 (serviceCode r.service), optionField 1 (r.step.map stepCode), optionField 1 (r.phase.map phaseCode),
    markField r.suspended, unsignedField 1 (deferralCode r.deferral), unsignedField 2 (remainingPermille (s.record t))]

/-- The items of STATUS, in order. -/
def statusFields (s : State) : List (List Byte) :=
  let l := s.leak.latch
  let e := s.leak.detector
  let c := s.seq.changeover
  let f := s.filter
  [stampField s.now, unsignedField 1 (supplyCode s.supply.state), unsignedField 2 s.supply.battery,
    unsignedField 1 (valveCode s.valve.state), unsignedField 1 (reasonsCode s.valve.reasons), markField s.targetClosed,
    optionField 1 (s.valve.stuck.map stuckCode), unsignedField 2 s.valve.exerciseDays, unsignedField 1 (exerciseCode s.valve.exercise),
    unsignedField 1 (leakModeCode s.settings.user.leak.mode), markField e.active.isSome, unsignedField 2 e.seconds,
    unsignedField 4 (if e.active.isSome then e.volume / 1000 else 0), unsignedField 2 e.burst, unsignedField 2 e.quiet,
    optionField 1 (l.map fun t => causeCode t.first), unsignedField 1 ((l.map fun t => causeSlot t.first).getD 255),
    stampOrNone (l.map Trip.time), signedField 4 ((l.map Trip.detail).getD 0), unsignedField 1 ((l.map fun t => t.further.length).getD 0),
    unsignedField 4 ((l.map Trip.litres).getD 0), unsignedField 1 (testPhaseCode s.leak.test.phase),
    optionField 1 (s.leak.record.result.map testResultCode), stampField s.leak.record.time, unsignedField 2 s.leak.record.p0,
    signedField 2 s.leak.record.decay, unsignedField 1 s.leak.record.microleaks] ++ tankFields .a s ++ tankFields .b s ++
  [optionField 1 (c.map fun c => changePhaseCode c.phase), optionField 1 (c.map fun c => tankCode c.outgoing),
    optionField 1 (s.seq.due.map tankCode), unsignedField 1 (positionCode s.disc.position), markField s.disc.inPlace,
    [discStateCode s.disc.state], unsignedField 1 (discModeCode s.disc.mode), markField (s.settings.user.soft.discMode != s.disc.mode),
    optionField 1 (if s.disc.state = .fault then s.disc.fault.map fun f => faultCodeOf f.1 else none),
    unsignedField 1 (targetCode s.disc.target), unsignedField 1 (ownerCode s.line.owner),
    optionField 1 (s.line.regen.bind fun e => if e.granted then some (tankCode e.tank) else none), unsignedField 1 s.line.pendingCode,
    unsignedField 2 s.meter.now.vIn, unsignedField 2 s.meter.now.vH, unsignedField 1 (filterCode f.state), unsignedField 2 (f.rs10 / 10),
    unsignedField 2 f.baseline, unsignedField 1 (dueCode f.due), unsignedField 4 (f.volume / 1000), unsignedField 2 f.days,
    unsignedField 4 (f.cartVolume / 1000), unsignedField 1 (f.cartDays / 30), markField f.cartDue, unsignedField 2 f.p1.reading,
    unsignedField 2 f.p2.reading, unsignedField 2 f.p3.reading, unsignedField 1 (setCode [f.p1.held, f.p2.held, f.p3.held]),
    unsignedField 1 (saltCode s.brine.salt), optionField 2 (forecast s), unsignedField 4 s.brine.inventory, optionField 2 s.brine.height,
    unsignedField 2 s.brine.level, unsignedField 1 (slotCount .active s), unsignedField 1 (slotCount .missing s),
    unsignedField 1 (slotCount .lost s), unsignedField 1 (slotCount .empty s),
    unsignedField 1 (s.pods.slots.toList.countP fun p => p.wet && p.shutoff)]

theorem statusBody_flatten (s : State) : statusBody s = (statusFields s).flatten := by
  cases hl : s.leak.latch
  all_goals
    simp [statusBody, statusSupply, statusShutoff, statusLeak, statusTest, statusTank, statusChangeover, statusDisc, statusLine, statusFilter,
      statusSalt, statusFields, tankFields, Filter.rs, Filter.cartMonths, hl, Detector.litres]

theorem statusBody_length (s : State) : (statusBody s).length = 130 := by
  rw [statusBody_flatten]
  simp [statusFields, tankFields]

/-! ### Replies (R172) -/

theorem Status.carriesBody_iff (a : Status) : a.carriesBody = true ↔ a = .ok ∨ a = .clamped ∨ a = .accepted := by
  cases a <;> simp [carriesBody]

theorem replyPayload_eq (a : Answered) (s : State) : replyPayload a s = [statusCode a.status] ++ unsignedField 1 s.notices.queue.length
    ++ unsignedField 1 (setCode [s.link.overrun, s.clock.unset, s.pins.svc, s.notices.lost, s.faults.overflow]) ++ reasonField a
    ++ (if a.status = .ok ∨ a.status = .clamped ∨ a.status = .accepted then a.body else []) := by
  simp only [replyPayload, headerFlags, Status.carriesBody_iff]

/-! ### The reads (R8, R17, R166, R183, R187) -/

section
variable (s : State)

theorem noticesBody_record {i : Nat} {n : Notice} (hi : i < 4) (h : s.notices.queue[i]? = some n) :
    Holds (noticesBody s) (1 + 21 * i) (noticeRecord n) := by
  have carried : (carriedNotices s)[i]? = some n := by rw [carriedNotices, List.getElem?_take_of_lt hi, h]
  have hh := holds_flatMap (fun n _ => noticeRecord_length n) (unsignedField 1 (carriedNotices s).length) [] carried
  rwa [List.append_nil, unsignedField_length] at hh

theorem historyBody_record {i : Nat} {r : HistoryRecord} (hi : i < 20) (h : s.meter.history.ring[s.meter.history.cursor + i]? = some r) :
    Holds (historyBody s) (4 + 7 * i) (historyRecord r) := by
  have carried : (carriedHistory s.meter.history)[i]? = some r := by
    rw [carriedHistory, List.getElem?_take_of_lt hi, List.getElem?_drop, h]
  have hh := holds_flatMap (fun r _ => historyRecord_length r) (markField s.meter.history.gap
    ++ unsignedField 2 (s.meter.history.unread - (carriedHistory s.meter.history).length)
    ++ unsignedField 1 (carriedHistory s.meter.history).length) [] carried
  rw [List.append_nil, List.length_append, List.length_append, markField_length, unsignedField_length, unsignedField_length] at hh
  exact hh

theorem historyBody_header : Holds (historyBody s) 0 (markField s.meter.history.gap
    ++ unsignedField 2 (s.meter.history.unread - min 20 s.meter.history.unread) ++ unsignedField 1 (min 20 s.meter.history.unread)) := by
  have carried : (carriedHistory s.meter.history).length = min 20 s.meter.history.unread := carriedHistory_length _
  rw [← carried]
  exact holds_first _ _

/-- The figures of TOTALS_READ, in order (R8). -/
def totalsList (t : Totals) : List Nat := [t.inlet, t.process, t.house, t.flush, t.treatedA, t.treatedB, t.hardWater]

theorem totalsBody_figure {i v : Nat} (h : (totalsList s.meter.totals)[i]? = some v) : Holds (totalsBody s) (8 * i) (unsignedField 8 v) := by
  have hh := holds_flatMap (f := unsignedField 8) (fun v _ => unsignedField_length 8 v) [] (unsignedField 1 s.meter.week.length
    ++ (s.meter.week ++ List.replicate (7 - s.meter.week.length) 0).flatMap (unsignedField 4)) h
  rwa [List.nil_append, List.length_nil, Nat.zero_add, ← List.append_assoc] at hh

theorem totalsBody_days : Holds (totalsBody s) 56 (unsignedField 1 s.meter.week.length) := by
  have hh := holds_within ((totalsList s.meter.totals).flatMap (unsignedField 8)) (unsignedField 1 s.meter.week.length)
    ((s.meter.week ++ List.replicate (7 - s.meter.week.length) 0).flatMap (unsignedField 4))
  rw [flatMap_length_of fun v _ => unsignedField_length 8 v] at hh
  exact hh

theorem totalsBody_day {i v : Nat} (h : s.meter.week[i]? = some v) : Holds (totalsBody s) (57 + 4 * i) (unsignedField 4 v) := by
  have day : (s.meter.week ++ List.replicate (7 - s.meter.week.length) 0)[i]? = some v := by
    rw [List.getElem?_append_left (List.getElem?_eq_some_iff.1 h).1, h]
  have hh := holds_flatMap (f := unsignedField 4) (fun v _ => unsignedField_length 4 v)
    ((totalsList s.meter.totals).flatMap (unsignedField 8) ++ unsignedField 1 s.meter.week.length) [] day
  rw [List.append_nil, List.length_append, unsignedField_length, flatMap_length_of fun v _ => unsignedField_length 8 v] at hh
  exact hh

theorem podListBody_record (n : Fin 8) : Holds (podListBody s) (30 * n.val) (podRecord (s.slot n)) := by
  have slot : s.pods.slots.toList[n.val]? = some (s.slot n) := by
    rw [List.getElem?_eq_getElem (by rw [Vector.length_toList]; exact n.isLt)]
    rfl
  have hh (rest : List Byte) := holds_flatMap (fun p _ => podRecord_length p) [] rest slot
  unfold podListBody
  have h0 := hh (match s.pods.window with
    | some w => markField true ++ unsignedField 2 w.remaining ++ unsignedField 1 w.new ++ unsignedField 1 w.again
    | none => markField false ++ [Config.closedWindowByte 0, Config.closedWindowByte 1, Config.closedWindowByte 2, Config.closedWindowByte 3])
  rw [List.nil_append, List.length_nil, Nat.zero_add] at h0
  exact h0

theorem podRecords_length : (s.pods.slots.toList.flatMap podRecord).length = 240 := by
  rw [flatMap_length_of fun p _ => podRecord_length p, Vector.length_toList]

theorem podListBody_closed (h : s.pods.window = none) : Holds (podListBody s) 240 (markField false) := by
  have hh := holds_within (s.pods.slots.toList.flatMap podRecord) (markField false)
    [Config.closedWindowByte 0, Config.closedWindowByte 1, Config.closedWindowByte 2, Config.closedWindowByte 3]
  rw [podRecords_length, List.append_assoc] at hh
  unfold podListBody
  rw [h]
  exact hh

theorem podListBody_open {w : Enrolment} (h : s.pods.window = some w) : Holds (podListBody s) 240 (markField true)
    ∧ Holds (podListBody s) 241 (unsignedField 2 w.remaining ++ unsignedField 1 w.new ++ unsignedField 1 w.again) := by
  have body : podListBody s = s.pods.slots.toList.flatMap podRecord ++ markField true
      ++ (unsignedField 2 w.remaining ++ unsignedField 1 w.new ++ unsignedField 1 w.again) := by
    unfold podListBody
    rw [h]
    simp
  have mark := holds_within (s.pods.slots.toList.flatMap podRecord) (markField true)
    (unsignedField 2 w.remaining ++ unsignedField 1 w.new ++ unsignedField 1 w.again)
  have counts := holds_last (s.pods.slots.toList.flatMap podRecord ++ markField true)
    (unsignedField 2 w.remaining ++ unsignedField 1 w.new ++ unsignedField 1 w.again)
  rw [podRecords_length] at mark
  rw [List.length_append, podRecords_length, markField_length] at counts
  rw [body]
  exact ⟨mark, counts⟩

theorem faultsBody_record {i : Nat} {r : FaultRecord} (h : s.faults.records[i]? = some r) :
    Holds (faultsBody s) (1 + 20 * i) (faultRecord r) := by
  have hh := holds_flatMap (fun r _ => faultRecord_length r) (unsignedField 1 s.faults.records.length) [] h
  rwa [List.append_nil, unsignedField_length] at hh

end

/-- Settles O52: the reply's frame, the requests that only read, and every item at its place. -/
theorem repliesAndReads : Obligations.RepliesAndReads := by
  refine ⟨fun c r svc tag s hc hw h => ?reply, fun svc tag s h => ?reads,
    fun s => ⟨statusBody_length s, podListBody_length s, noticesBody_length s⟩, fun s => ?status, fun s => ?records⟩
  case reply =>
    intro v a payload
    have svc_read : v.pins.svc = svc := congrArg Pins.svc (takeRequest_pins (frameDropped (s.withSvc svc)) tag r)
    have hp : replyPayload a v = payload := by
      rw [replyPayload_eq, svc_read]
      rfl
    refine ⟨buildReply (r.frame tag) (r.kind + 0x80) (v, a), _, exec_answers hc h hw rfl, rfl, rfl, rfl, rfl, rfl, rfl, rfl, hp, ?_, rfl⟩
    intro checked
    show (goodFrame (r.kind + 0x80) tag (replyPayload a v)).wire = _
    rw [hp]
    rfl
  case reads =>
    exact ⟨exec_answers rfl h trivial rfl, exec_answers rfl h trivial rfl, exec_answers rfl h trivial rfl, exec_answers rfl h trivial rfl,
      exec_answers rfl h trivial rfl⟩
  case status =>
    intro l e c f tank item hi
    have hh := holds_layout [] (statusFields s) [] item
    rw [List.nil_append, List.append_nil, ← statusBody_flatten] at hh
    refine hh ?_
    simp only [layout, statusFields, tankFields, List.cons_append, List.nil_append, List.length_nil, List.length_cons, unsignedField_length,
      signedField_length, optionField_length, markField_length, stampField_length, stampOrNone_length, Nat.reduceAdd]
    exact hi
  case records =>
    intro h unread t
    refine ⟨?_, fun i n hi hn => noticesBody_record s hi hn, historyBody_header s, fun i r hi hr => historyBody_record s hi hr,
      fun i v hv => totalsBody_figure s hv, totalsBody_days s, fun i v _ hv => totalsBody_day s hv, ?_, ?_,
      fun w hw => (podListBody_open s hw).2, holds_first _ _,
      fun i r hr => ⟨faultsBody_record s hr, faultsBody_length s, totalsBody_length s⟩⟩
    · have carried : (carriedNotices s).length = min 4 s.notices.queue.length := List.length_take
      rw [← carried]
      exact holds_first _ _
    · intro n p
      have hh := podListBody_record s n
      rw [podRecord, labelField, ← List.append_assoc] at hh
      exact hh
    · cases hw : s.pods.window with
      | none => exact podListBody_closed s hw
      | some w => exact (podListBody_open s hw).1

end Sys2Proof.Machine

/-! A move of the sequencer that waits is asked for when the disc is free: O21. -/

namespace Sys2Proof.Machine

set_option Elab.async false

section
variable {s : State}

theorem moving_notFree {d : Disc} (p : Pos) (h : s.disc = d.moveTo p) : s.discFree = false := by
  have moving : ∀ e : Disc, e.start.state ≠ .atPosition := fun e => by
    show e.moving ≠ _
    rw [Disc.moving]
    split <;> exact fun h' => nomatch h'
  have hs : s.disc.state ≠ .atPosition := h ▸ moving _
  simp [State.discFree, hs]

theorem firstMove_held {k : Tank} (h : s.discFree = false) : firstMove k s = s := by
  rw [firstMove]
  split
  · exact if_neg fun hc => by simp [h] at hc
  · rfl

theorem firstMove_idle {k : Tank} (h : (s.tank k).service ≠ .regenerating) : firstMove k s = s := by
  rw [firstMove]
  split
  · exact if_neg fun hc => h hc.1
  · rfl

theorem firstMove_begun {k : Tank} (h : (s.tank k).phase ≠ some .toStep) : firstMove k s = s := by
  rw [firstMove]
  split
  · exact if_neg fun hc => h hc.2.1
  · rfl

theorem stepMove_begun {k : Tank} (h : (s.tank k).phase ≠ some .stepEnded) : stepMove k s = s := if_neg fun hc => h hc.2.1

theorem changeoverMove_none (h : s.seq.changeover = none) : changeoverMove s = s := by rw [changeoverMove, h]

/-- With no tank to move for, the moves asked for at an event are one tank's (R70, R74). -/
theorem waitingMoves_tank (k : Tank) (hc : s.seq.changeover = none) (ho : (s.tank k.other).service ≠ .regenerating)
    (hm : ((firstMove k s).tank k.other).service ≠ .regenerating)
    (hs : ((stepMove k (firstMove k s)).tank k.other).service ≠ .regenerating) :
    waitingMoves s = stepMove k (firstMove k s) := by
  rw [waitingMoves, changeoverMove_none hc]
  cases k
  · have hm' : ((firstMove .a s).tank .b).service ≠ .regenerating := hm
    have hs' : ((stepMove .a (firstMove .a s)).tank .b).service ≠ .regenerating := hs
    rw [firstMove_idle hm', stepMove_idle hs']
  · have ho' : (s.tank .a).service ≠ .regenerating := ho
    have hm' : ((firstMove .b s).tank .a).service ≠ .regenerating := hm
    rw [firstMove_idle ho', stepMove_idle hm']

/-- A move for a changeover keeps the others from being asked for. -/
theorem waitingMoves_changeover {p : Pos} (h : changeoverMove s = { s with disc := s.disc.moveTo p }) :
    waitingMoves s = { s with disc := s.disc.moveTo p } := by
  rw [waitingMoves, h]
  have held : ({ s with disc := s.disc.moveTo p } : State).discFree = false := moving_notFree p rfl
  rw [firstMove_held held, firstMove_held held, stepMove_held held, stepMove_held held]

/-- The first move of a regeneration asked for again (R70). -/
theorem askStepMove_moves {k : Tank} {x : Step} (hf : s.discFree = true) (hp : s.disc.position ≠ some (stepPosition k x)) :
    askStepMove k x s = { s with disc := s.disc.moveTo (stepPosition k x) } := by
  have reply : moveReply (stepPosition k x) s = .started := by rw [moveReply, hf, if_pos rfl, if_neg hp]
  simp only [askStepMove, discRequest, reply, reduceCtorEq, if_false]
  rfl

/-- A tank record replaced with its report leaves the other tank, the disc and the setting of its mode. -/
theorem changeTank_asksMove {k : Tank} {r : TankRecord} {p : Pos} (hf : s.discFree = true) (hp : s.disc.position ≠ some p) :
    askMove p (changeTank k r s) = { changeTank k r s with disc := s.disc.moveTo p } := by
  have e : (changeTank k r s).disc = s.disc := by simp
  have free : (changeTank k r s).discFree = true := by rw [State.discFree, e]; exact hf
  rw [askMove_moves free (e ▸ hp), e]

/-- The move to the next step (R74). -/
theorem stepMove_next {k : Tank} {x n : Step} (hg : (s.tank k).service = .regenerating) (hx : (s.tank k).step = some x)
    (hp : (s.tank k).phase = some .stepEnded) (hl : lineConditions k s = true) (hn : nextStep x = some n) :
    stepMove k s = askMove (stepPosition k n)
      (changeTank k { s.tank k with step := some n, phase := some .toStep, elapsed := 0, elapsedMin := 0 } s) := by
  rw [stepMove, if_pos ⟨hg, hp, hl⟩]
  simp only [hx, hn]

/-- After REFILL, the move to READY (R74). -/
theorem stepMove_ready {k : Tank} (hg : (s.tank k).service = .regenerating) (hx : (s.tank k).step = some .refill)
    (hp : (s.tank k).phase = some .stepEnded) (hl : lineConditions k s = true) :
    stepMove k s = askMove (readyPosition k) (changeTank k { s.tank k with phase := some .toReady } s) := by
  rw [stepMove, if_pos ⟨hg, hp, hl⟩]
  simp only [hx, nextStep]

end

/-- Settles O21: the disc moves for the first that waits, and the moving disc refuses the others. -/
theorem waitingMovesAreAskedFor : Obligations.WaitingMovesAreAskedFor := by
  unfold Obligations.WaitingMovesAreAskedFor
  intro s hs hf moves
  refine ⟨fun c hc hp hm hq => ?_, fun c hc hp hq => ?_, fun t k hc ht ho hk => ⟨fun hp hq => ?_, fun hp hl => ?_⟩⟩
  · refine event_leaves hs (waitingMoves_changeover (p := changePosition c.outgoing) ?_)
    simp only [changeoverMove, hc, hp, hf, hm, and_self, if_true]
    exact askMove_moves hf hq
  · refine event_leaves hs (waitingMoves_changeover (p := holdPosition c.outgoing) ?_)
    simp only [changeoverMove, hc, hp, hf, if_true]
    exact askMove_moves hf hq
  · have first : firstMove t s = { s with disc := s.disc.moveTo (stepPosition t k) } := by
      simp only [firstMove, hk, ht, hp, hf, and_self, if_true]
      exact askStepMove_moves hf hq
    have held : (firstMove t s).discFree = false := by rw [first]; exact moving_notFree (d := s.disc) _ rfl
    have other : ((firstMove t s).tank t.other).service ≠ .regenerating := by rw [first]; exact ho
    have step : stepMove t (firstMove t s) = firstMove t s := stepMove_held held
    exact event_leaves hs ((waitingMoves_tank t hc ho other (step.symm ▸ other)).trans (step.trans first))
  · have first : firstMove t s = s := firstMove_begun (by simp [hp])
    have moved {r : TankRecord} {p : Pos} (hq : s.disc.position ≠ some p) (h : stepMove t s = askMove p (changeTank t r s)) :
        exec .sequencerMoveRequest s = commit s (follow { changeTank t r s with disc := s.disc.moveTo p }) := by
      have step := h.trans (changeTank_asksMove hf hq)
      have other : ((stepMove t s).tank t.other).service ≠ .regenerating := by
        rw [step]
        exact (changeTank_tank_other s t r).symm ▸ ho
      refine event_leaves hs ((waitingMoves_tank t hc ho ?_ ?_).trans ?_) <;> rw [first]
      · exact ho
      · exact other
      · exact step
    refine ⟨fun n hn hq => moved hq (stepMove_next ht hk hp hl hn), fun hr hq => moved hq ?_⟩
    exact stepMove_ready ht (hr ▸ hk) hp hl

end Sys2Proof.Machine

/-! What one event posts, and the Brine Monitor's judgements: O26. -/

namespace Sys2Proof.Machine

set_option Elab.async false

/-! ### What a queue tells -/

/-- A notice stands in the queue with the values of `n`. -/
def NoticeQueue.tells (q : NoticeQueue) (n : Notice) : Prop :=
  ∃ m ∈ q.queue, m.kind = n.kind ∧ m.subject = n.subject ∧ m.stamp = n.stamp ∧ m.v1 = n.v1 ∧ m.v2 = n.v2 ∧ m.v3 = n.v3

/-- The queue `r` comes from `q` by at most `k` notices: with room for them no other notice than a state notice leaves. -/
structure Adds (k : Nat) (q r : NoticeQueue) : Prop where
  length : r.queue.length ≤ q.queue.length + k
  keeps : q.queue.length + k ≤ 24 → ∀ m ∈ q.queue, isStateKind m.kind = false → m ∈ r.queue

section
variable {q r : NoticeQueue} {n : Notice} {k : Nat}

/-- A notice other than a state notice is appended where there is room (R181). -/
theorem NoticeQueue.post_plain (hn : isStateKind n.kind = false) (hl : q.queue.length < 24) :
    q.post n = { q with queue := q.queue ++ [n] } :=
  NoticeQueue.post_append (fun m _ => by simp [Notice.mergesInto, hn]) hl

theorem Adds.refl (k : Nat) (q : NoticeQueue) : Adds k q q := ⟨Nat.le_add_right _ _, fun _ _ hm _ => hm⟩

theorem Adds.trans {j : Nat} {t : NoticeQueue} (h : Adds k q r) (h' : Adds j r t) : Adds (k + j) q t := by
  obtain ⟨hl, hk⟩ := h
  obtain ⟨hl', hk'⟩ := h'
  exact ⟨by omega, fun hr m hm hn => hk' (by omega) m (hk (by omega) m hm hn) hn⟩

theorem Adds.post (q : NoticeQueue) (n : Notice) : Adds 1 q (q.post n) := by
  unfold NoticeQueue.post
  split
  next merged =>
    refine ⟨by simp, fun _ m hm hk => List.mem_map.2 ⟨m, hm, if_neg fun hn => ?_⟩⟩
    simp only [Notice.mergesInto, Bool.and_eq_true, beq_iff_eq] at hn
    rw [hn.1.2, hn.1.1] at hk
    cases hk
  next =>
    split
    · exact ⟨by simp, fun _ m hm _ => List.mem_append_left _ hm⟩
    · split
      · refine ⟨?_, fun hr => by omega⟩
        have := (List.eraseP_sublist (p := fun m : Notice => isStateKind m.kind) (l := q.queue)).length_le
        simp only [List.length_append, List.length_singleton]
        omega
      · exact ⟨by simp, fun hr => by omega⟩

/-- With room in the queue a posted notice stands there, appended or merged (R181). -/
theorem NoticeQueue.tells_post (q : NoticeQueue) (n : Notice) (hl : q.queue.length < 24) : (q.post n).tells n := by
  unfold NoticeQueue.post
  split
  next merged =>
    obtain ⟨m, hm, hn⟩ := List.any_eq_true.1 merged
    refine ⟨m.merge n, List.mem_map.2 ⟨m, hm, if_pos hn⟩, ?_⟩
    simp only [Notice.mergesInto, Bool.and_eq_true, beq_iff_eq] at hn
    exact ⟨hn.1.2, hn.2, rfl, rfl, rfl, rfl⟩
  next =>
    exact ⟨n, List.mem_append_right _ (List.mem_singleton.2 rfl), rfl, rfl, rfl, rfl, rfl, rfl⟩

theorem NoticeQueue.tells.adds (h : q.tells n) (hn : isStateKind n.kind = false) (ha : Adds k q r) (hl : q.queue.length + k ≤ 24) :
    r.tells n := by
  obtain ⟨m, hm, hk, values⟩ := h
  exact ⟨m, ha.keeps hl m hm (hk ▸ hn), hk, values⟩

/-- A notice other than a state notice leaves what the queue tells, where there is room. -/
theorem NoticeQueue.tells.post {m : Notice} (h : q.tells n) (hm : isStateKind m.kind = false) (hl : q.queue.length < 24) :
    (q.post m).tells n := by
  obtain ⟨x, hx, values⟩ := h
  rw [NoticeQueue.post_plain hm hl]
  exact ⟨x, List.mem_append_left _ hx, values⟩

end

/-! ### The Brine Monitor's judgements (R101 to R105) -/

/-- What the judgement of the salt and the forecast keep: they change the salt state and the marks of the reminders, and post. -/
structure Judged (s t : State) : Prop where
  others : t = { s with
    brine := { s.brine with salt := t.brine.salt, lastReminder := t.brine.lastReminder, forecastArmed := t.brine.forecastArmed }
    notices := t.notices }

section
variable {s t u : State}

theorem Judged.refl (s : State) : Judged s s := ⟨rfl⟩

theorem Judged.trans (h : Judged s t) (h' : Judged t u) : Judged s u := by
  have e := h'.others
  rw [h.others] at e
  exact ⟨e⟩

theorem forecast_congr (hl : t.brine.log = s.brine.log) (hi : t.brine.inventory = s.brine.inventory) (hn : t.now = s.now) :
    forecast t = forecast s := by
  unfold forecast
  rw [hl, hi, hn]

theorem Judged.forecast (h : Judged s t) : forecast t = Machine.forecast s :=
  forecast_congr (by rw [h.others]) (by rw [h.others]) (by rw [h.others]; rfl)

/-- The SALT_REMINDER of a reason as the state stands (R103). -/
def State.reminder (reason : Nat) (s : State) : Notice where
  kind := .saltReminder
  subject := .none
  stamp := s.now
  v1 := reason
  v2 := saltCode s.brine.salt
  v3 := forecastDays (forecast s)

theorem saltReminder_eq (reason : Nat) (s : State) : saltReminder reason s = { s with notices := s.notices.post (s.reminder reason) } := by
  unfold saltReminder State.reminder forecastDays
  cases forecast s <;> rfl

theorem judged_forecastReminder (s : State) : Judged s (forecastReminder s) := by
  unfold forecastReminder
  dsimp only
  repeat' split
  all_goals exact ⟨rfl⟩

theorem adds_forecastReminder (s : State) : Adds 1 s.notices (forecastReminder s).notices := by
  unfold forecastReminder
  dsimp only
  repeat' split
  case' h_1.isTrue.isTrue => rw [saltReminder_eq]; exact .post _ _
  all_goals exact .refl _ _

theorem forecastReminder_judgement (s : State) : (forecastReminder s).brine.salt = s.brine.salt
    ∧ (forecastReminder s).brine.lastReminder = s.brine.lastReminder := by
  unfold forecastReminder
  dsimp only
  repeat' split
  all_goals exact ⟨rfl, rfl⟩

/-- An armed forecast that is not within its days stays armed (R105). -/
theorem forecastReminder_armed (ha : s.brine.forecastArmed = true)
    (h : s.settings.user.salt.forecastDays = 0 ∨ ∀ d, forecast s = some d → s.settings.user.salt.forecastDays < d) :
    (forecastReminder s).brine.forecastArmed = true := by
  unfold forecastReminder
  dsimp only
  split
  · exact ha
  next hz =>
    split
    next d hd =>
      have hd' := h.resolve_left hz d hd
      rw [if_neg (by omega)]
    next => rfl

/-- An armed forecast within its days posts the reminder and disarms it (R105). -/
theorem forecastReminder_due {d : Nat} (ha : s.brine.forecastArmed = true) (hz : s.settings.user.salt.forecastDays ≠ 0)
    (hd : forecast s = some d) (hle : d ≤ s.settings.user.salt.forecastDays) :
    (forecastReminder s).brine.forecastArmed = false ∧ (forecastReminder s).notices = s.notices.post (s.reminder 2) := by
  have e : forecastReminder s = { saltReminder 2 s with brine := { (saltReminder 2 s).brine with forecastArmed := false } } := by
    simp only [forecastReminder, if_neg hz, hd, if_pos hle, if_pos ha]
  rw [e, saltReminder_eq]
  exact ⟨rfl, rfl⟩

/-- The SALT_STATE of a new salt state (R103). -/
def State.saltTold (n : SaltState) (s : State) : Notice where
  kind := .saltState
  subject := .none
  stamp := s.now
  v1 := saltCode n
  v2 := (s.brine.height.getD 0 : Nat)
  v3 := s.brine.inventory

/-- The state with its salt state replaced. -/
def State.salted (n : SaltState) (s : State) : State := { s with brine := { s.brine with salt := n } }

theorem setSalt_changes {n : SaltState} (h : s.brine.salt ≠ n) : setSalt n s =
    if saltCode s.brine.salt < saltCode n then
      { s with
        brine := { s.brine with salt := n, lastReminder := s.clock.day }
        notices := (s.notices.post (s.saltTold n)).post ((s.salted n).reminder 0) }
    else { s with brine := { s.brine with salt := n }, notices := s.notices.post (s.saltTold n) } := by
  rw [setSalt]
  simp only [if_neg h, saltReminder_eq]
  rfl

theorem judged_setSalt (n : SaltState) (s : State) : Judged s (setSalt n s) := by
  by_cases h : s.brine.salt = n
  · rw [setSalt, if_pos h]
    exact .refl s
  · rw [setSalt_changes h]
    split <;> exact ⟨rfl⟩

theorem setSalt_brine (n : SaltState) (s : State) : (setSalt n s).brine = { s.brine with
    salt := n, lastReminder := if saltCode s.brine.salt < saltCode n then s.clock.day else s.brine.lastReminder } := by
  by_cases h : s.brine.salt = n
  · rw [setSalt, if_pos h, ← h, if_neg (Nat.lt_irrefl _)]
  · rw [setSalt_changes h]
    split <;> rfl

theorem adds_setSalt (n : SaltState) (s : State) : Adds 2 s.notices (setSalt n s).notices := by
  by_cases h : s.brine.salt = n
  · rw [setSalt, if_pos h]
    exact .refl _ _
  · rw [setSalt_changes h]
    split
    · exact (Adds.post _ _).trans (.post _ _)
    · exact (Adds.post _ _).trans (.refl 1 _)

/-- A salt state that has become worse is told with a reminder (R103). -/
theorem setSalt_reminds {n : SaltState} (h : saltCode s.brine.salt < saltCode n) (hl : s.notices.queue.length < 23) :
    (setSalt n s).notices.tells ((s.salted n).reminder 0) := by
  rw [setSalt_changes (fun e => by rw [e] at h; exact Nat.lt_irrefl _ h), if_pos h]
  have := (Adds.post s.notices (s.saltTold n)).length
  exact NoticeQueue.tells_post _ _ (by omega)

/-- A salt state that has changed is told (R103). -/
theorem setSalt_tells {n : SaltState} (h : s.brine.salt ≠ n) (hl : s.notices.queue.length < 23) :
    (setSalt n s).notices.tells (s.saltTold n) := by
  have told := NoticeQueue.tells_post s.notices (s.saltTold n) (by omega)
  rw [setSalt_changes h]
  split
  · have := (Adds.post s.notices (s.saltTold n)).length
    exact told.post rfl (by omega)
  · exact told

theorem judged_evaluateSaltMass (s : State) : Judged s (evaluateSaltMass s) := by
  unfold evaluateSaltMass
  split
  · exact .refl s
  · exact judged_setSalt _ s

theorem judged_inventoryChanged (g : Nat) (s : State) : Judged s (inventoryChanged g s) := by
  unfold inventoryChanged
  split
  · exact .refl s
  · exact (judged_evaluateSaltMass s).trans (judged_forecastReminder _)

end

/-! ### SALT_FILLED (R99) -/

section
variable {s : State} {g : BitVec 32}

/-- The inventory after SALT_FILLED (R99). -/
def State.fill (g : BitVec 32) (s : State) : Nat :=
  if g = 0xFFFFFFFF#32 then saltCapacity s else min (saltCapacity s) (s.brine.inventory + g.toNat)

/-- The state with the inventory of SALT_FILLED taken, before its judgements (R99). -/
def State.filled (g : BitVec 32) (s : State) : State := { s with brine := { s.brine with
  inventory := s.fill g
  bridge := s.brine.height.map fun h => { height := h, inventory := s.fill g }
  bridgePosted := false
  forecastArmed := true
  filledReading := s.brine.filledReading || s.settings.inst.sensorFitted } }

theorem saltFilledEffect_eq (g : BitVec 32) (s : State) : saltFilledEffect g s =
    if s.fill g = s.brine.inventory then evaluateSaltMass (s.filled g) else forecastReminder (evaluateSaltMass (s.filled g)) := by
  unfold saltFilledEffect State.filled
  cases s.brine.height <;> rfl

theorem judged_saltFilledEffect (g : BitVec 32) (s : State) : Judged (s.filled g) (saltFilledEffect g s) := by
  rw [saltFilledEffect_eq]
  split
  · exact judged_evaluateSaltMass _
  · exact (judged_evaluateSaltMass _).trans (judged_forecastReminder _)

/-- The salt state after SALT_FILLED is the one that the evaluation of the mass gives. -/
theorem saltFilledEffect_salt (g : BitVec 32) (s : State) : (saltFilledEffect g s).brine.salt = (evaluateSaltMass (s.filled g)).brine.salt
    ∧ (saltFilledEffect g s).brine.lastReminder = (evaluateSaltMass (s.filled g)).brine.lastReminder := by
  rw [saltFilledEffect_eq]
  split
  · exact ⟨rfl, rfl⟩
  · exact forecastReminder_judgement _

theorem saltFilledEffect_adds (g : BitVec 32) (s : State) :
    Adds 1 (evaluateSaltMass (s.filled g)).notices (saltFilledEffect g s).notices := by
  rw [saltFilledEffect_eq]
  split
  · exact .refl _ _
  · exact adds_forecastReminder _

theorem evaluateSaltMass_setSalt (h : s.settings.inst.sensorFitted = false) :
    evaluateSaltMass s = setSalt (saltByMass s.brine.salt s.brine.inventory s.settings.user.salt.lowKg) s := by
  rw [evaluateSaltMass, h, if_neg Bool.false_ne_true]

theorem evaluateSaltMass_length (s : State) : (evaluateSaltMass s).notices.queue.length ≤ s.notices.queue.length + 2 := by
  unfold evaluateSaltMass
  split
  · exact Nat.le_add_right _ _
  · exact (adds_setSalt _ s).length

theorem evaluateSaltMass_armed (s : State) : (evaluateSaltMass s).brine.forecastArmed = s.brine.forecastArmed := by
  unfold evaluateSaltMass
  split
  · rfl
  · rw [setSalt_brine]

/-- A salt state worse after SALT_FILLED is told with a reminder (R103). -/
theorem saltFilledEffect_worse (h : saltCode s.brine.salt < saltCode (saltFilledEffect g s).brine.salt) :
    (saltFilledEffect g s).brine.lastReminder = s.clock.day
    ∧ Told .saltReminder 0 (saltCode (saltFilledEffect g s).brine.salt) (forecastDays (forecast (saltFilledEffect g s))) s (saltFilledEffect g s) := by
  have day := (saltFilledEffect_salt g s).2
  rw [(saltFilledEffect_salt g s).1] at h ⊢
  have unfitted : (s.filled g).settings.inst.sensorFitted = false := by
    refine Bool.eq_false_iff.2 fun hf => ?_
    rw [evaluateSaltMass_fitted hf] at h
    exact absurd h (Nat.lt_irrefl _)
  have e := evaluateSaltMass_setSalt unfitted
  rw [e, setSalt_brine] at h day ⊢
  have worse : saltCode (s.filled g).brine.salt < saltCode (saltByMass (s.filled g).brine.salt (s.filled g).brine.inventory
    (s.filled g).settings.user.salt.lowKg) := h
  refine ⟨day.trans (if_pos worse), fun hl => ?_⟩
  have room : (s.filled g).notices.queue.length < 16 := hl
  have told := setSalt_reminds worse (by omega)
  have adds := saltFilledEffect_adds g s
  rw [e] at adds
  have length := (adds_setSalt (saltByMass (s.filled g).brine.salt (s.filled g).brine.inventory
    (s.filled g).settings.user.salt.lowKg) (s.filled g)).length
  obtain ⟨m, hm, hk, hsubj, hst, h1, h2, h3⟩ := told.adds rfl adds (by omega)
  refine ⟨m, hm, hk, hsubj, hst, h1, h2, h3.trans ?_⟩
  rw [(judged_saltFilledEffect g s).forecast]
  rfl

/-- A forecast within its days, when SALT_FILLED changes the inventory, posts the reminder (R105, log entry 5). -/
theorem saltFilledEffect_due {d : Nat} (hc : s.fill g ≠ s.brine.inventory) (hz : s.settings.user.salt.forecastDays ≠ 0)
    (hd : forecast (saltFilledEffect g s) = some d) (hle : d ≤ s.settings.user.salt.forecastDays) :
    (saltFilledEffect g s).brine.forecastArmed = false
    ∧ Told .saltReminder 2 (saltCode (saltFilledEffect g s).brine.salt) d s (saltFilledEffect g s) := by
  have salt := (saltFilledEffect_salt g s).1
  have e : saltFilledEffect g s = forecastReminder (evaluateSaltMass (s.filled g)) := (saltFilledEffect_eq g s).trans (if_neg hc)
  have judged := judged_evaluateSaltMass (s.filled g)
  have same : forecast (evaluateSaltMass (s.filled g)) = some d := by
    rw [judged.forecast, ← (judged_saltFilledEffect g s).forecast, hd]
  have settings : (evaluateSaltMass (s.filled g)).settings = s.settings := by rw [judged.others]; rfl
  have stamp : (evaluateSaltMass (s.filled g)).now = s.now := by rw [judged.others]; rfl
  have length := evaluateSaltMass_length (s.filled g)
  obtain ⟨disarmed, posted⟩ := forecastReminder_due (evaluateSaltMass_armed (s.filled g)) (settings ▸ hz) same (settings ▸ hle)
  refine ⟨e ▸ disarmed, fun hl => ?_⟩
  have room : (s.filled g).notices.queue.length < 16 := hl
  obtain ⟨m, hm, hk, hsubj, hst, h1, h2, h3⟩ := NoticeQueue.tells_post (evaluateSaltMass (s.filled g)).notices
    ((evaluateSaltMass (s.filled g)).reminder 2) (by omega)
  rw [← posted, ← e] at hm
  refine ⟨m, hm, hk, hsubj, hst.trans stamp, h1, h2.trans ?_, h3.trans ?_⟩
  · rw [salt]
    rfl
  · show forecastDays (forecast _) = _
    rw [same]
    rfl

/-- A forecast that is not evaluated, or not within its days, stays armed after SALT_FILLED (R105). -/
theorem saltFilledEffect_armed (h : s.fill g = s.brine.inventory ∨ s.settings.user.salt.forecastDays = 0
    ∨ ∀ d, forecast (saltFilledEffect g s) = some d → s.settings.user.salt.forecastDays < d) :
    (saltFilledEffect g s).brine.forecastArmed = true := by
  have armed := evaluateSaltMass_armed (s.filled g)
  have judged := judged_evaluateSaltMass (s.filled g)
  have settings : (evaluateSaltMass (s.filled g)).settings = s.settings := by rw [judged.others]; rfl
  rw [(judged_saltFilledEffect g s).forecast, ← judged.forecast] at h
  rw [saltFilledEffect_eq]
  split
  next => exact armed
  next hc =>
    refine forecastReminder_armed armed ?_
    rw [settings]
    exact h.resolve_left hc

end

/-- The forecast by the salt log (R104). -/
theorem forecast_short {s : State} (h : s.brine.log.length < 2) : forecast s = none := by
  unfold forecast
  split
  next e => rw [e] at h; simp at h
  next => rfl

theorem forecast_long {s : State} {oldest second : SaltEntry} {rest : List SaltEntry} (h : s.brine.log = oldest :: second :: rest) :
    forecast s = if s.now ≤ oldest.stamp then none else if (s.brine.log.map SaltEntry.grams).sum = 0 then some 999
      else some (min 999 (s.brine.inventory * (s.now - oldest.stamp) / ((s.brine.log.map SaltEntry.grams).sum * 86400))) := by
  unfold forecast
  rw [h]

/-- Settles O26: the mass is taken, judged, and the forecast evaluated; the judgements keep the inventory and the reference. -/
theorem saltFilled : Obligations.SaltFilled := by
  unfold Obligations.SaltFilled
  refine ⟨fun svc tag g s hfree => ?_, fun s => ⟨forecast_short, fun oldest second rest hlog => ?_⟩⟩
  · generalize hv : frameDropped (s.withSvc svc) = v
    have brine : v.brine = s.brine := by rw [← hv]; rfl
    have settings : v.settings = s.settings := by rw [← hv]; rfl
    have clock : v.clock = s.clock := by rw [← hv]; rfl
    have notices : v.notices = s.notices := by rw [← hv]; rfl
    have now : v.now = s.now := by rw [State.now, State.now, clock]
    have judged := judged_saltFilledEffect g v
    have tells {k : NoticeKind} {a b c : Int} {u : State} (h : Told k a b c v u) : Told k a b c s u := fun hl => by
      have := h (notices ▸ hl)
      rwa [now] at this
    refine ⟨saltFilledEffect g v, exec_answers rfl hfree trivial (by rw [hv]; rfl), ?_⟩
    have capacity : saltCapacity v = s.settings.inst.saltCapacity * 1000 := by rw [saltCapacity, settings]
    have total : v.fill g = if g = 0xFFFFFFFF then s.settings.inst.saltCapacity * 1000
        else min (s.settings.inst.saltCapacity * 1000) (s.brine.inventory + g.toNat) := by
      rw [State.fill, capacity, brine]
      rfl
    have taken : (saltFilledEffect g v).brine.inventory = v.fill g := by rw [judged.others]; rfl
    have bridge : (saltFilledEffect g v).brine.bridge = v.brine.height.map fun h => { height := h, inventory := v.fill g } := by
      rw [judged.others]; rfl
    have posted : (saltFilledEffect g v).brine.bridgePosted = false := by rw [judged.others]; rfl
    have owed : (saltFilledEffect g v).brine.filledReading = (v.brine.filledReading || v.settings.inst.sensorFitted) := by
      rw [judged.others]; rfl
    have salt := (saltFilledEffect_salt g v).1
    dsimp only
    rw [← total]
    refine ⟨taken, brine ▸ bridge, posted, fun hf => ⟨?_, ?_⟩, fun hf => ⟨?_, ?_⟩, fun hw => ?_, fun h => ?_, fun d hc hz hd hle => ?_, ?_⟩
    · rw [owed, settings, hf, Bool.or_true]
    · rw [salt, evaluateSaltMass_fitted (settings ▸ hf), ← brine]
      rfl
    · rw [owed, settings, hf, Bool.or_false, brine]
    · rw [salt, evaluateSaltMass_setSalt (settings ▸ hf), setSalt_brine, ← settings, ← brine]
      show saltByMass v.brine.salt (v.fill g) v.settings.user.salt.lowKg = _
      cases v.brine.salt <;> rfl
    · obtain ⟨day, told⟩ := saltFilledEffect_worse (s := v) (brine ▸ hw)
      exact ⟨clock ▸ day, tells told⟩
    · exact saltFilledEffect_armed (brine ▸ settings ▸ h)
    · obtain ⟨off, told⟩ := saltFilledEffect_due (brine ▸ hc) (settings ▸ hz) hd (settings ▸ hle)
      exact ⟨off, tells told⟩
    · rw [judged.others]
      rfl
  · have e := forecast_long hlog
    exact ⟨fun h => e.trans (if_pos h), fun h hu => e.trans ((if_neg (Nat.not_le.2 h)).trans (if_pos hu)),
      fun h hu => e.trans ((if_neg (Nat.not_le.2 h)).trans (if_neg hu))⟩

end Sys2Proof.Machine

/-! The reading after a regeneration: O25. -/

namespace Sys2Proof.Machine

set_option Elab.async false

section
variable {s t : State} {h : Nat}

/-! ### The bridging test (R106) -/

/-- The salt has bridged: 3000 g less than at the reference (R106). -/
def Brine.bridged (b : Brine) : Bool :=
  match b.bridge with
  | some r => decide (b.inventory + 3000 ≤ r.inventory)
  | none => false

theorem Brine.bridged_false {b : Brine} (hb : ∃ k, b.bridge = some { height := k, inventory := b.inventory }) : b.bridged = false := by
  obtain ⟨k, hb⟩ := hb
  simp [Brine.bridged, hb]

theorem bridgeTest_others (h : Nat) (s : State) : bridgeTest h s = { s with
    brine := { s.brine with bridgePosted := s.brine.bridgePosted || s.brine.bridged }, notices := (bridgeTest h s).notices } := by
  unfold bridgeTest Brine.bridged
  cases s.brine.bridge with
  | none => simp
  | some r =>
    dsimp only
    split
    next hc => simp [hc, post]
    next hc =>
      have stays : (s.brine.bridgePosted || decide (s.brine.inventory + 3000 ≤ r.inventory)) = s.brine.bridgePosted := by
        cases hp : s.brine.bridgePosted
        · exact decide_eq_false fun hr => hc ⟨hr, hp⟩
        · rfl
      rw [stays]

/-- A bridge newly suspected is told (R106). -/
theorem bridgeTest_tells {r : BridgeRef} (hb : s.brine.bridge = some r) (hp : s.brine.bridgePosted = false)
    (hr : s.brine.inventory + 3000 ≤ r.inventory) : (bridgeTest h s).notices = s.notices.post
      { kind := .saltBridgeSuspect, subject := .none, stamp := s.now, v1 := (r.inventory - s.brine.inventory : Nat), v2 := r.height, v3 := h } := by
  simp only [bridgeTest, hb, hr, hp, and_self, if_true]
  rfl

theorem bridgeTest_keeps {n : Notice} (hn : s.notices.tells n) (hl : s.notices.queue.length < 24) : (bridgeTest h s).notices.tells n := by
  unfold bridgeTest
  split
  · exact hn
  · split
    · exact hn.post rfl hl
    · exact hn

/-! ### The height placed: a fill seen and the reference (R100, R106) -/

/-- What placing a new height keeps (R100, R106). -/
structure Placed (s t : State) : Prop where
  others : t = { s with
    brine := { s.brine with
      inventory := t.brine.inventory, bridge := t.brine.bridge, bridgePosted := t.brine.bridgePosted, forecastArmed := t.brine.forecastArmed }
    notices := t.notices }
  adds : Adds 2 s.notices t.notices

/-- With the sensor a changed inventory has the forecast evaluated, and no more (R102, R105). -/
theorem inventoryChanged_fitted (g : Nat) (hf : s.settings.inst.sensorFitted = true) :
    ∃ a m, inventoryChanged g s = { s with brine := { s.brine with forecastArmed := a }, notices := m } ∧ Adds 1 s.notices m := by
  unfold inventoryChanged
  split
  · exact ⟨_, _, rfl, .refl 1 _⟩
  · rw [evaluateSaltMass_fitted hf]
    obtain ⟨salt, day⟩ := forecastReminder_judgement s
    have e := (judged_forecastReminder s).others
    rw [salt, day] at e
    exact ⟨_, _, e, adds_forecastReminder s⟩

/-- The mass that a height measures, within the capacity (R93). -/
def State.massAt (h : Nat) (s : State) : Nat := min (saltCapacity s) (measuredMass s.settings.inst h)

/-- The SALT_FILL_SEEN of a height after another (R100). -/
def State.fillSeen (h old : Nat) (s : State) : Notice where
  kind := .saltFillSeen
  subject := .none
  stamp := s.now
  v1 := s.massAt h
  v2 := old
  v3 := h

theorem fillDetection_first (hh : s.brine.height = none) : fillDetection h s = inventoryChanged s.brine.inventory
    { s with brine := { s.brine with inventory := s.massAt h, bridge := some { height := h, inventory := s.massAt h } } } := by
  simp only [fillDetection, hh]
  rfl

theorem fillDetection_seen {old : Nat} (hh : s.brine.height = some old) (hr : old + 50 ≤ h) :
    fillDetection h s = inventoryChanged s.brine.inventory { s with
      brine := { s.brine with
        inventory := s.massAt h, bridge := some { height := h, inventory := s.massAt h }, bridgePosted := false, forecastArmed := true }
      notices := s.notices.post (s.fillSeen h old) } := by
  simp only [fillDetection, hh, if_pos hr]
  rfl

theorem bridgeReference_none (hb : s.brine.bridge = none) : bridgeReference h s =
    { s with brine := { s.brine with bridge := some { height := h, inventory := s.brine.inventory } } } := by
  simp only [bridgeReference, hb]

theorem bridgeReference_fallen {r : BridgeRef} (hb : s.brine.bridge = some r) (hr : h + 10 ≤ r.height) : bridgeReference h s =
    { s with brine := { s.brine with bridge := some { height := h, inventory := s.brine.inventory }, bridgePosted := false } } := by
  simp only [bridgeReference, hb, if_pos hr]

theorem bridgeReference_stands {r : BridgeRef} (hb : s.brine.bridge = some r) (hr : r.height < h + 10) : bridgeReference h s = s := by
  simp only [bridgeReference, hb]
  exact if_neg (by omega)

/-- A reference just taken stands (R106). -/
theorem bridgeReference_taken (hb : ∃ k, s.brine.bridge = some { height := h, inventory := k }) : bridgeReference h s = s := by
  obtain ⟨k, hb⟩ := hb
  exact bridgeReference_stands hb (Nat.lt_add_of_pos_right (by decide))

/-- The first height takes the measured mass as the inventory (R100). -/
theorem placed_first (hf : s.settings.inst.sensorFitted = true) (hh : s.brine.height = none) :
    Placed s (bridgeReference h (fillDetection h s))
    ∧ (bridgeReference h (fillDetection h s)).brine.inventory = s.massAt h
    ∧ (bridgeReference h (fillDetection h s)).brine.bridge = some { height := h, inventory := s.massAt h }
    ∧ (bridgeReference h (fillDetection h s)).brine.bridgePosted = s.brine.bridgePosted := by
  obtain ⟨a, m, e, ha⟩ := inventoryChanged_fitted s.brine.inventory (s := { s with brine := { s.brine with
    inventory := s.massAt h, bridge := some { height := h, inventory := s.massAt h } } }) hf
  have seen := (fillDetection_first (h := h) hh).trans e
  rw [seen, bridgeReference_taken ⟨_, rfl⟩]
  exact ⟨⟨rfl, ha.trans (.refl 1 _)⟩, rfl, rfl, rfl⟩

/-- A height 50 mm above the last takes the measured mass and is told (R100). -/
theorem placed_filled {old : Nat} (hf : s.settings.inst.sensorFitted = true) (hh : s.brine.height = some old) (hr : old + 50 ≤ h) :
    Placed s (bridgeReference h (fillDetection h s))
    ∧ (bridgeReference h (fillDetection h s)).brine.inventory = s.massAt h
    ∧ (bridgeReference h (fillDetection h s)).brine.bridge = some { height := h, inventory := s.massAt h }
    ∧ (bridgeReference h (fillDetection h s)).brine.bridgePosted = false
    ∧ (s.notices.queue.length < 23 → (bridgeReference h (fillDetection h s)).notices.tells (s.fillSeen h old)) := by
  obtain ⟨a, m, e, ha⟩ := inventoryChanged_fitted s.brine.inventory (s := { s with
    brine := { s.brine with
      inventory := s.massAt h, bridge := some { height := h, inventory := s.massAt h }, bridgePosted := false, forecastArmed := true }
    notices := s.notices.post (s.fillSeen h old) }) hf
  have seen := (fillDetection_seen hh hr).trans e
  have told := NoticeQueue.tells_post s.notices (s.fillSeen h old)
  have length := (Adds.post s.notices (s.fillSeen h old)).length
  rw [seen, bridgeReference_taken ⟨_, rfl⟩]
  exact ⟨⟨rfl, (Adds.post _ _).trans ha⟩, rfl, rfl, rfl, fun hl => (told (by omega)).adds rfl ha (by omega)⟩

/-- Any other height leaves the inventory; the reference goes down with it (R106). -/
theorem placed_low {old : Nat} (hh : s.brine.height = some old) (hr : h < old + 50) :
    Placed s (bridgeReference h (fillDetection h s))
    ∧ (bridgeReference h (fillDetection h s)).brine.inventory = s.brine.inventory
    ∧ (bridgeReference h (fillDetection h s)).brine.forecastArmed = s.brine.forecastArmed
    ∧ (s.brine.bridge = none →
      (bridgeReference h (fillDetection h s)).brine.bridge = some { height := h, inventory := s.brine.inventory }
      ∧ (bridgeReference h (fillDetection h s)).brine.bridgePosted = s.brine.bridgePosted)
    ∧ (∀ r, s.brine.bridge = some r → h + 10 ≤ r.height →
      (bridgeReference h (fillDetection h s)).brine.bridge = some { height := h, inventory := s.brine.inventory }
      ∧ (bridgeReference h (fillDetection h s)).brine.bridgePosted = false)
    ∧ (∀ r, s.brine.bridge = some r → r.height < h + 10 →
      (bridgeReference h (fillDetection h s)).brine.bridge = some r
      ∧ (bridgeReference h (fillDetection h s)).brine.bridgePosted = s.brine.bridgePosted) := by
  have seen : fillDetection h s = s := by
    simp only [fillDetection, hh]
    exact if_neg (by omega)
  rw [seen]
  have placed : Placed s (bridgeReference h s) ∧ (bridgeReference h s).brine.inventory = s.brine.inventory
      ∧ (bridgeReference h s).brine.forecastArmed = s.brine.forecastArmed := by
    unfold bridgeReference
    split
    · exact ⟨⟨rfl, .refl 2 _⟩, rfl, rfl⟩
    · split
      · exact ⟨⟨rfl, .refl 2 _⟩, rfl, rfl⟩
      · exact ⟨⟨rfl, .refl 2 _⟩, rfl, rfl⟩
  obtain ⟨hp, hi, ha⟩ := placed
  refine ⟨hp, hi, ha, fun hb => ?_, fun r hb hd => ?_, fun r hb hd => ?_⟩
  · rw [bridgeReference_none hb]
    exact ⟨rfl, rfl⟩
  · rw [bridgeReference_fallen hb hd]
    exact ⟨rfl, rfl⟩
  · rw [bridgeReference_stands hb hd]
    exact ⟨hb, rfl⟩

/-! ### A good reading (R93) -/

/-- A good reading ends the sensor's fault (R93). -/
def State.sensed (s : State) : State :=
  if s.brine.saltFault then faultGone .saltSensor .none { s with brine := { s.brine with saltFault := false } } else s

theorem sensed_others (s : State) : s.sensed = { s with
    brine := { s.brine with saltFault := false }
    faults := if s.brine.saltFault = true then s.faults.gone .saltSensor .none else s.faults } := by
  unfold State.sensed
  cases hf : s.brine.saltFault
  · simp only [Bool.false_eq_true, if_false]
    rw [← hf]
  · rfl

/-- The state with the height taken, before the salt is judged (R93). -/
def State.raised (h : Nat) (s : State) : State := { s with brine := { s.brine with height := some h } }

/-- The due time and the try cleared after the reading (R92). -/
def State.readDone (s : State) : State := { s with brine := { s.brine with postDue := none, postTried := false } }

/-- The salt state by a height (R101). -/
def State.saltAt (h : Nat) (s : State) : SaltState := saltByHeight s.brine.salt h s.brine.level s.settings.user.salt.lowMark

theorem goodReading_due {d : Nat} (hd : postDueReached s = true) : goodReading d s =
    bridgeTest (s.settings.inst.tankDepth - d)
      (setSalt ((((bridgeReference (s.settings.inst.tankDepth - d) (fillDetection (s.settings.inst.tankDepth - d) s.sensed))).raised
        (s.settings.inst.tankDepth - d)).saltAt (s.settings.inst.tankDepth - d))
        ((bridgeReference (s.settings.inst.tankDepth - d) (fillDetection (s.settings.inst.tankDepth - d) s.sensed)).raised
          (s.settings.inst.tankDepth - d))).readDone := by
  simp only [goodReading, hd, if_true]
  rfl

/-- The state after a good reading whose height has been placed as `p` (R93). -/
def State.reading (h : Nat) (p : State) : State := bridgeTest h (setSalt ((p.raised h).saltAt h) (p.raised h)).readDone

theorem reading_brine (h : Nat) (p : State) : (p.reading h).brine = { p.brine with
    height := some h, postDue := none, postTried := false, salt := p.saltAt h
    lastReminder := if saltCode p.brine.salt < saltCode (p.saltAt h) then p.clock.day else p.brine.lastReminder
    bridgePosted := p.brine.bridgePosted || p.brine.bridged } := by
  rw [State.reading, bridgeTest_others]
  simp only [State.readDone, setSalt_brine, State.raised]
  rfl

theorem reading_others (h : Nat) (p : State) : p.reading h = { p with brine := (p.reading h).brine, notices := (p.reading h).notices } := by
  have e := bridgeTest_others h (setSalt ((p.raised h).saltAt h) (p.raised h)).readDone
  rw [State.reading, e]
  simp only [State.readDone]
  rw [(judged_setSalt ((p.raised h).saltAt h) (p.raised h)).others]
  rfl

theorem reading_forecast (h : Nat) (p : State) : forecast (p.reading h) = forecast p :=
  forecast_congr (by rw [reading_brine]) (by rw [reading_brine]) (by rw [reading_others]; rfl)

theorem reading_keeps {p : State} {n : Notice} (hn : p.notices.tells n) (hk : isStateKind n.kind = false) (hl : p.notices.queue.length < 20) :
    (p.reading h).notices.tells n := by
  have adds := adds_setSalt ((p.raised h).saltAt h) (p.raised h)
  have length := adds.length
  have room : (p.raised h).notices.queue.length < 20 := hl
  have told : (p.raised h).notices.tells n := hn
  have told' := told.adds hk adds (by omega)
  refine bridgeTest_keeps (s := (setSalt ((p.raised h).saltAt h) (p.raised h)).readDone) told' ?_
  show (setSalt ((p.raised h).saltAt h) (p.raised h)).notices.queue.length < 24
  omega

/-- A salt state that the reading changes is told, and one worse with a reminder (R101, R103). -/
theorem reading_tells {p : State} (hl : p.notices.queue.length < 20) :
    (p.saltAt h ≠ p.brine.salt → (p.reading h).notices.tells ((p.raised h).saltTold (p.saltAt h)))
    ∧ (saltCode p.brine.salt < saltCode (p.saltAt h) →
      (p.reading h).notices.tells (((p.raised h).salted (p.saltAt h)).reminder 0)) := by
  have length := (adds_setSalt ((p.raised h).saltAt h) (p.raised h)).length
  have room : (p.raised h).notices.queue.length < 20 := hl
  have after : (setSalt ((p.raised h).saltAt h) (p.raised h)).readDone.notices.queue.length < 24 := by
    show (setSalt ((p.raised h).saltAt h) (p.raised h)).notices.queue.length < 24
    omega
  refine ⟨fun hs => bridgeTest_keeps ?_ after, fun hw => bridgeTest_keeps ?_ after⟩
  · exact setSalt_tells (s := p.raised h) (fun e => hs e.symm) (by omega)
  · exact setSalt_reminds (s := p.raised h) hw (by omega)

end

section
variable {s : State} {x : Int}

/-- The state in which a reading is tried (R92). -/
def State.tried (s : State) : State := { s with brine := { s.brine with postTried := true } }

/-- At its due time, with mains and no brine step, the reading is made (R92). -/
theorem postReading_due {d : Nat} (hm : s.supply.state = .mains) (hme : s.brine.measure = none) (hr : s.brine.refill = none)
    (hd : s.brine.postDue = some d) (hle : d ≤ s.now) (ht : s.brine.postTried = false) (hf : s.settings.inst.sensorFitted = true) :
    postReading x s = saltReading x s.tried := by
  have reached : postDueReached s = true := by rw [postDueReached, hd]; exact decide_eq_true hle
  have allowed : readingAllowed s = true := by simp [readingAllowed, hm, hme, hr]
  rw [postReading, allowed, reached, ht, hf]
  rfl

/-- The height placed after a good reading, the sensor's fault ended (R93, R100, R106). -/
def State.placedAt (h : Nat) (s : State) : State := bridgeReference h (fillDetection h s.sensed)

theorem placedAt_placed {h : Nat} (hf : s.settings.inst.sensorFitted = true) : Placed s.sensed (s.placedAt h) := by
  have fitted : s.sensed.settings.inst.sensorFitted = true := by rw [sensed_others]; exact hf
  cases hh : s.sensed.brine.height with
  | none => exact (placed_first fitted hh).1
  | some old =>
    rcases Nat.lt_or_ge h (old + 50) with hr | hr
    · exact (placed_low hh hr).1
    · exact (placed_filled fitted hh hr).1

/-- A bridge that the reading suspects is told (R106). -/
theorem reading_suspects {h : Nat} {p : State} {r : BridgeRef} (hb : p.brine.bridge = some r) (hq : p.brine.bridgePosted = false)
    (hlow : p.brine.inventory + 3000 ≤ r.inventory) (hl : p.notices.queue.length < 20) : (p.reading h).notices.tells
      { kind := .saltBridgeSuspect, subject := .none, stamp := p.now, v1 := (r.inventory - p.brine.inventory : Nat), v2 := r.height, v3 := h } := by
  have brine := setSalt_brine ((p.raised h).saltAt h) (p.raised h)
  have others := (judged_setSalt ((p.raised h).saltAt h) (p.raised h)).others
  have length := (adds_setSalt ((p.raised h).saltAt h) (p.raised h)).length
  rw [State.reading]
  generalize setSalt ((p.raised h).saltAt h) (p.raised h) = j at brine others length
  have stamp : j.readDone.now = p.now := by rw [State.now, State.readDone, others]; rfl
  have inventory : j.readDone.brine.inventory = p.brine.inventory := by rw [State.readDone, brine]; rfl
  have bridge : j.readDone.brine.bridge = some r := by rw [State.readDone, brine]; exact hb
  have posted : j.readDone.brine.bridgePosted = false := by rw [State.readDone, brine]; exact hq
  have room : j.notices.queue.length ≤ p.notices.queue.length + 2 := length
  rw [bridgeTest_tells bridge posted (by rw [inventory]; exact hlow), stamp, inventory]
  exact NoticeQueue.tells_post j.notices _ (by omega)

section
variable {h : Nat} (hf : s.settings.inst.sensorFitted = true)

theorem sensed_fitted (hf : s.settings.inst.sensorFitted = true) : s.sensed.settings.inst.sensorFitted = true := by
  rw [sensed_others]; exact hf

theorem sensed_height (s : State) : s.sensed.brine.height = s.brine.height := by rw [sensed_others]

/-- What the reading takes from its placing (R93). -/
theorem reading_placed (h : Nat) (p : State) : (p.reading h).brine.inventory = p.brine.inventory ∧ (p.reading h).brine.bridge = p.brine.bridge
    ∧ (p.reading h).brine.bridgePosted = (p.brine.bridgePosted || p.brine.bridged)
    ∧ (p.reading h).brine.forecastArmed = p.brine.forecastArmed := by
  rw [reading_brine]
  exact ⟨rfl, rfl, rfl, rfl⟩

include hf

/-- The first height (R100). -/
theorem reading_first (hh : s.brine.height = none) : ((s.placedAt h).reading h).brine.inventory = s.massAt h
    ∧ ((s.placedAt h).reading h).brine.bridge = some { height := h, inventory := s.massAt h }
    ∧ ((s.placedAt h).reading h).brine.bridgePosted = s.brine.bridgePosted := by
  obtain ⟨-, inventory, bridge, posted⟩ := placed_first (h := h) (sensed_fitted hf) ((sensed_height s).trans hh)
  obtain ⟨hi, hb, hp, -⟩ := reading_placed h (s.placedAt h)
  have mass : s.sensed.massAt h = s.massAt h := by rw [sensed_others]; rfl
  have flat : (s.placedAt h).brine.bridged = false := Brine.bridged_false ⟨h, bridge.trans (by rw [← inventory]; rfl)⟩
  refine ⟨hi.trans (inventory.trans mass), hb.trans (bridge.trans (by rw [mass])), hp.trans ?_⟩
  rw [flat, Bool.or_false]
  exact posted.trans (by rw [sensed_others])

/-- A height 50 mm above the last (R100). -/
theorem reading_filled {old : Nat} (hh : s.brine.height = some old) (hr : old + 50 ≤ h) :
    ((s.placedAt h).reading h).brine.inventory = s.massAt h
    ∧ ((s.placedAt h).reading h).brine.bridge = some { height := h, inventory := s.massAt h }
    ∧ ((s.placedAt h).reading h).brine.bridgePosted = false
    ∧ Told .saltFillSeen (s.massAt h : Nat) (old : Nat) (h : Nat) s ((s.placedAt h).reading h) := by
  obtain ⟨pl, inventory, bridge, posted, told⟩ := placed_filled (sensed_fitted hf) ((sensed_height s).trans hh) hr
  obtain ⟨hi, hb, hp, -⟩ := reading_placed h (s.placedAt h)
  have mass : s.sensed.massAt h = s.massAt h := by rw [sensed_others]; rfl
  have flat : (s.placedAt h).brine.bridged = false := Brine.bridged_false ⟨h, bridge.trans (by rw [← inventory]; rfl)⟩
  refine ⟨hi.trans (inventory.trans mass), hb.trans (bridge.trans (by rw [mass])), hp.trans ?_, fun hl => ?_⟩
  · rw [flat, Bool.or_false]
    exact posted
  · have queue : s.sensed.notices = s.notices := by rw [sensed_others]
    have seen : s.sensed.fillSeen h old = s.fillSeen h old := by rw [State.fillSeen, mass, sensed_others]; rfl
    have length := pl.adds.length
    rw [queue, seen] at told
    rw [queue] at length
    exact reading_keeps (p := s.placedAt h) (told (by omega)) rfl (Nat.lt_of_le_of_lt length (by omega))

omit hf in
/-- Any other height (R100, R106). -/
theorem reading_low {old : Nat} (hh : s.brine.height = some old) (hr : h < old + 50) :
    ((s.placedAt h).reading h).brine.inventory = s.brine.inventory
    ∧ ((s.placedAt h).reading h).brine.forecastArmed = s.brine.forecastArmed
    ∧ (s.brine.bridge = none →
      ((s.placedAt h).reading h).brine.bridge = some { height := h, inventory := s.brine.inventory }
      ∧ ((s.placedAt h).reading h).brine.bridgePosted = s.brine.bridgePosted)
    ∧ (∀ r, s.brine.bridge = some r → h + 10 ≤ r.height →
      ((s.placedAt h).reading h).brine.bridge = some { height := h, inventory := s.brine.inventory }
      ∧ ((s.placedAt h).reading h).brine.bridgePosted = false)
    ∧ ∀ r, s.brine.bridge = some r → r.height < h + 10 →
      ((s.placedAt h).reading h).brine.bridge = some r
      ∧ ((s.placedAt h).reading h).brine.bridgePosted = (s.brine.bridgePosted || decide (s.brine.inventory + 3000 ≤ r.inventory))
      ∧ (s.brine.bridgePosted = false → s.brine.inventory + 3000 ≤ r.inventory →
        Told .saltBridgeSuspect (r.inventory - s.brine.inventory : Nat) (r.height : Nat) (h : Nat) s ((s.placedAt h).reading h)) := by
  obtain ⟨pl, inventory, armed, first, fallen, stands⟩ := placed_low ((sensed_height s).trans hh) hr
  obtain ⟨hi, hb, hp, ha⟩ := reading_placed h (s.placedAt h)
  have mass : s.sensed.brine.inventory = s.brine.inventory := by rw [sensed_others]
  have reference : s.sensed.brine.bridge = s.brine.bridge := by rw [sensed_others]
  have mark : s.sensed.brine.bridgePosted = s.brine.bridgePosted := by rw [sensed_others]
  rw [mass, reference, mark] at first
  rw [mass, reference] at fallen
  rw [mark, reference] at stands
  rw [mass] at inventory
  have flat (hbr : (s.placedAt h).brine.bridge = some { height := h, inventory := s.brine.inventory }) :
      (s.placedAt h).brine.bridged = false := Brine.bridged_false ⟨h, hbr.trans (by rw [← inventory]; rfl)⟩
  refine ⟨hi.trans inventory, ha.trans (armed.trans (by rw [sensed_others])), fun hn => ?_, fun r hr hd => ?_, fun r hr hd => ?_⟩
  · obtain ⟨bridge, posted⟩ := first hn
    refine ⟨hb.trans bridge, hp.trans ?_⟩
    rw [flat bridge, Bool.or_false]
    exact posted
  · obtain ⟨bridge, posted⟩ := fallen r hr hd
    refine ⟨hb.trans bridge, hp.trans ?_⟩
    rw [flat bridge, Bool.or_false]
    exact posted
  · obtain ⟨bridge, posted⟩ := stands r hr hd
    have bridge' : (s.placedAt h).brine.bridge = some r := bridge
    have inventory' : (s.placedAt h).brine.inventory = s.brine.inventory := inventory
    have posted' : (s.placedAt h).brine.bridgePosted = s.brine.bridgePosted := posted
    refine ⟨hb.trans bridge, hp.trans ?_, fun hq hlow hl => ?_⟩
    · rw [posted', Brine.bridged, bridge', inventory']
    · have length := pl.adds.length
      rw [show s.sensed.notices = s.notices by rw [sensed_others]] at length
      have stamp : (s.placedAt h).now = s.now := by
        have e := pl.others
        rw [State.now, State.placedAt, e, sensed_others]
        rfl
      have told := reading_suspects (h := h) bridge' (posted'.trans hq) (inventory'.symm ▸ hlow) (Nat.lt_of_le_of_lt length (by omega))
      rwa [inventory', stamp] at told

end

theorem saltReading_good {d : Nat} (hd : s.brine.postDue = some d) (hle : d ≤ s.now) (h50 : 50 ≤ x) (h1200 : x ≤ 1200) :
    saltReading x s = (s.placedAt (s.settings.inst.tankDepth - x.toNat)).reading (s.settings.inst.tankDepth - x.toNat) := by
  have reached : postDueReached s = true := by rw [postDueReached, hd]; exact decide_eq_true hle
  rw [saltReading, if_pos ⟨h50, h1200⟩, goodReading_due reached]
  rfl

theorem saltReading_bad (hx : x < 50 ∨ 1200 < x) : saltReading x s = if s.brine.saltFault then s
    else faultReport .saltSensor .none x { s with brine := { s.brine with saltFault := true } } := by
  rw [saltReading, if_neg (by omega)]

end

/-- What a good reading brings whatever its placing (R92, R93, R101, R103). -/
theorem reading_judged {h : Nat} (hf : s.settings.inst.sensorFitted = true) :
    ((s.placedAt h).reading h).brine.height = some h ∧ ((s.placedAt h).reading h).brine.postDue = none
    ∧ ((s.placedAt h).reading h).brine.postTried = false ∧ ((s.placedAt h).reading h).brine.saltFault = false
    ∧ ((s.placedAt h).reading h).faults = (if s.brine.saltFault = true then s.faults.gone .saltSensor .none else s.faults)
    ∧ ((s.placedAt h).reading h).brine.salt = s.saltAt h
    ∧ (s.saltAt h ≠ s.brine.salt →
      Told .saltState (saltCode (s.saltAt h)) (h : Nat) (((s.placedAt h).reading h).brine.inventory : Nat) s ((s.placedAt h).reading h))
    ∧ (saltCode s.brine.salt < saltCode (s.saltAt h) → ((s.placedAt h).reading h).brine.lastReminder = s.clock.day
      ∧ Told .saltReminder 0 (saltCode (s.saltAt h)) (forecastDays (forecast ((s.placedAt h).reading h))) s ((s.placedAt h).reading h))
    ∧ (s.placedAt h).reading h = { s with
      brine := ((s.placedAt h).reading h).brine, faults := ((s.placedAt h).reading h).faults
      notices := ((s.placedAt h).reading h).notices } := by
  have pl := placedAt_placed (h := h) hf
  have length := pl.adds.length
  have e := pl.others
  rw [sensed_others] at e length
  have ro := reading_others h (s.placedAt h)
  have rb := reading_brine h (s.placedAt h)
  have rf := reading_forecast h (s.placedAt h)
  have rt := @reading_tells h (s.placedAt h)
  generalize s.placedAt h = p at *
  have salt : p.brine.salt = s.brine.salt := by rw [e]
  have salted : p.saltAt h = s.saltAt h := by rw [State.saltAt, e]; rfl
  have stamp : p.now = s.now := by rw [e]; rfl
  have day : p.clock.day = s.clock.day := by rw [e]
  rw [salted, salt] at rt rb
  have room : s.notices.queue.length < 16 → p.notices.queue.length < 20 := fun hl => Nat.lt_of_le_of_lt length (by show s.notices.queue.length + 2 < 20; omega)
  refine ⟨by rw [rb], by rw [rb], by rw [rb], by rw [rb, e], by rw [ro, e], by rw [rb], fun hs hl => ?_, fun hw => ⟨?_, fun hl => ?_⟩, ?_⟩
  · obtain ⟨m, hm, hk, hsubj, hst, h1, h2, h3⟩ := (rt (room hl)).1 hs
    exact ⟨m, hm, hk, hsubj, hst.trans stamp, h1, h2, h3.trans (by rw [rb]; rfl)⟩
  · rw [rb, ← day]
    exact if_pos hw
  · obtain ⟨m, hm, hk, hsubj, hst, h1, h2, h3⟩ := (rt (room hl)).2 hw
    exact ⟨m, hm, hk, hsubj, hst.trans stamp, h1, h2, h3.trans (by rw [rf]; rfl)⟩
  · rw [ro, e]

/-- Settles O25: the height is placed against the last one, and then the salt and the bridge are judged by it. -/
theorem postRegenerationReading : Obligations.PostRegenerationReading := by
  unfold Obligations.PostRegenerationReading
  intro x d s hs hm hme hr hd hle ht hf b
  have read : ∀ {u : State}, saltReading x s.tried = u → exec (.postRegenReading x) s = commit s (follow u) := fun hu =>
    event_leaves hs ((postReading_due hm hme hr hd hle ht hf).trans hu)
  refine ⟨fun hx => ⟨fun hb => read ((saltReading_bad hx).trans ?_), fun hb => read ((saltReading_bad hx).trans ?_)⟩, fun h50 h1200 => ?_⟩
  · have fault : s.tried.brine.saltFault = true := hb
    rw [fault]
    rfl
  · have fault : s.tried.brine.saltFault = false := hb
    rw [fault]
    rfl
  refine ⟨_, read (saltReading_good (s := s.tried) hd hle h50 h1200), ?_⟩
  intro i n h mass low
  obtain ⟨height, due, tried, fault, faults, salt, told, worse, others⟩ :=
    reading_judged (h := s.tried.settings.inst.tankDepth - x.toNat) (s := s.tried) hf
  have same : s.tried.saltAt h = (match b.salt with
      | .ok => if h ≤ b.level + 10 then .out else if h ≤ low then .low else .ok
      | .low => if h ≤ b.level + 10 then .out else if low + 40 ≤ h then .ok else .low
      | .out => if b.level + 50 ≤ h ∧ low + 40 ≤ h then .ok else if b.level + 50 ≤ h then .low else .out) := by
    show saltByHeight b.salt h b.level low = _
    cases b.salt <;> rfl
  refine ⟨height, due, tried, fault, faults, reading_first (s := s.tried) hf, fun old => reading_filled (s := s.tried) hf,
    fun old => reading_low (s := s.tried), salt.trans same, fun hc => ?_, fun hw => ?_, others⟩
  · rw [show n.salt = s.tried.saltAt h from salt] at hc ⊢
    exact told hc
  · rw [show n.salt = s.tried.saltAt h from salt] at hw ⊢
    exact worse hw

end Sys2Proof.Machine

/-! The end of a regeneration: O22. -/

namespace Sys2Proof.Machine

set_option Elab.async false

section
variable {s : State} {k : Tank}

/-- With no claim in the table a decision grants nothing (R87). -/
theorem grantDecision_empty (h : s.line = {}) : grantDecision s = s := by
  have none : s.line.winner = .none := by rw [h]; rfl
  rw [grantDecision, none]
  exact ite_self s

/-- A tank whose claim is granted has none to withdraw (R88). -/
theorem withdrawRegen_granted {c : Bool} (hl : s.line.regen = some { granted := true, tank := k, continuation := c })
    (hc : (s.tank k).claim ≠ .pending) : withdrawRegen k s = s := by
  rw [withdrawRegen, hl]
  simp only [Bool.true_eq_false, and_false, if_false]
  exact if_neg hc

/-- The release of the only entry leaves the table empty (R88). -/
theorem releaseRegen_only {c : Bool} (hl : s.line = { regen := some { granted := true, tank := k, continuation := c } }) :
    releaseRegen s = { s with line := {} } := by
  have granted : s.line.regenGranted = true := by rw [hl]; rfl
  rw [releaseRegen, if_pos granted, hl]
  exact grantDecision_empty rfl

theorem regenReleased_eq {c : Bool} (hl : s.line = { regen := some { granted := true, tank := k, continuation := c } }) :
    s.regenReleased k .granted = { s.withTank k { s.tank k with claim := .none } with line := {} } := by
  have only (v : State) (hv : v.line = s.line) (hc : (v.tank k).claim = .none) : releaseRegen (withdrawRegen k v) = { v with line := {} } := by
    rw [withdrawRegen_granted (by rw [hv, hl]) (by rw [hc]; exact fun h => nomatch h), releaseRegen_only (hv.trans hl)]
  exact only _ rfl (by rw [withTank_tank, if_pos rfl]; rfl)

/-- The salt log with one entry more, the last four kept (R98). -/
def State.saltLogged (s : State) : List SaltEntry :=
  (if s.brine.log.length < 4 then s.brine.log else s.brine.log.drop (s.brine.log.length - 3)) ++ [{ grams := saltUsed s, stamp := s.now }]

theorem saltLogged_length (s : State) : s.saltLogged.length ≤ max 4 s.brine.log.length := by
  unfold State.saltLogged
  split
  · simp only [List.length_append, List.length_singleton]
    omega
  · simp only [List.length_append, List.length_drop, List.length_singleton]
    omega

/-- The Brine Monitor's part of the end, its judgements apart (R98). -/
theorem judged_brineRegenEnd (s : State) : Judged { s with brine := { s.brine with
    inventory := s.brine.inventory - saltUsed s, log := s.saltLogged, draw := none, postDue := some (s.now + 1800), postTried := false } }
    (brineRegenEnd s) := (judged_evaluateSaltMass _).trans (judged_forecastReminder _)

theorem regenCredited_others (k : Tank) (s : State) : ∃ b m, s.regenCredited k = { s with
      cap := (creditTank k (brineFactor s) s).cap, brine := b, notices := m }
    ∧ b.inventory = s.brine.inventory - saltUsed s ∧ b.log = s.saltLogged ∧ b.draw = none ∧ b.postDue = some (s.now + 1800) := by
  have e := (judged_brineRegenEnd (creditTank k (brineFactor s) s)).others
  exact ⟨_, _, e, rfl, rfl, rfl, rfl⟩

theorem regenTold_others (k : Tank) (g : Option Byte) (x b n : Nat) (s : State) : ∃ m, s.regenTold k g x b n =
    { s with seq := { s.seq with tanks := s.seq.tanks.set k { s.tank k with regenTag := none } }, notices := m } :=
  ⟨_, requestDoneIf_others _ _ _ _ _ _⟩

/-- The tank record as its regeneration ends (R75). -/
def TankRecord.ended (r : TankRecord) : TankRecord :=
  { r with service := .ready, step := none, phase := none, halt := false, elapsed := 0, elapsedMin := 0 }

/-- The tank record after its regeneration (R75). -/
def TankRecord.regenerated (r : TankRecord) : TankRecord :=
  { r with service := .ready, step := none, phase := none, halt := false, elapsed := 0, elapsedMin := 0, claim := .none, regenTag := none }

/-- A regeneration that held the line's only entry, its end (R75). -/
theorem regenEnd_others {c : Bool} (hl : s.line = { regen := some { granted := true, tank := k, continuation := c } })
    (hc : (s.tank k).claim = .granted) (hd : s.seq.due = none) : ∃ b m, regenEnd k s = { s with
      seq := { s.seq with tanks := s.seq.tanks.set k (s.tank k).regenerated }
      cap := (creditTank k (brineFactor s) s).cap, line := {}, brine := b, notices := m }
    ∧ b.inventory = s.brine.inventory - saltUsed s ∧ b.log = s.saltLogged ∧ b.draw = none ∧ b.postDue = some (s.now + 1800) := by
  obtain ⟨m₁, ready⟩ : ∃ m, s.regenReady k = { s with
      seq := { s.seq with tanks := s.seq.tanks.set k (s.tank k).ended }, notices := m } := ⟨_, changeTank_others s k _⟩
  have factor : brineFactor (s.regenReady k) = brineFactor s := by rw [ready]; rfl
  obtain ⟨b, m₂, credited, hi, hlog, hdraw, hdue⟩ := regenCredited_others k (s.regenReady k)
  rw [factor] at credited
  rw [ready] at hi hlog
  have released : ((s.regenReady k).regenCredited k).regenReleased k .granted = _ := regenReleased_eq (c := c) (by rw [credited, ready]; exact hl)
  obtain ⟨m₃, told⟩ := regenTold_others k (s.tank k).regenTag (((s.regenReady k).regenCredited k).record k).credited
    (brineFactor (s.regenReady k)) (saltUsed (s.regenReady k)) (((s.regenReady k).regenCredited k).regenReleased k .granted)
  rw [regenEnd_eq, hc, told]
  have due : (((s.regenReady k).regenCredited k).regenReleased k .granted).seq.due = none := by
    rw [released, credited, ready]
    exact hd
  refine ⟨b, m₃, (changeoverBegin_waits fun t ht => ?_).trans ?_, hi, hlog, hdraw, hdue.trans (by rw [ready]; rfl)⟩
  · exact nomatch due.symm.trans ht
  · rw [released, credited, ready]
    cases k <;> rfl

/-- The one tank that is regenerating. -/
theorem regenerating_only (h : (s.tank k).service = .regenerating) (ho : (s.tank k.other).service ≠ .regenerating) : regenerating s = some k := by
  cases k
  · exact if_pos h
  · have ho' : (s.tank .a).service ≠ .regenerating := ho
    rw [regenerating, if_neg ho', if_pos h]

/-- The sequencer's move arrives: the arrival is taken, and no mode change waits (R47, R51, R54). -/
theorem discArrival_sequencer (p : Pos) (hr : s.disc.requester = some .sequencer) (ht : s.disc.retryTag = none) (hf : s.disc.retriedFault = none)
    (hm : (sequencerArrival p { s with disc := s.disc.stood p }).disc.mode = .auto)
    (hset : (sequencerArrival p { s with disc := s.disc.stood p }).settings.user.soft.discMode = .auto) :
    discArrival p s = sequencerArrival p { s with disc := s.disc.stood p } := by
  simp only [discArrival, Disc.arrive_stood p ht hf, hr, ht, hf, requestDoneIf]
  exact modeChange_auto hm hset

/-- The arrival of a regenerating tank at its READY position (R75). -/
theorem sequencerArrival_ready (hc : s.seq.changeover = none) (h : (s.tank k).service = .regenerating)
    (ho : (s.tank k.other).service ≠ .regenerating) (hp : (s.tank k).phase = some .toReady) :
    sequencerArrival (readyPosition k) s = regenEnd k s := by
  simp only [sequencerArrival, hc, regenerating_only h ho, hp, if_true]

end

theorem Pos.pred_succ (p : Pos) : p = p - 1 + 1 := by
  revert p
  decide

theorem Disc.driven_notObserving {d : Disc} (h : d.driven = true) : d.state ≠ .observing := fun e => by
  simp [Disc.driven, e] at h

/-- Settles O22: the arrival is the regeneration's end, whose parts leave one another's records. -/
theorem regenerationEnds : Obligations.RegenerationEnds := by
  unfold Obligations.RegenerationEnds
  intro t code s hs hin hd hcode htarget hpos hreq hretry hfault hmode hset hchange hdue hservice hphase hclaim hother hline
  have check := (Disc.check_known hcode htarget hpos).trans (checkPosition_arrival (Pos.pred_succ _) rfl)
  have arrival := inPlaceSet_arrival hin (Disc.driven_notObserving hd) hd hcode check
  generalize hd' : ({ s.disc with inPlace := true, code := code, legTime := 0 } : Disc) = d at arrival
  have fields : d.requester = some .sequencer ∧ d.retryTag = none ∧ d.retriedFault = none ∧ d.mode = .auto := by
    rw [← hd']
    exact ⟨hreq, hretry, hfault, hmode⟩
  obtain ⟨hreq', hretry', hfault', hmode'⟩ := fields
  have ready : sequencerArrival (readyPosition t) { s with disc := d.stood (readyPosition t) } = regenEnd t { s with disc := d.stood (readyPosition t) } :=
    sequencerArrival_ready hchange hservice hother hphase
  obtain ⟨b, m, ended, hi, hlog, hdraw, hpost⟩ := regenEnd_others (s := { s with disc := d.stood (readyPosition t) }) hline hclaim hdue
  have reached : discArrival (readyPosition t) { s with disc := d } = regenEnd t { s with disc := d.stood (readyPosition t) } :=
    (discArrival_sequencer (s := { s with disc := d }) (readyPosition t) hreq' hretry' hfault' (by rw [ready, ended]; exact hmode')
      (by rw [ready, ended]; exact hset)).trans ready
  refine ⟨_, event_leaves hs (arrival.trans (reached.trans ended)), ?_⟩
  intro r b' grams c
  refine ⟨PerTank.get_set_same _ _ _, PerTank.get_set_other _ _ _, PerTank.get_set_same _ _ _, ?_, ?_, ?_, ?_, ?_, ?_, ?_,
    rfl, hdraw, hi, ?_, ?_, hpost, rfl, rfl, rfl, rfl, rfl, rfl⟩
  · exact congrArg TankRecord.service (PerTank.get_set_same _ _ _)
  · exact congrArg TankRecord.step (PerTank.get_set_same _ _ _)
  · exact congrArg TankRecord.phase (PerTank.get_set_same _ _ _)
  · exact congrArg TankRecord.halt (PerTank.get_set_same _ _ _)
  · exact congrArg TankRecord.claim (PerTank.get_set_same _ _ _)
  · exact congrArg TankRecord.regenTag (PerTank.get_set_same _ _ _)
  · exact PerTank.get_set_other _ _ _
  · exact (congrArg List.getLast? hlog).trans List.getLast?_concat
  · exact hlog ▸ saltLogged_length _

end Sys2Proof.Machine

/-! The flush on the process line: O28 and O29. -/

namespace Sys2Proof.Machine

set_option Elab.async false

section
variable {s : State}

/-! ### The claim (R113, R84) -/

theorem claimFlush_none (h : Bool) (hl : s.line.flush = none) :
    claimFlush h s = grantDecision { s with line := { s.line with flush := some { granted := false, high := h } } } := by
  rw [claimFlush, hl]

/-- A pending entry of FLUSH leaves the owner (section 5.1). -/
theorem Line.owner_pending {l : Line} {h : Bool} (hf : l.flushGranted = false) :
    ({ l with flush := some { granted := false, high := h } } : Line).owner = l.owner := by
  simp only [Line.owner, hf]
  rfl

/-- A flush that has a reason and none of its entries claims the line (R113). -/
theorem flushClaim_claims (hl : s.line.flush = none) (hs : s.filter.state ≠ .flushing)
    (hd : s.filter.due.blocked = true ∨ s.filter.due.host = true
      ∨ (s.filter.due.loaded = true ∨ s.filter.due.volume = true ∨ s.filter.due.days = true) ∧ s.filter.quiet = 60) :
    flushClaim s = claimFlush s.filter.due.blocked s := by
  have reason : s.filter.due.blocked = true ∨ s.filter.due.host = true ∨ (s.filter.due.automatic = true ∧ s.filter.quiet = 60) := by
    refine hd.imp_right (Or.imp_right fun h => ⟨?_, h.2⟩)
    simp only [DueSet.automatic, Bool.or_eq_true]
    rcases h.1 with h | h | h <;> simp [h]
  rw [flushClaim, hl]
  exact if_pos ⟨hs, reason⟩

/-- Any other reason waits for 60 quiet seconds (R113). -/
theorem flushClaim_waits (hl : s.line.flush = none) (hb : s.filter.due.blocked = false) (hh : s.filter.due.host = false)
    (hq : s.filter.quiet ≠ 60) : flushClaim s = s := by
  rw [flushClaim, hl]
  refine if_neg fun h => ?_
  rw [hb, hh] at h
  simp [hq] at h

/-- A pending entry is raised to HIGH by BLOCKED alone (R113, R84). -/
theorem flushClaim_pending (hl : s.line.flush = some { granted := false, high := false }) (ho : s.line.owner ≠ .none) :
    flushClaim s = if s.filter.due.blocked = true then
      { s with line := { s.line with flush := some { granted := false, high := true } } } else s := by
  have owned : ({ s.line with flush := some { granted := false, high := true } } : Line).owner ≠ .none := by
    rw [Line.owner_pending (by rw [Line.flushGranted, hl])]
    exact ho
  rw [flushClaim, hl]
  cases hb : s.filter.due.blocked
  · rfl
  · rw [claimFlush, hl]
    exact grantDecision_owned owned

theorem grantDecision_flush {e : FlushEntry} (ha : grantAllowed s = true) (hw : s.line.winner = .flush e) :
    grantDecision s = grantFlush e s := by rw [grantDecision, if_pos ha, hw]

/-- On a free line a claim of FLUSH is granted and the flush starts (R86, R87, R115). -/
theorem claimFlush_free {h : Bool} (hl : s.line = {}) (hm : s.supply.state = .mains) (ho : s.valve.state = .opened) :
    ∃ n, claimFlush h s = { s with
      line := { flush := some { granted := true, high := h } }, filter := s.filter.flushStarted s.settings.user.filter.flushTime, notices := n } := by
  obtain ⟨n, started⟩ := flushStart_others { s with line := { flush := some { granted := true, high := h } } }
  refine ⟨n, (claimFlush_none h (by rw [hl])).trans (Eq.trans ?_ started)⟩
  have allowed : grantAllowed { s with line := { s.line with flush := some { granted := false, high := h } } } = true := by
    simp [grantAllowed, hl, hm, ho, Line.owner, Line.regenGranted, Line.flushGranted, Line.testGranted]
  have winner : ({ s.line with flush := some { granted := false, high := h } } : Line).winner = .flush { granted := false, high := h } := by
    rw [hl]
    cases h <;> rfl
  rw [grantDecision_flush allowed winner, grantFlush, hl]

end

/-- Settles O28: the reasons decide the claim, and the line's owner whether it waits. -/
theorem flushClaimed : Obligations.FlushClaimed := by
  unfold Obligations.FlushClaimed
  intro s hs d
  refine ⟨fun hl _ hb hh hq => event_leaves hs (flushClaim_waits hl hb hh hq), fun hl hf hd => ⟨fun hline hm ho => ?_, fun ho => ?_⟩,
    fun hl ho => event_leaves hs (flushClaim_pending hl ho)⟩
  · obtain ⟨n, hn⟩ := claimFlush_free (h := d.blocked) hline hm ho
    exact ⟨_, event_leaves hs ((flushClaim_claims hl hf hd).trans hn), rfl, rfl, rfl⟩
  · refine event_leaves hs ((flushClaim_claims hl hf hd).trans ((claimFlush_none _ hl).trans (grantDecision_owned ?_)))
    show ({ s.line with flush := some { granted := false, high := d.blocked } } : Line).owner ≠ .none
    rw [Line.owner_pending (by rw [Line.flushGranted, hl])]
    exact ho

section
variable {s : State}

/-! ### The end (R116) -/

/-- The release of the only entry leaves the table empty (R88). -/
theorem releaseFlush_only {h : Bool} (hl : s.line = { flush := some { granted := true, high := h } }) :
    releaseFlush s = { s with line := {} } := by
  have granted : s.line.flushGranted = true := by rw [hl]; rfl
  rw [releaseFlush, if_pos granted, hl]
  exact grantDecision_empty rfl

/-- The filter's record after a flush that has cleaned the screen (R116). -/
def Filter.flushed (f : Filter) : Filter :=
  { f with volume := 0, days := 0, due := {}, acq := 0, baselineDue := false, state := .clean }

theorem flushOutcome_done (hf : s.filter.state = .flushing) (hv : 1000 ≤ s.filter.flush.volume) : ∃ n, flushOutcome s = { s with
    filter := s.filter.flushed, faults := s.faults.gone .flushNoFlow .none, notices := n } := by
  rw [flushOutcome, if_pos hv]
  have due (f : Filter) (h : f.state = .flushing) : f.dueAfter .clean = f.due := if_pos (.inr h)
  rw [filterEvaluateNow, setFilter_others, evaluatedState]
  simp only [show (0 : Nat) < 60 from by decide, if_true, due { s.filter with
    volume := 0, days := 0, due := {}, acq := 0, baselineDue := false } hf]
  exact ⟨_, rfl⟩

theorem flushOutcome_noFlow (hf : s.filter.state = .flushing) (hv : s.filter.flush.volume < 1000) : ∃ n, flushOutcome s = { s with
    filter := { s.filter with due := {}, state := evaluatedState s.filter s.settings.user.filter }
    faults := s.faults.report .flushNoFlow .none (s.filter.flush.volume : Int) s.now, notices := n } := by
  rw [flushOutcome, if_neg (by omega)]
  have due (f : Filter) (n : FilterState) (h : f.state = .flushing) : f.dueAfter n = f.due := if_pos (.inr h)
  rw [filterEvaluateNow, setFilter_others]
  exact ⟨_, congrArg (fun d : DueSet => ({ s with
    filter := { s.filter with due := d, state := evaluatedState s.filter s.settings.user.filter }
    faults := s.faults.report .flushNoFlow .none (s.filter.flush.volume : Int) s.now, notices := _ } : State)) (due _ _ hf)⟩

theorem answerFlush_others (d : Bool) (s : State) : ∃ n, answerFlush d s = { s with filter := { s.filter with tag := none }, notices := n } :=
  ⟨_, requestDoneIf_others _ _ _ _ _ _⟩

/-- A flush at its time: its outcome, the line released, the tag answered (R116). -/
theorem flushEnd_ends {h : Bool} {f : Filter} {l : FaultLog} {n : NoticeQueue} (hf : s.filter.state = .flushing)
    (hl : s.line = { flush := some { granted := true, high := h } }) (ht : s.filter.flush.time ≤ s.filter.flush.elapsed)
    (hout : flushOutcome { s with filter := { s.filter with solenoid := false } } = { s with filter := f, faults := l, notices := n }) :
    ∃ m, flushEnd s = { s with filter := { f with tag := none }, faults := l, line := {}, notices := m } := by
  rw [flushEnd, if_pos ⟨hf, ht⟩]
  dsimp only
  rw [hout, releaseFlush_only (s := { s with filter := f, faults := l, notices := n }) hl]
  obtain ⟨m, hm⟩ := answerFlush_others (decide (1000 ≤ s.filter.flush.volume)) (post .flushDone .none
    (if decide (1000 ≤ s.filter.flush.volume) = true then 0 else 1) s.filter.flush.volume s.filter.flush.startIndex
    { s with filter := f, faults := l, notices := n, line := {} })
  exact ⟨m, hm⟩

/-! ### The cut (R117) -/

/-- The filter's record after a flush that was cut (R117). -/
def Filter.cut (f : Filter) (c : FilterSettings) : Filter := { f with solenoid := false, state := evaluatedState f c }

theorem flushCut_only {h : Bool} (hf : s.filter.state = .flushing) (hl : s.line = { flush := some { granted := true, high := h } }) :
    ∃ n, flushCut s = { s with filter := s.filter.cut s.settings.user.filter, line := {}, notices := n } := by
  rw [flushCut, if_pos hf]
  have due (n : FilterState) : ({ s.filter with solenoid := false } : Filter).dueAfter n = s.filter.due := if_pos (.inr hf)
  have granted : s.line.flushGranted = true := by rw [hl]; rfl
  have dropped (v : State) (hv : v.line = s.line) : dropFlush v = { v with line := {} } := by
    rw [dropFlush, hv, if_pos granted, hl]
  dsimp only
  rw [filterEvaluateNow, setFilter_others, due, dropped]
  · exact ⟨_, rfl⟩
  · rfl

/-- A drive that takes the valve from OPEN cuts a flush (R117). -/
theorem driveOrArrive_cuts (ho : s.valve.state = .opened) (hc : s.pins.closedEnd = false) :
    ∃ w m, driveOrArrive .closedEnd s = drive .closedEnd (flushCut { s with valve := w, notices := m }) := by
  have change : ∃ w m, valveChange .closing s = flushCut { s with valve := w, notices := m } := by
    rw [valveChange, ho]
    exact ⟨_, _, rfl⟩
  obtain ⟨w, m, e⟩ := change
  refine ⟨w, m, ?_⟩
  rw [driveOrArrive, Pins.switch, hc, if_neg Bool.false_ne_true, travelState, e]

/-- A first reason has an OPEN valve leave OPEN, which cuts a flush, and drives it (R117, R143). -/
theorem addReason_cuts (n : Reason) (hr : s.valve.reasons.any = false) (ho : s.valve.state = .opened) (hc : s.pins.closedEnd = false) :
    ∃ v m, addReason n s = drive .closedEnd (flushCut { s with valve := v, notices := m }) := by
  have target : (s.withReason n true).targetEnd = .closedEnd := if_pos (Reasons.any_put _ _)
  have begun : addReason n s = beginTravel (s.withReason n true) := by
    have hno : s.targetClosed = false := hr
    have ho' : (s.withReason n true).valve.state = .opened := ho
    unfold addReason
    rw [hno, if_neg Bool.false_ne_true]
    show targetBecameClosed (s.withReason n true) = _
    unfold targetBecameClosed
    rw [ho']
  obtain ⟨w, m, e⟩ := driveOrArrive_cuts (s := { s.withReason n true with
    valve := { (s.withReason n true).valve with second := false, retried := false } }) ho hc
  refine ⟨w, m, begun.trans ?_⟩
  rw [beginTravel, target]
  exact e

/-- The loss of mains with the battery above its marks cuts a flush (R117, R151). -/
theorem mainsLoss_cuts (hm : s.supply.state = .mains) (h105 : s.supply.below105 < 10) (h114 : s.supply.below114 < 10)
    (ht : s.leak.test.phase.closes = false) : ∃ p q m, mainsLoss s = flushCut { s with pins := p, supply := q, notices := m } ∧ q.state = .battery := by
  have loss : stateOnLoss s.supply = .battery := by rw [stateOnLoss, if_neg (by omega), if_neg (by omega)]
  have left (v : State) (hv : v.leak.test.phase.closes = false) : mainsLeft v = flushCut v := by
    have leak : (flushCut v).leak = v.leak := by rw [(valves_flushCut v).others]
    rw [mainsLeft, abandonClosing, leak, hv]
    rfl
  have change : supplyChange .battery { s with pins := { s.pins with mains := false } }
      = mainsLeft (({ s with pins := { s.pins with mains := false } } : State).supplied .battery) := by
    rw [supplyChange_eq (s := { s with pins := { s.pins with mains := false } }) (by rw [hm]; exact fun h => nomatch h)]
    exact if_pos hm
  obtain ⟨q, m, told, hq⟩ : ∃ q m, ({ s with pins := { s.pins with mains := false } } : State).supplied .battery
      = { s with pins := { s.pins with mains := false }, supply := q, notices := m } ∧ q.state = .battery := by
    rw [State.supplied, if_neg (by rw [hm]; exact fun h => nomatch h)]
    exact ⟨_, _, rfl, rfl⟩
  refine ⟨{ s.pins with mains := false }, q, m, ?_, hq⟩
  rw [mainsLoss, if_pos hm, loss, change, told]
  exact left _ ht

end

/-- Settles O29: at its time the outcome, else the cut by the supply or by the valve. -/
theorem flushEnds : Obligations.FlushEnds := by
  unfold Obligations.FlushEnds
  intro h s hs hf hl
  refine ⟨fun ht => event_leaves hs (if_neg fun hc => Nat.not_le.2 ht hc.2), fun ht => ?_, ?_⟩
  · rcases Nat.lt_or_ge s.filter.flush.volume 1000 with hv | hv
    · obtain ⟨n, out⟩ := flushOutcome_noFlow (s := { s with filter := { s.filter with solenoid := false } }) hf hv
      obtain ⟨m, hm⟩ := flushEnd_ends hf hl ht out
      exact ⟨_, event_leaves hs hm, rfl, fun hv' => absurd hv' (Nat.not_le.2 hv), fun _ => ⟨rfl, rfl⟩, rfl⟩
    · obtain ⟨n, out⟩ := flushOutcome_done (s := { s with filter := { s.filter with solenoid := false } }) hf hv
      obtain ⟨m, hm⟩ := flushEnd_ends hf hl ht out
      exact ⟨_, event_leaves hs hm, rfl, fun _ => ⟨rfl, rfl⟩, fun hv' => absurd hv (Nat.not_le.2 hv'), rfl⟩
  · intro cut
    refine ⟨fun hm h105 h114 hp => ?_, fun svc tag hfree hr ho hc => ?_⟩
    · obtain ⟨p, q, m, loss, hq⟩ := mainsLoss_cuts hm h105 h114 hp
      obtain ⟨n, hn⟩ := flushCut_only (s := { s with pins := p, supply := q, notices := m }) hf hl
      exact ⟨_, event_leaves hs (loss.trans hn), hq, rfl, rfl⟩
    · let w := frameDropped (s.withSvc svc)
      have none_left : w.valve.reasons.any = false := by show s.valve.reasons.any = false; rw [hr]; rfl
      refine ⟨w.closeTaken tag, exec_answers rfl hfree trivial (takeRequest_close tag w), (closeTaken_opened (s := w) none_left ho hc).1, ?_⟩
      obtain ⟨k, hk⟩ := recordTag_tagged tag w
      obtain ⟨v, m, hv⟩ := addReason_cuts (s := w.tagged tag k) .host none_left ho hc
      obtain ⟨n, hn⟩ := flushCut_only (s := { w.tagged tag k with valve := v, notices := m }) hf hl
      rw [hn] at hv
      obtain ⟨j, hj⟩ := answerTag_eq (addReason .host (w.tagged tag k))
      rw [State.closeTaken, hk, hj, hv]
      exact ⟨rfl, rfl⟩

end Sys2Proof.Machine

/-! The sequencer's claim of the process line and the order of the grants: O18. -/

namespace Sys2Proof.Machine

set_option Elab.async false

section
variable {s : State} {k : Tank}

/-! ### What a grant leaves of the claim table -/

/-- A withdrawal leaves a granted entry (R85). -/
theorem withdrawRegen_line (h : ∀ e, s.line.regen = some e → e.granted = true) (k : Tank) : (withdrawRegen k s).line = s.line := by
  have kept (v : State) : (if (v.tank k).claim = .pending then v.withTank k { v.tank k with claim := .none } else v).line = v.line := by
    split <;> rfl
  unfold withdrawRegen
  dsimp only
  refine (kept _).trans ?_
  split
  next e he =>
    rw [if_neg fun hc => ?_]
    rw [h e he] at hc
    exact Bool.noConfusion hc.2
  next => rfl

theorem defer_line (k : Tank) (r : DeferReason) (s : State) : (defer k r s).line = s.line := by
  obtain ⟨m, e⟩ := defer_others k r s
  rw [e]
  rfl

theorem applyManual_line (h : ∀ e, s.line.regen = some e → e.granted = true) : (applyManual s).line = s.line := by
  have one (k : Tank) (v : State) (hv : ∀ e, v.line.regen = some e → e.granted = true) : (manualTold k v).line = v.line := by
    have kept := withdrawRegen_line hv k
    unfold manualTold
    split
    · exact (defer_line _ _ _).trans kept
    · exact kept
  unfold applyManual
  split
  · rw [manualReported_eq]
    have first := one .a { s with disc := { s.disc with mode := .manual } } h
    exact (one .b _ (by rw [first]; exact h)).trans first
  · rfl

theorem stepArrival_line (k : Tank) (x : Step) (s : State) : (stepArrival k x s).line = s.line := by
  have started (v : State) : (stepStarted k x v).line = v.line := by rw [(brining_stepStarted k x v).others]
  have ended (v : State) : (brineEnd v).line = v.line := by rw [(brining_brineEnd v).others]
  unfold stepArrival enterOtherStep
  dsimp only
  repeat' split
  · exact (started _).trans (changeTank_line _ _ _)
  · exact changeTank_line _ _ _
  · exact (started _).trans ((changeTank_line _ _ _).trans (ended _))
  · exact (started _).trans (changeTank_line _ _ _)

theorem askStepMove_line (h : ∀ e, s.line.regen = some e → e.granted = true) (k : Tank) (x : Step) : (askStepMove k x s).line = s.line := by
  have asked := discRequest_line (stepPosition k x) s
  have arrived := (stepArrival_line k x (discRequest (stepPosition k x) s)).trans asked
  unfold askStepMove
  dsimp only
  split
  · exact (applyManual_line (by rw [arrived]; exact h)).trans arrived
  · exact asked

/-- A grant of REGEN marks its entry, and no more of the table (R87). -/
theorem grantRegen_line (e : RegenEntry) (s : State) : (grantRegen e s).line = { s.line with regen := some { e with granted := true } } := by
  unfold grantRegen
  dsimp only
  split
  · refine (askStepMove_line ?_ _ _).trans (changeTank_line _ _ _)
    rw [changeTank_line]
    rintro x hx
    cases hx
    rfl
  · rfl

/-! ### A tank's grant (R70) -/

theorem stepArrival_service (k : Tank) (x : Step) (s : State) : ((stepArrival k x s).tank k).service = (s.tank k).service := by
  have started (v : State) : (stepStarted k x v).tank k = v.tank k := by rw [(brining_stepStarted k x v).others]; rfl
  have ended (v : State) : (brineEnd v).tank k = v.tank k := by rw [(brining_brineEnd v).others]; rfl
  unfold stepArrival enterOtherStep
  dsimp only
  repeat' split
  all_goals simp only [started, ended, changeTank_tank_same]

theorem applyManual_service (k : Tank) (s : State) : ((applyManual s).tank k).service = (s.tank k).service := by
  unfold applyManual
  split
  · exact ((manualReported_tank { s with disc := { s.disc with mode := .manual } }).1 k).service
  · rfl

theorem grantRegen_exhausted {e : RegenEntry} (h : (s.tank e.tank).service = .exhausted) :
    grantRegen e s = askStepMove e.tank .backwash (changeTank e.tank ((s.tank e.tank).begin (latchRecipe e.tank s))
      { s with line := { s.line with regen := some { e with granted := true } } }) := if_pos h

/-- The grant of an EXHAUSTED tank makes it REGENERATING (R70). -/
theorem grantRegen_service {e : RegenEntry} (h : (s.tank e.tank).service = .exhausted) :
    ((grantRegen e s).tank e.tank).service = .regenerating := by
  have asked (x : Step) (v : State) : ((askStepMove e.tank x v).tank e.tank).service = (v.tank e.tank).service := by
    unfold askStepMove
    dsimp only
    split
    · rw [applyManual_service, stepArrival_service, discRequest_tank]
    · rw [discRequest_tank]
  rw [grantRegen_exhausted h]
  exact (asked _ _).trans (by rw [changeTank_tank_same]; rfl)

/-! ### What a TEST's grant leaves of the claim table -/

theorem flushCut_line (h : s.line.flushGranted = false) : (flushCut s).line = s.line := by
  have evaluated (v : State) : (filterEvaluateNow v).line = v.line := by rw [filterEvaluateNow, setFilter_others]
  have kept (v : State) (hv : v.line = s.line) : (dropFlush v).line = s.line := by
    rw [dropFlush, hv, h, if_neg Bool.false_ne_true, hv]
  unfold flushCut
  split
  · exact kept _ (evaluated _)
  · rfl

theorem valveChange_line (h : s.line.flushGranted = false) (v : ValveState) : (valveChange v s).line = s.line := by
  unfold valveChange
  dsimp only
  repeat' split
  · rfl
  · exact flushCut_line h
  · rfl

theorem answerTag_line (s : State) : (answerTag s).line = s.line := by
  obtain ⟨n, e⟩ := answerTag_eq s
  rw [e]

theorem valveArrive_line (h : s.line.flushGranted = false) (e : ValveEnd) : (valveArrive e s).line = s.line := by
  have cured (b : Bool) (v : State) : (if b then faultGone .shutoffStuck .none v else v).line = v.line := by cases b <;> rfl
  have changed (v : ValveState) (w : State) (hw : w.line = s.line) : (valveChange v w).line = s.line :=
    (valveChange_line (by rw [hw]; exact h) v).trans hw
  rw [valveArrive, answerTag_line, cured]
  exact changed _ _ rfl

theorem driveOrArrive_line (h : s.line.flushGranted = false) (e : ValveEnd) : (driveOrArrive e s).line = s.line := by
  unfold driveOrArrive
  split
  · exact valveArrive_line h e
  · exact valveChange_line h _

/-- A reason added while no flush is granted leaves the table. -/
theorem addReason_line (h : s.line.flushGranted = false) (n : Reason) : (addReason n s).line = s.line := by
  have reversed (v : State) (hv : v.line = s.line) : (reverseTravel v).line = s.line :=
    (valveChange_line (s := { v with valve := _ }) (by rw [hv]; exact h) _).trans hv
  have begun (v : State) (hv : v.line = s.line) : (beginTravel v).line = s.line :=
    (driveOrArrive_line (s := { v with valve := _ }) (by rw [hv]; exact h) _).trans hv
  have run (v : State) (hv : v.line = s.line) : (closeRunTravels v).line = s.line := by
    have judged (b : Bool) (w : State) (hw : w.line = s.line) : (if b then exercisePassed w else w).line = s.line := by cases b <;> exact hw
    have passed := judged v.valve.released { v with valve := { v.valve with exercise := .none, second := false } } hv
    unfold closeRunTravels
    dsimp only
    split
    · exact (valveArrive_line (by rw [passed]; exact h) _).trans passed
    · exact passed
  unfold addReason targetBecameClosed
  dsimp only
  split
  · rfl
  · split
    · exact begun _ rfl
    · exact run _ rfl
    all_goals first | exact reversed _ rfl | rfl

/-! ### The order of the grants (R86, R87) -/

theorem grantDecision_regen {e : RegenEntry} (ha : grantAllowed s = true) (hw : s.line.winner = .regen e) :
    grantDecision s = grantRegen e s := by rw [grantDecision, if_pos ha, hw]

theorem grantDecision_test (ha : grantAllowed s = true) (hw : s.line.winner = .test) : grantDecision s = grantTest s := by
  rw [grantDecision, if_pos ha, hw]

theorem grantAllowed_intro (ho : s.line.owner = .none) (hm : s.supply.state = .mains) (hv : s.valve.state = .opened) : grantAllowed s = true := by
  simp [grantAllowed, ho, hm, hv]

theorem Line.winner_first {l : Line} {e : RegenEntry} (h : l.regen = some e)
    (hf : e.continuation = true ∨ ¬ ∃ f, l.flush = some f ∧ f.high = true) : l.winner = .regen e := by
  obtain ⟨r, f, t⟩ := l
  obtain ⟨g, k, c⟩ := e
  obtain rfl : r = some ⟨g, k, c⟩ := h
  cases c with
  | true => rfl
  | false =>
    have low := hf.resolve_left Bool.false_ne_true
    rcases f with _ | ⟨fg, fh⟩
    · rfl
    · cases fh with
      | true => exact absurd ⟨_, rfl, rfl⟩ low
      | false => rfl

theorem Line.winner_second {l : Line} {e : FlushEntry} (h : l.flush = some e) (hr : ¬ ∃ r, l.regen = some r ∧ r.continuation = true)
    (hf : e.high = true ∨ l.regen = none ∧ l.test = none) : l.winner = .flush e := by
  obtain ⟨r, f, t⟩ := l
  obtain ⟨g, high⟩ := e
  obtain rfl : f = some ⟨g, high⟩ := h
  rcases hf with rfl | ⟨hn, ht⟩
  · rcases r with _ | ⟨rg, rk, _ | _⟩
    · rfl
    · rfl
    · exact absurd ⟨_, rfl, rfl⟩ hr
  · obtain rfl : r = none := hn
    obtain rfl : t = none := ht
    cases high <;> rfl

theorem Line.winner_third {l : Line} (hr : l.regen = none) (ht : l.test ≠ none) (hf : ¬ ∃ f, l.flush = some f ∧ f.high = true) :
    l.winner = .test := by
  obtain ⟨r, f, t⟩ := l
  obtain rfl : r = none := hr
  rcases t with _ | t
  · exact absurd rfl ht
  · rcases f with _ | ⟨fg, _ | _⟩
    · rfl
    · rfl
    · exact absurd ⟨_, rfl, rfl⟩ hf

theorem grantFlush_line (e : FlushEntry) (s : State) : (grantFlush e s).line = { s.line with flush := some { e with granted := true } } := by
  obtain ⟨n, h⟩ := flushStart_others { s with line := { s.line with flush := some { e with granted := true } } }
  rw [grantFlush, h]

theorem grantTest_line (hp : s.leak.test.phase = .claiming) (ho : s.line.owner = .none) :
    (grantTest s).line = { s.line with test := some { granted := true } } := by
  have unflushed : s.line.flushGranted = false := (Line.owner_none ho).2.1
  have closed (v w : State) (hw : w.line = v.line) (hv : v.line.flushGranted = false) : (addReason .test w).line = v.line :=
    (addReason_line (by rw [hw]; exact hv) _).trans hw
  have granted (v : State) (hv : v.line.flushGranted = false) : (testAccept v).line = v.line := closed v _ rfl hv
  rw [grantTest, if_pos hp]
  exact granted { s with line := { s.line with test := some { granted := true } } } unflushed

/-! ### The sequencer's claim (R69, R84) -/

/-- The start conditions other than the grant hold (R69). -/
theorem startAllowed_intro (hm : s.supply.state = .mains) (ho : s.valve.state = .opened) (ha : s.disc.mode = .auto)
    (hd : s.disc.state = .atPosition) (hh : (s.tank k).halt = false) (hw : windowMet k s = true) : startAllowed k s = true := by
  simp [startAllowed, startConditions, hm, ho, ha, hd, hh, hw]

theorem startAllowed_grants (h : startAllowed k s = true) : s.supply.state = .mains ∧ s.valve.state = .opened := by
  simp only [startAllowed, startConditions, List.all_cons, Bool.and_eq_true, beq_iff_eq] at h
  exact ⟨h.1, h.2.1⟩

/-- The state with a tank's claim pending (R84). -/
def State.claiming (k : Tank) (s : State) : State :=
  { s.withTank k { s.tank k with claim := .pending } with line := { s.line with regen := some { granted := false, tank := k, continuation := false } } }

theorem claiming_tank (k : Tank) (s : State) : (s.claiming k).tank k = { s.tank k with claim := .pending } := PerTank.get_set_same _ _ _

theorem claiming_other (k : Tank) (s : State) : (s.claiming k).tank k.other = s.tank k.other := PerTank.get_set_other _ _ _

variable (he : (s.tank k).service = .exhausted) (hd : s.disc.state = .atPosition) (hc : s.seq.changeover = none)
  (hcl : (s.tank k).claim = .none) (hr : s.line.regen = none)

section
include he hd hc
theorem claimHeld_intro (h : startAllowed k s = true) : claimHeld k s = true := by simp [claimHeld, he, hd, hc, h]

include hcl hr in
/-- A tank that may start claims the line (R69). -/
theorem keepClaim_claims (h : startAllowed k s = true) : keepClaim k s = grantDecision (s.claiming k) := by
  rw [keepClaim, if_pos ⟨claimHeld_intro he hd hc h, hcl, hr⟩, claimRegen, hr]
  rfl

end

/-- A tank that is not EXHAUSTED keeps no claim (R69). -/
theorem keepClaim_idle (h : (s.tank k).service ≠ .exhausted) : keepClaim k s = s := by
  refine if_neg fun hc => ?_
  simp [claimHeld, h] at hc

/-- A claim stands already. -/
theorem keepClaim_stands (h : s.line.regen ≠ none) : keepClaim k s = s := if_neg fun hc => h hc.2.2

include he hd hc hcl in
/-- At a change to mains or OPEN the claim stands at the decision, ahead of a NORMAL flush that waited (R86, log entry 44). -/
theorem changeDecision_first (hother : (s.tank k.other).service ≠ .exhausted) (hl : s.line = { flush := some { granted := false, high := false } })
    (h : startAllowed k s = true) : ((changeDecision s).tank k).service = .regenerating
    ∧ (changeDecision s).line = { regen := some { granted := true, tank := k, continuation := false }, flush := s.line.flush } := by
  obtain ⟨hm, hv⟩ := startAllowed_grants h
  have winner : (s.claiming k).line.winner = .regen { granted := false, tank := k, continuation := false } := by
    show Line.winner { s.line with regen := some { granted := false, tank := k, continuation := false } } = _
    rw [hl]
    rfl
  have owner : (s.claiming k).line.owner = .none := by
    show Line.owner { s.line with regen := some { granted := false, tank := k, continuation := false } } = _
    rw [hl]
    rfl
  have decided : keepClaim k s = grantRegen { granted := false, tank := k, continuation := false } (s.claiming k) :=
    (keepClaim_claims he hd hc hcl (by rw [hl]) h).trans (grantDecision_regen (grantAllowed_intro owner hm hv) winner)
  have line := grantRegen_line { granted := false, tank := k, continuation := false } (s.claiming k)
  have service := grantRegen_service (s := s.claiming k) (e := { granted := false, tank := k, continuation := false })
    (by rw [claiming_tank]; exact he)
  rw [← decided] at line service
  have stands (j : Tank) : keepClaim j (keepClaim k s) = keepClaim k s := keepClaim_stands (by rw [line]; exact fun h => nomatch h)
  have owned : (keepClaim k s).line.owner ≠ .none := by
    rw [line]
    exact fun h => nomatch h
  have kept : keepClaim .b (keepClaim .a s) = keepClaim k s := by
    cases k
    · exact stands .b
    · have ho : (s.tank .a).service ≠ .exhausted := hother
      rw [keepClaim_idle ho]
  rw [changeDecision, kept, grantDecision_owned owned]
  refine ⟨service, line.trans ?_⟩
  show ({ regen := _, flush := s.line.flush, test := s.line.test } : Line) = _
  rw [hl]

end

end Sys2Proof.Machine

/-! The sequencer's claim of the process line at its event, and at a change to mains or OPEN: O18. -/

namespace Sys2Proof.Machine

set_option Elab.async false

/-- A pending entry of REGEN leaves the owner (section 5.1). -/
theorem Line.owner_claimed {l : Line} {e : RegenEntry} (hr : l.regen = none) (hg : e.granted = false) :
    ({ l with regen := some e } : Line).owner = l.owner := by
  obtain ⟨r, f, t⟩ := l
  obtain ⟨g, k, c⟩ := e
  obtain rfl : r = none := hr
  obtain rfl : g = false := hg
  rfl

section
variable {s u : State} {k : Tank}

/-! ### REGEN_CLAIM (R69, R70) -/

/-- With no other tank EXHAUSTED the event is the one tank's claim. -/
theorem regenClaims_one (ho : (s.tank k.other).service ≠ .exhausted) (hu : regenClaim k s = u) (hou : (u.tank k.other).service ≠ .exhausted) :
    regenClaim .b (regenClaim .a s) = u := by
  subst hu
  cases k
  · exact regenClaim_idle hou
  · have ho' : (s.tank .a).service ≠ .exhausted := ho
    rw [regenClaim_idle ho']

/-- The event of a tank's claim with no other tank EXHAUSTED. -/
theorem regenClaim_leaves (hs : s.stopped = false) (ho : (s.tank k.other).service ≠ .exhausted) (hu : regenClaim k s = u)
    (hou : (u.tank k.other).service ≠ .exhausted) : exec .regenClaim s = commit s (follow u) :=
  event_leaves (f := fun s => regenClaim .b (regenClaim .a s)) hs (regenClaims_one ho hu hou)

/-- The tank record as its regeneration begins (R70). -/
def TankRecord.granted (r : TankRecord) (recipe : Recipe) : TankRecord :=
  { r with
    service := .regenerating, step := some .backwash, phase := some .toStep, elapsed := 0, elapsedMin := 0
    deferral := {}, urgent := .none, claim := .granted, recipe := recipe }

variable (he : (s.tank k).service = .exhausted) (hd : s.disc.state = .atPosition) (hc : s.seq.changeover = none)
  (hcl : (s.tank k).claim = .none)
include he

section
include hd hc hcl

/-- On a free line the claim is granted, the recipe latched and the move to BACKWASH asked for (R70). -/
theorem regenClaim_granted (ha : s.disc.mode = .auto) (hstart : startAllowed k s = true) (hl : s.line = {})
    (hp : s.disc.position ≠ some (stepPosition k .backwash)) : ∃ n, regenClaim k s = { s with
      line := { regen := some { granted := true, tank := k, continuation := false } }
      seq := { s.seq with tanks := s.seq.tanks.set k ((s.tank k).granted (latchRecipe k s)) }
      disc := s.disc.moveTo (stepPosition k .backwash), notices := n } := by
  obtain ⟨hm, hv⟩ := startAllowed_grants hstart
  have winner : (s.claiming k).line.winner = .regen { granted := false, tank := k, continuation := false } := by
    show Line.winner { s.line with regen := some { granted := false, tank := k, continuation := false } } = _
    rw [hl]
    rfl
  have owner : (s.claiming k).line.owner = .none := by
    show Line.owner { s.line with regen := some { granted := false, tank := k, continuation := false } } = _
    rw [hl]
    rfl
  have claimed : regenClaim k s = grantDecision (s.claiming k) :=
    (if_pos (claimHeld_intro he hd hc hstart)).trans (keepClaim_claims he hd hc hcl (by rw [hl]) hstart)
  have began : ((s.claiming k).tank k).begin (latchRecipe k (s.claiming k)) = (s.tank k).granted (latchRecipe k s) := by
    rw [claiming_tank]
    rfl
  have moves (v : State) (r : TankRecord) (hv : v.disc = s.disc) :
      ∃ n, askStepMove k .backwash (changeTank k r v) = { v with
        seq := { v.seq with tanks := v.seq.tanks.set k r }, disc := s.disc.moveTo (stepPosition k .backwash), notices := n } := by
    have disc : (changeTank k r v).disc = s.disc := by rw [changeTank_others, hv]
    rw [askStepMove_moves (by rw [State.discFree, disc, hd, ha]; rfl) (by rw [disc]; exact hp), disc, changeTank_others]
    exact ⟨_, rfl⟩
  obtain ⟨n, e⟩ := moves { s.claiming k with line := { (s.claiming k).line with regen := some { granted := true, tank := k, continuation := false } } }
    ((s.tank k).granted (latchRecipe k s)) rfl
  refine ⟨n, claimed.trans ((grantDecision_regen (grantAllowed_intro owner hm hv) winner).trans
    ((grantRegen_exhausted (by rw [claiming_tank]; exact he)).trans ?_))⟩
  rw [began]
  refine e.trans ?_
  have line (x : Option RegenEntry) (l : Line) (hf : l.flush = none) (ht : l.test = none) : ({ l with regen := x } : Line) = { regen := x } := by
    show Line.mk x l.flush l.test = _
    rw [hf, ht]
  have tanks : (s.claiming k).seq.tanks.set k ((s.tank k).granted (latchRecipe k s)) = s.seq.tanks.set k ((s.tank k).granted (latchRecipe k s)) := by
    cases k <;> rfl
  dsimp only
  rw [line _ (s.claiming k).line (congrArg Line.flush hl) (congrArg Line.test hl), tanks]
  rfl

/-- On a line in use the claim stays pending (R84). -/
theorem regenClaim_waits (hstart : startAllowed k s = true) (hr : s.line.regen = none) (ho : s.line.owner ≠ .none) :
    regenClaim k s = s.claiming k := by
  have owned : (s.claiming k).line.owner ≠ .none := by
    have same : (s.claiming k).line.owner = s.line.owner := Line.owner_claimed hr rfl
    rw [same]
    exact ho
  exact (if_pos (claimHeld_intro he hd hc hstart)).trans ((keepClaim_claims he hd hc hcl hr hstart).trans (grantDecision_owned owned))

end

include hcl
/-- A tank that may not start has the failing conditions in its deferral set (R69). -/
theorem regenClaim_deferred (hs : startAllowed k s = false) (hr : s.line.regen = none) : regenClaim k s = deferFailing k s := by
  have unheld : claimHeld k s = false := by simp [claimHeld, hs]
  have kept : withdrawRegen k s = s := by
    rw [withdrawRegen, hr]
    exact if_neg (by rw [hcl]; exact fun h => nomatch h)
  rw [regenClaim, unheld, if_neg Bool.false_ne_true, if_pos he, kept]

end

/-- A reason not yet in the set joins it and is told (R69). -/
theorem defer_new {s : State} {k : Tank} {r : DeferReason} (h : (s.tank k).deferral.has r = false) : defer k r s =
    post1 .regenDeferred (.tank k) (deferralCode ((s.tank k).deferral.add r))
      (s.withTank k { s.tank k with deferral := (s.tank k).deferral.add r }) := by
  rw [defer, h]
  rfl

theorem defer_other (k : Tank) (r : DeferReason) (s : State) : (defer k r s).tank k.other = s.tank k.other := by
  obtain ⟨m, e⟩ := defer_others k r s
  rw [e]
  exact PerTank.get_set_other _ _ _

section
variable {s : State} {k : Tank}

/-! ### A change to MAINS or OPEN (R86, log entry 44) -/

/-- With no reason in the set none leaves the valve where it was (R142). -/
theorem dropReason_idle (n : Reason) (h : s.valve.reasons.any = false) : dropReason n s = s.withReason n false := by
  have h1 : s.targetClosed = false := h
  unfold dropReason
  show (if (s.targetClosed && !(s.withReason n false).targetClosed) = true then _ else _) = _
  rw [h1, Bool.false_and, if_neg Bool.false_ne_true]
  rfl

/-- The return of mains to an OPEN valve is a decision on the state that is back on MAINS (R86, R153). -/
theorem mainsReturn_decides (hm : s.supply.state ≠ .mains) (ho : s.valve.state = .opened) (hr : s.valve.reasons = {}) :
    ∃ q p f m, mainsReturn s = changeDecision { s with supply := q, pins := p, faults := f, notices := m } ∧ q.state = .mains := by
  have entered : mainsReturn s = mainsEntered (({ s with pins := { s.pins with mains := true } } : State).supplied .mains) := by
    rw [mainsReturn, supplyChange_eq (s := { s with pins := { s.pins with mains := true } }) hm]
    exact congrArg mainsEntered (if_neg hm)
  obtain ⟨q, f, m, e, hq⟩ : ∃ q f m, ({ s with pins := { s.pins with mains := true } } : State).supplied .mains
      = { s with supply := q, pins := { s.pins with mains := true }, faults := f, notices := m } ∧ q.state = .mains := by
    unfold State.supplied
    dsimp only
    split
    · exact ⟨_, _, _, rfl, rfl⟩
    · exact ⟨_, s.faults, _, rfl, rfl⟩
  have stays (v : State) (hv : v.valve = s.valve) : removeReason .lowBattery v = v := by
    have same : v.withReason .lowBattery false = v := by
      show ({ v with valve := { v.valve with reasons := v.valve.reasons.put .lowBattery false } } : State) = v
      have reasons : v.valve.reasons.put .lowBattery false = v.valve.reasons := by rw [hv, hr]; rfl
      rw [reasons]
    have dropped : dropReason .lowBattery v = v := (dropReason_idle .lowBattery (by rw [hv, hr]; rfl)).trans same
    rw [removeReason, dropped]
    exact openedDecision_none (.inr (by rw [hv]; exact ho))
  refine ⟨q, { s.pins with mains := true }, f, m, ?_, hq⟩
  rw [entered, e]
  exact congrArg changeDecision (stays _ rfl)

/-- The arrival at OPEN is a decision on the state with the OPEN valve (R86, R143). -/
theorem openArrival_decides (hv : s.valve.state = .opening) (hd : s.valve.drive = .toOpen) (hp : s.pins.openEnd = false)
    (hx : s.valve.exercise ≠ .closeRun) : ∃ v p f m, endSwitchMade .openEnd s
      = changeDecision { s with valve := v, pins := p, faults := f, notices := m } ∧ v.state = .opened := by
  have ho : s.valve.state ≠ .opened := by
    rw [hv]
    exact fun h => nomatch h
  obtain ⟨n, arrived⟩ := valveArrive_quiet (s := { s with pins := (s.pins.withSwitch .openEnd true).withSwitch (otherEnd .openEnd) false })
    .openEnd (.inl ho)
  have rest := valveArrive_valve .openEnd { s with pins := (s.pins.withSwitch .openEnd true).withSwitch (otherEnd .openEnd) false }
  have opened : (valveArrive .openEnd { s with pins := (s.pins.withSwitch .openEnd true).withSwitch (otherEnd .openEnd) false }).valve.state
      = .opened := by
    rw [rest]
    rfl
  have decided := (endSwitchMade_arrives (e := .openEnd) hp (by rw [hd]; rfl) hx).trans (openedDecision_opened opened ho)
  rw [arrived] at decided opened
  exact ⟨_, _, _, _, decided, opened⟩

end

/-- Settles O18: the winner takes the line, a claim that a change allows stands at its decision, and REGEN_CLAIM makes, holds or defers one. -/
theorem regenerationClaimed : Obligations.RegenerationClaimed := by
  unfold Obligations.RegenerationClaimed
  refine ⟨fun s => ⟨fun h => ?_, fun ho hm hv => ?_⟩, fun t s hs he hother hc hfree hh hw hcl hl hx => ?_,
    fun t s hs he hother hc hd hcl hr => ?_⟩
  · rcases h with h | h | h | h
    · exact grantDecision_owned h
    · exact grantDecision_offline h
    · refine if_neg fun ha => h ?_
      simp only [grantAllowed, Bool.and_eq_true, beq_iff_eq] at ha
      exact ha.2
    · exact grantDecision_empty h
  · intro l after continues high
    have allowed := grantAllowed_intro ho hm hv
    refine ⟨fun e hreg hf => ?_, fun e hfl hcont hf => ?_, fun hreg ht hf hp => ?_⟩
    · have decided := grantDecision_regen allowed (Line.winner_first hreg (hf.imp_left ?_))
      · have line : after = _ := (congrArg State.line decided).trans (grantRegen_line e s)
        rw [line]
        exact ⟨rfl, rfl, rfl⟩
      · rintro ⟨x, hx, hc⟩
        cases hreg.symm.trans hx
        exact hc
    · have decided := grantDecision_flush allowed (Line.winner_second hfl hcont (hf.imp_left ?_))
      · have line : after = _ := (congrArg State.line decided).trans (grantFlush_line e s)
        rw [line]
        exact ⟨rfl, rfl, rfl⟩
      · rintro ⟨x, hx, hhigh⟩
        cases hfl.symm.trans hx
        exact hhigh
    · have decided := grantDecision_test allowed (Line.winner_third hreg ht hf)
      have line : after = _ := (congrArg State.line decided).trans (grantTest_line hp ho)
      rw [line]
      exact ⟨rfl, rfl, hreg⟩
  · intro first
    simp only [State.discFree, Bool.and_eq_true, beq_iff_eq] at hfree
    obtain ⟨hd, ha⟩ := hfree
    refine ⟨fun hm hv hr => ?_, fun hm hv hdr hp _ => ?_⟩
    · obtain ⟨q, p, f, m, e, hq⟩ := mainsReturn_decides hm hv hr
      refine ⟨_, (execMainsReturned_running hs).trans (event_leaves hs e), ?_⟩
      exact changeDecision_first (s := { s with supply := q, pins := p, faults := f, notices := m }) he hd hc hcl hother hl
        (startAllowed_intro hq hv ha hd hh hw)
    · obtain ⟨v, p, f, m, e, hq⟩ := openArrival_decides hv hdr hp hx
      refine ⟨_, event_leaves hs e, ?_⟩
      exact changeDecision_first (s := { s with valve := v, pins := p, faults := f, notices := m }) he hd hc hcl hother hl
        (startAllowed_intro hm hq ha hd hh hw)
  · intro c
    have deferred {u : State} {r : DeferReason} (hno : startAllowed t s = false) (hu : deferFailing t s = defer t r s) (hd : defer t r s = u) :
        exec .regenClaim s = commit s (follow u) := by
      subst hd
      exact regenClaim_leaves hs hother ((regenClaim_deferred he hcl hno hr).trans hu) (by rw [defer_other]; exact hother)
    refine ⟨fun hm hv ha hh hw => ⟨fun hl hp => ?_, fun ho => ?_⟩, fun hm hv ha hh hw hn => ?_, fun hm hv ha hh hw hn => ?_⟩
    · obtain ⟨n, e⟩ := regenClaim_granted he hd hc hcl ha (startAllowed_intro hm hv ha hd hh hw) hl hp
      refine ⟨_, regenClaim_leaves hs hother e ?_, rfl, PerTank.get_set_same _ _ _, rfl, PerTank.get_set_other _ _ _, rfl⟩
      exact fun h => hother ((congrArg TankRecord.service (PerTank.get_set_other s.seq.tanks t _)).symm.trans h)
    · have e := regenClaim_waits he hd hc hcl (startAllowed_intro hm hv ha hd hh hw) hr ho
      exact regenClaim_leaves hs hother e fun h => hother ((congrArg TankRecord.service (claiming_other t s)).symm.trans h)
    · refine deferred (r := .onBattery) ?_ ?_ (defer_new hn)
      · simp [startAllowed, startConditions, hm]
      · simp [deferFailing, startConditions, hm, hv, ha, hd, hh, hw]
    · refine deferred (r := .shutoffClosed) ?_ ?_ (defer_new hn)
      · simp [startAllowed, startConditions, hv]
      · simp [deferFailing, startConditions, hm, hv, ha, hd, hh, hw]

end Sys2Proof.Machine

/-! Flow trips and the nightly test: O32 and O33. -/

namespace Sys2Proof.Machine

set_option Elab.async false

section
variable {s : State} {c : Cause} {d : Int}

/-! ### A cause latched with no test under way (R128, R129) -/

theorem abandonTest_idle {r : EndReason} (h : s.leak.test.phase = .idle) : abandonTest r s = s := if_pos h

theorem latchCore_test (c : Cause) (d : Int) (s : State) : (latchCore c d s).leak.test = s.leak.test := by
  have added (v : State) : (addReason .trip v).leak = v.leak := by
    rw [(valves_addReason .trip v).others]
    rfl
  unfold latchCore
  split
  · dsimp only
    split
    · rw [added]
      rfl
    · rfl
  · split <;> rfl

/-- With no test to end, a cause is latched and no more. -/
theorem latchCause_idle (h : s.leak.test.phase = .idle) : latchCause c d s = if latched c s = true then s else latchCore c d s := by
  have core : abandonTest .trip (latchCore c d s) = latchCore c d s := abandonTest_idle (by rw [latchCore_test]; exact h)
  rw [latchCause, core]

/-- The LEAK_TRIP of a first cause, with its latch (R128). -/
def State.tripped (c : Cause) (d : Int) (s : State) : State :=
  post .leakTrip (causeSubject c) (causeCode c) d s.leak.detector.litres { s with leak := { s.leak with
    latch := some { first := c, time := s.now, detail := d, further := [], litres := s.leak.detector.litres } } }

theorem latchCore_first (h : s.leak.latch = none) : latchCore c d s =
    if s.settings.user.leak.action = .close then addReason .trip (s.tripped c d) else s.tripped c d := by
  rw [latchCore, h]
  rfl

theorem latchCause_first (ht : s.leak.test.phase = .idle) (h : s.leak.latch = none) : latchCause c d s =
    if s.settings.user.leak.action = .close then addReason .trip (s.tripped c d) else s.tripped c d := by
  rw [latchCause_idle ht, latched, h, if_neg Bool.false_ne_true, latchCore_first h]

theorem latchCause_further {l : Trip} (ht : s.leak.test.phase = .idle) (h : s.leak.latch = some l) (hc : ¬ (l.first = c ∨ c ∈ l.further)) :
    latchCause c d s = post .leakTrip (causeSubject c) (causeCode c) d l.litres
      { s with leak := { s.leak with latch := some { l with further := l.further ++ [c] } } } := by
  have unheld : l.holds c = false := Bool.eq_false_iff.2 fun hh => hc ((holds_iff l c).1 hh)
  have unlatched : latched c s = false := by rw [latched, h]; exact unheld
  rw [latchCause_idle ht, unlatched, if_neg Bool.false_ne_true, latchCore, h]
  simp only [unheld, Bool.false_eq_true, if_false]

theorem latchCause_held {l : Trip} (h : s.leak.latch = some l) (hc : l.first = c ∨ c ∈ l.further) : latchCause c d s = s := by
  have held : latched c s = true := by rw [latched, h]; exact (holds_iff l c).2 hc
  rw [latchCause, held]
  rfl

/-! ### The trip tests (R124) -/

variable {set : Thresholds} (ha : s.leak.detector.active = some set)
include ha

theorem Detector.litres_active : s.leak.detector.litres = s.leak.detector.volume / 1000 := by
  rw [Detector.litres, ha]
  rfl

theorem tripTests_active : tripTests s =
    (let s1 := if set.continuous ≤ s.leak.detector.seconds then latchCause .continuous s.leak.detector.seconds s else s
     let s2 := if set.volume ≤ s.leak.detector.volume / 1000 then latchCause .volume (s.leak.detector.volume / 1000 : Nat) s1 else s1
     if set.burstTime ≤ s.leak.detector.burst then latchCause .burst s.leak.detector.burst s2 else s2) := by
  rw [tripTests, ha]
  simp only [Detector.litres_active ha]

theorem tripTests_none (h1 : ¬ set.continuous ≤ s.leak.detector.seconds) (h2 : ¬ set.volume ≤ s.leak.detector.volume / 1000)
    (h3 : ¬ set.burstTime ≤ s.leak.detector.burst) : tripTests s = s := by
  rw [tripTests_active ha]
  simp only [h1, h2, h3, if_false]

/-- Of the three conditions one alone (R124). -/
theorem tripTests_one {detail : Nat} (h :
    c = .continuous ∧ detail = s.leak.detector.seconds ∧ set.continuous ≤ s.leak.detector.seconds
      ∧ ¬ set.volume ≤ s.leak.detector.volume / 1000 ∧ ¬ set.burstTime ≤ s.leak.detector.burst
    ∨ c = .volume ∧ detail = s.leak.detector.volume / 1000 ∧ ¬ set.continuous ≤ s.leak.detector.seconds
      ∧ set.volume ≤ s.leak.detector.volume / 1000 ∧ ¬ set.burstTime ≤ s.leak.detector.burst
    ∨ c = .burst ∧ detail = s.leak.detector.burst ∧ ¬ set.continuous ≤ s.leak.detector.seconds
      ∧ ¬ set.volume ≤ s.leak.detector.volume / 1000 ∧ set.burstTime ≤ s.leak.detector.burst) :
    tripTests s = latchCause c detail s ∧ causeSubject c = .none := by
  rw [tripTests_active ha]
  obtain ⟨rfl, rfl, h1, h2, h3⟩ | ⟨rfl, rfl, h1, h2, h3⟩ | ⟨rfl, rfl, h1, h2, h3⟩ := h
  all_goals
    simp only [h1, h2, h3, if_true, if_false]
    exact ⟨trivial, rfl⟩

/-- Of one second the three causes are latched in their order (R124, R128). -/
theorem tripTests_all (h1 : set.continuous ≤ s.leak.detector.seconds) (h2 : set.volume ≤ s.leak.detector.volume / 1000)
    (h3 : set.burstTime ≤ s.leak.detector.burst) (hl : s.leak.latch = none) : (tripTests s).leak.latch = some
      { first := .continuous, time := s.now, detail := s.leak.detector.seconds, further := [.volume, .burst]
        litres := s.leak.detector.volume / 1000 } := by
  rw [tripTests_active ha]
  simp only [h1, h2, h3, if_true]
  have first := (latchCause_latches .continuous s.leak.detector.seconds s).2
  rw [latchAfter, hl, Detector.litres_active ha] at first
  generalize latchCause .continuous s.leak.detector.seconds s = a at first
  have second := (latchCause_latches .volume (s.leak.detector.volume / 1000 : Nat) a).2
  rw [latchAfter, first] at second
  generalize latchCause .volume (s.leak.detector.volume / 1000 : Nat) a = b at second
  have third := (latchCause_latches .burst s.leak.detector.burst b).2
  rw [latchAfter, second] at third
  exact third

end

/-- Settles O32: the trip tests are the causes that hold, latched one by one. -/
theorem flowTripLatches : Obligations.FlowTripLatches := by
  unfold Obligations.FlowTripLatches
  intro set s hs ha ht d long large fast
  have trip {u : State} (hm : s.meter.cond.lossActive = false) (hu : tripTests s = u) : exec .flowTrip s = commit s (follow u) :=
    event_leaves (f := fun s => flowTrip s.meter.cond.lossActive s) hs (by rw [flowTrip, hm]; exact hu)
  refine ⟨fun h => ?_, fun c detail hm hc => ?_, fun hm h1 h2 h3 hl => ⟨_, trip hm rfl, tripTests_all ha h1 h2 h3 hl⟩⟩
  · cases hm : s.meter.cond.lossActive with
    | true => exact event_leaves (f := fun s => flowTrip s.meter.cond.lossActive s) hs (by rw [flowTrip, hm]; rfl)
    | false =>
      obtain ⟨h1, h2, h3⟩ := h.resolve_left fun h => Bool.false_ne_true (hm.symm.trans h)
      exact trip hm (tripTests_none ha h1 h2 h3)
  · obtain ⟨one, subject⟩ := tripTests_one ha hc
    refine ⟨fun hl => ?_, fun l hl hf hn => ?_, fun l hl hh => trip hm (one.trans (latchCause_held hl hh))⟩
    · intro first told
      have tripped : s.tripped c detail = told := by rw [State.tripped, subject, Detector.litres_active ha]
      refine ⟨fun hn => trip hm (one.trans ((latchCause_first ht hl).trans ?_)), fun hc hr ho hp => ?_⟩
      · rw [hn, tripped]
        rfl
      · have added := one.trans ((latchCause_first ht hl).trans ((if_pos hc).trans (congrArg (addReason .trip) tripped)))
        have none_left : told.valve.reasons.any = false := by show s.valve.reasons.any = false; rw [hr]; rfl
        have valve := addReason_closes (s := told) .trip none_left ho hp
        have others := (valves_addReason .trip told).others
        have reasons : s.valve.reasons.put .trip true = { trip := true } := by rw [hr]; rfl
        refine ⟨_, trip hm added, ?_, (congrArg Valve.reasons valve).trans reasons, congrArg Valve.state valve, congrArg Valve.drive valve,
          ?_, ?_, ?_, ?_, ?_⟩
        all_goals
          rw [others]
          rfl
    · refine trip hm (one.trans ((latchCause_further ht hl (not_or.2 ⟨hf, hn⟩)).trans ?_))
      rw [subject]

section
variable {s : State}

/-! ### The nightly test (R132, R134, R138) -/

/-- The TEST_RESULT of a result (R138). -/
def State.resultTold (r : TestResult) (v : Int) (p0 : Nat) (s : State) : Notice where
  kind := .testResult
  subject := .none
  stamp := s.now
  v1 := testResultCode r
  v2 := v
  v3 := p0

theorem adds_requestDoneIf (j : Subject) (g : Option Byte) (k : Nat) (o : DoneOutcome) (v : Int) (s : State) :
    Adds 1 s.notices (requestDoneIf j g k o v s).notices := by
  cases g with
  | none => exact .refl 1 _
  | some t => exact .post _ _

/-- A result recorded is told (R138). -/
theorem recordResult_tells (r : TestResult) (v : Int) (p0 : Nat) (d : Int) (hl : s.notices.queue.length < 23) :
    (recordResult r v p0 d s).notices.tells (s.resultTold r v p0) := by
  have told := NoticeQueue.tells_post s.notices (s.resultTold r v p0) (by omega)
  have length := (Adds.post s.notices (s.resultTold r v p0)).length
  have cued (u : State) : (exerciseCue u).notices = u.notices := by rw [exerciseCue_others]
  have answered (g : Option Byte) (o : DoneOutcome) (w : State) (hw : w.notices = s.notices.post (s.resultTold r v p0)) :
      Adds 1 (s.notices.post (s.resultTold r v p0)) (requestDoneIf .none g kindPressureTest o 0 w).notices :=
    hw ▸ adds_requestDoneIf _ _ _ _ _ _
  unfold recordResult
  dsimp only
  rw [cued]
  exact told.adds rfl (answered _ _ _ rfl) (by show (s.notices.post (s.resultTold r v p0)).queue.length + 1 ≤ 24; omega)

theorem exerciseCue_rest (s : State) : (exerciseCue s).valve.state = s.valve.state ∧ (exerciseCue s).valve.reasons = s.valve.reasons := by
  unfold exerciseCue
  split
  · exact ⟨rfl, rfl⟩
  · exact ⟨rfl, rfl⟩

/-- The state with the nightly test no longer due. -/
def State.undue (s : State) : State := { s with leak := { s.leak with testDue := false } }

theorem testDue_skips {r : EndReason} (hd : s.leak.testDue = true) (hp : s.leak.test.phase = .idle) (h : skipReason s = some r) :
    testDue s = recordResult .skipped (endReasonCode r) 0 0 s.undue := by
  unfold testDue
  rw [if_pos hd]
  dsimp only
  rw [if_pos hp]
  split
  next x hx =>
    cases (h.symm.trans hx : some r = some x)
    rfl
  next hx => exact nomatch (h.symm.trans hx : some r = none)

theorem testDue_claims (hd : s.leak.testDue = true) (hp : s.leak.test.phase = .idle) (h : skipReason s = none) :
    testDue s = testClaim none s.undue := by
  unfold testDue
  rw [if_pos hd]
  dsimp only
  rw [if_pos hp]
  split
  next x hx => exact nomatch (h.symm.trans hx : none = some x)
  next hx => rfl

/-- On a free line with the valve OPEN the claimed test is granted, and the valve begins to close under TEST (R134, R135). -/
theorem testClaim_granted {g : Option Byte} (hl : s.line = {}) (hm : s.supply.state = .mains) (ho : s.valve.state = .opened)
    (hr : s.valve.reasons = {}) (hp : s.pins.closedEnd = false) : ∃ u, testClaim g s = u
      ∧ u.leak = { s.leak with test := { phase := .closing, tag := g, duration := s.settings.user.leak.testDuration
                                         decay := s.settings.user.leak.testDecay, draw := s.settings.user.leak.drawDrop } }
      ∧ u.line = { test := some { granted := true } } ∧ u.valve.reasons = { test := true } ∧ u.valve.state = .closing
      ∧ u.valve.drive = .toClosed := by
  let v : State := { s with leak := { s.leak with test := { phase := .claiming, tag := g } }, line := { test := some { granted := false } } }
  have claimed : testClaim g s = grantDecision v := by
    rw [testClaim, claimTest, hl]
  have accepted : grantDecision v = addReason .test { s with
      leak := { s.leak with test := { phase := .closing, tag := g, duration := s.settings.user.leak.testDuration
                                      decay := s.settings.user.leak.testDecay, draw := s.settings.user.leak.drawDrop } }
      line := { test := some { granted := true } } } :=
    (grantDecision_test (s := v) (grantAllowed_intro rfl hm ho) rfl).trans (if_pos rfl)
  rw [claimed, accepted]
  generalize hw : ({ s with
      leak := { s.leak with test := { phase := .closing, tag := g, duration := s.settings.user.leak.testDuration
                                      decay := s.settings.user.leak.testDecay, draw := s.settings.user.leak.drawDrop } }
      line := { test := some { granted := true } } } : State) = w
  have hv : w.valve = s.valve := by rw [← hw]
  have hpins : w.pins = s.pins := by rw [← hw]
  have leak : (addReason .test w).leak = w.leak := by
    rw [(valves_addReason .test w).others]
    rfl
  have line : (addReason .test w).line = w.line := addReason_line (by rw [← hw]; rfl) _
  have valve := addReason_closes (s := w) .test (by rw [hv, hr]; rfl) (by rw [hv]; exact ho) (by rw [hpins]; exact hp)
  refine ⟨_, rfl, leak.trans (by rw [← hw]), line.trans (by rw [← hw]), ?_, ?_, ?_⟩
  · rw [valve, hv, hr]
    rfl
  · rw [valve]
  · rw [valve]

/-- The first precondition that fails (R132), by its code. -/
theorem skipReason_failed {n : Nat} (h :
    (s.leak.detector.active.isSome = true ∨ s.leak.detector.quiet < 1800) ∧ n = 0
    ∨ ¬ (s.leak.detector.active.isSome = true ∨ s.leak.detector.quiet < 1800) ∧ s.leak.latch ≠ none ∧ n = 1
    ∨ ¬ (s.leak.detector.active.isSome = true ∨ s.leak.detector.quiet < 1800) ∧ s.leak.latch = none ∧ s.supply.state ≠ .mains ∧ n = 2
    ∨ ¬ (s.leak.detector.active.isSome = true ∨ s.leak.detector.quiet < 1800) ∧ s.leak.latch = none ∧ s.supply.state = .mains
      ∧ s.valve.state ≠ .opened ∧ n = 3) : ∃ r, skipReason s = some r ∧ endReasonCode r = n := by
  unfold skipReason
  obtain ⟨hd, rfl⟩ | ⟨hd, hl, rfl⟩ | ⟨hd, hl, hm, rfl⟩ | ⟨hd, hl, hm, hv, rfl⟩ := h
  · rw [if_pos hd]
    exact ⟨_, rfl, rfl⟩
  · rw [if_neg hd, if_pos (Option.isSome_iff_ne_none.2 hl)]
    exact ⟨_, rfl, rfl⟩
  · rw [if_neg hd, hl, if_neg (show ¬ (none : Option Trip).isSome = true from Bool.false_ne_true), if_pos hm]
    exact ⟨_, rfl, rfl⟩
  · rw [if_neg hd, hl, if_neg (show ¬ (none : Option Trip).isSome = true from Bool.false_ne_true), if_neg (not_not_intro hm), if_pos hv]
    exact ⟨_, rfl, rfl⟩

theorem skipReason_none (hd : ¬ (s.leak.detector.active.isSome = true ∨ s.leak.detector.quiet < 1800)) (hl : s.leak.latch = none)
    (hm : s.supply.state = .mains) (hv : s.valve.state = .opened) : skipReason s = none := by
  rw [skipReason, if_neg hd, hl, if_neg (show ¬ (none : Option Trip).isSome = true from Bool.false_ne_true), if_neg (not_not_intro hm),
    if_neg (not_not_intro hv)]

end

/-- Settles O33: the first precondition that fails skips the test; else it claims the line, free or used. -/
theorem nightlyTestIsDue : Obligations.NightlyTestIsDue := by
  unfold Obligations.NightlyTestIsDue
  intro s hs
  refine ⟨fun hd => event_leaves hs (if_neg (by rw [hd]; exact Bool.false_ne_true)), fun hd hp => event_leaves hs ?_, fun hd hp => ?_⟩
  · rw [testDue, if_pos hd]
    exact if_neg hp
  · intro loud failed
    refine ⟨fun n hn => ?_, fun hq hl hm hv => ⟨fun hline hr hpin => ?_, fun ho ht => ?_⟩⟩
    · obtain ⟨r, hr, code⟩ := skipReason_failed hn
      have skipped := testDue_skips hd hp hr
      rw [code] at skipped
      obtain ⟨m, e⟩ := recordResult_others .skipped (n : Int) 0 0 s.undue
      have tells := recordResult_tells (s := s.undue) .skipped (n : Int) 0 0
      obtain ⟨state, reasons⟩ := exerciseCue_rest s.undue
      rw [e] at tells
      refine ⟨_, event_leaves hs (skipped.trans e), rfl, rfl, state, reasons, fun hlen => ?_⟩
      exact tells (Nat.lt_trans hlen (by decide))
    · have claims := testDue_claims hd hp (skipReason_none hq hl hm hv)
      obtain ⟨u, hu, leak, line, reasons, state, drive⟩ := testClaim_granted (s := s.undue) (g := none) hline hm hv hr hpin
      exact ⟨u, event_leaves hs (claims.trans hu), leak, line, reasons, state, drive⟩
    · have claims := testDue_claims hd hp (skipReason_none hq hl hm hv)
      exact event_leaves hs (claims.trans (testClaim_waits (s := s.undue) ho ht))

end Sys2Proof.Machine

/-! What the blocks may make of one another within a second: the grants, the sequencer's moves, the valve and the end of a test, as a
relation between states. Each operation that a second's work may set off stays within it. -/

namespace Sys2Proof.Machine

set_option Elab.async false

/-! ### The relation -/

/-- The records of a code and a subject. -/
def FaultLog.of (l : FaultLog) (c : FaultCode) (u : Subject) : List FaultRecord := l.records.filter (FaultRecord.isFor c u)

/-- The fault log `m` has the level sensor's and the bed probes' records of `l`, and OVERFLOW stays. -/
structure FaultLog.KeepsProbes (l m : FaultLog) : Prop where
  level : ∀ u, m.of .levelSensor u = l.of .levelSensor u
  bed : ∀ u, m.of .bedProbe u = l.of .bedProbe u
  overflow : l.overflow = true → m.overflow = true

/-- The tank record `q` differs from `r` in its marks, tags and claim alone, and a granted claim stays. -/
structure TankRecord.Marked (r q : TankRecord) : Prop where
  others : q = { r with
    deferral := q.deferral, urgent := q.urgent, claim := q.claim, regenTag := q.regenTag, changeTag := q.changeTag
    haltTag := q.haltTag, suspended := q.suspended }
  granted : r.claim = .granted → q.claim = .granted

/-- The disc stands free at a position. -/
def State.stands (p : Pos) (s : State) : Prop := s.discFree = true ∧ s.disc.position = some p

/-- The reasons for which the valve may be away from OPEN with no test to blame: a trip, a low battery, or none at all. -/
def Reasons.ownClosing (r : Reasons) : Prop := r.trip = true ∨ r.lowBattery = true ∨ r.any = false

/-- One change that the Shutoff Controller makes in a second; `tested` says that the pressure-hold test is behind it. -/
inductive Shift (tested : Bool) : State → State → Prop
  | told (s : State) (n : NoticeQueue) : Shift tested s { s with notices := n }
  | faults (s : State) (f : FaultLog) (h : s.faults.KeepsProbes f) : Shift tested s { s with faults := f }
  | valve (s : State) (w : Valve) (hr : w.reasons = s.valve.reasons) (hs : w.state = s.valve.state ∨ w.state ≠ .opened) :
      Shift tested s { s with valve := w }
  | put (s : State) (n : Reason) (hn : n = .trip ∨ n = .lowBattery) :
      Shift tested s { s with valve := { s.valve with reasons := s.valve.reasons.put n true } }
  | dropTest (s : State) : Shift tested s { s with valve := { s.valve with reasons := s.valve.reasons.put .test false } }
  | reopen (s : State) (w : Valve) (hs : s.valve.state ≠ .opened) (ha : s.valve.reasons.any = true)
      (hw : w.reasons = s.valve.reasons.put .test false) (hn : w.reasons.any = false) :
      Shift tested s { s with valve := w }
  | cut (s : State) (f : Filter) (l : Option FlushEntry) (n : NoticeQueue) (hv : s.valve.state ≠ .opened)
      (hr : tested = true ∨ s.valve.reasons.ownClosing) (hf : s.filter.state = .flushing) (hn : f.state ≠ .flushing)
      (hd : f = { s.filter with state := f.state, due := f.due, solenoid := false }) (hl : l = s.line.flush ∨ l = none) :
      Shift tested s { s with filter := f, line := { s.line with flush := l }, notices := n }

/-- What the Shutoff Controller makes of a change in a second. -/
abbrev Shifts (tested : Bool) : State → State → Prop := Relation.ReflTransGen (Shift tested)

/-- The state in which the test has taken its grant (R135). -/
def State.testing (s : State) : State :=
  let c := s.settings.user.leak
  { s with
    line := { s.line with test := some { granted := true } }
    leak := { s.leak with test := { s.leak.test with
      phase := .closing, duration := c.testDuration, decay := c.testDecay, draw := c.drawDrop } }
    valve := { s.valve with reasons := { s.valve.reasons with test := true } } }

/-- One change that the blocks may make of one another in a second. `own` allows what the Leak Monitor's and the Supply Monitor's own work
brings, `claims` a new claim of the Filter Monitor. -/
inductive React (own claims : Bool) : State → State → Prop
  | told (s : State) (n : NoticeQueue) : React own claims s { s with notices := n }
  | faults (s : State) (f : FaultLog) (h : s.faults.KeepsProbes f) : React own claims s { s with faults := f }
  | marks (s : State) (k : Tank) (r : TankRecord) (h : (s.tank k).Marked r) : React own claims s (s.withTank k r)
  | begins (s : State) (k : Tank) (r : Recipe) (h : (s.tank k).service = .exhausted) :
      React own claims s (s.withTank k ((s.tank k).begin r))
  | arrives (s : State) (k : Tank) (x : Step) (b : Brine) (n : NoticeQueue) (hs : (s.tank k).service = .regenerating)
      (hk : (s.tank k).step = some x) (hp : (s.tank k).phase = some .toStep) (hd : s.stands (stepPosition k x))
      (hb : b = { s.brine with refill := b.refill, measure := b.measure }) (hm : x ≠ .brine → b.measure = s.brine.measure) :
      React own claims s { s.withTank k { s.tank k with phase := some .inStep } with brine := b, notices := n }
  | next (s : State) (k : Tank) (x y : Step) (hs : (s.tank k).service = .regenerating) (hk : (s.tank k).step = some x)
      (hp : (s.tank k).phase = some .stepEnded) (hf : s.discFree = true) (hy : nextStep x = some y) :
      React own claims s (s.withTank k { s.tank k with step := some y, phase := some .toStep, elapsed := 0, elapsedMin := 0 })
  | home (s : State) (k : Tank) (hs : (s.tank k).service = .regenerating) (hp : (s.tank k).phase = some .stepEnded)
      (hf : s.discFree = true) : React own claims s (s.withTank k { s.tank k with phase := some .toReady })
  | ends (s : State) (k : Tank) (r : TankRecord) (b : Brine) (c : CapacityRecord) (m : Nat) (n : NoticeQueue)
      (hs : (s.tank k).service = .regenerating) (hp : (s.tank k).phase = some .toReady) (hd : s.stands (readyPosition k))
      (hc : s.seq.changeover = none) (hr : r.service = .ready)
      (hb : b.level = s.brine.level ∧ b.levelFault = s.brine.levelFault ∧ b.restartLevel = s.brine.restartLevel
        ∧ b.measure = s.brine.measure) :
      React own claims s { s.withTank k r with
        brine := b, cap := { s.cap with recs := s.cap.recs.set k c, runs := s.cap.runs.set k m }, notices := n }
  | due (s : State) (k : Tank) (hs : (s.tank k).service = .inService) (hc : s.seq.changeover = none) (hd : s.seq.due = none) :
      React own claims s { s with seq := { s.seq with due := some k } }
  | turns (s : State) (k : Tank) (hd : s.seq.due = some k) (hr : (s.tank k.other).service = .ready) (hf : s.discFree = true)
      (hm : s.supply.state = .mains) (hc : s.seq.changeover = none) : React own claims s { s with
        seq := { s.seq with changeover := some { outgoing := k, phase := .toChange, dwell := 0 }, due := none } }
  | swaps (s : State) (c : Changeover) (n : NoticeQueue) (hc : s.seq.changeover = some c) (hp : c.phase = .toChange)
      (hd : s.stands (changePosition c.outgoing)) : React own claims s { s with
        seq := { s.seq with
          tanks := s.seq.tanks.set c.outgoing.other { (s.tank c.outgoing.other).undue with service := .inService, hours := 0 }
          changeover := some { outgoing := c.outgoing, phase := .dwell, dwell := 0 } }
        notices := n }
  | holds (s : State) (c : Changeover) (n : NoticeQueue) (hc : s.seq.changeover = some c) (hp : c.phase = .toHold)
      (hd : s.stands (holdPosition c.outgoing)) : React own claims s { s with
        seq := { s.seq with
          tanks := s.seq.tanks.set c.outgoing { s.tank c.outgoing with service := .exhausted }, changeover := none }
        cap := { s.cap with runs := s.cap.runs.set c.outgoing 0 }, notices := n }
  | disc (s : State) (d : Disc) (hp : d.position = s.disc.position)
      (hf : d.state = .atPosition ∧ d.mode = .auto → s.disc.state = .atPosition ∧ s.disc.mode = .auto) :
      React own claims s { s with disc := d }
  | regen (s : State) (e : Option RegenEntry) : React own claims s { s with line := { s.line with regen := e } }
  | untested (s : State) : React own claims s { s with line := { s.line with test := none } }
  | flushes (s : State) (e : FlushEntry) (n : NoticeQueue) (hg : grantAllowed s = true) (he : s.line.flush = some e) :
      React own claims s { s with
        line := { s.line with flush := some { e with granted := true } }
        filter := s.filter.flushStarted s.settings.user.filter.flushTime, notices := n }
  | tests (s u : State) (hg : grantAllowed s = true) (hp : s.leak.test.phase = .claiming) (ht : s.line.test ≠ none)
      (h : Shifts true s.testing u) : React own claims s u
  | shifts (s u : State) (ho : own = true) (h : Shift false s u) : React own claims s u
  | leak (s : State) (l : Leak) (ho : own = true) (hd : l.detector = s.leak.detector) : React own claims s { s with leak := l }
  | claimsTest (s : State) (ho : own = true) :
      React own claims s { s with line := { s.line with test := some { granted := false } } }
  | supply (s : State) (p : Supply) (ho : own = true) (hn : p.state ≠ .mains) (hs : s.supply.state ≠ .mains) :
      React own claims s { s with supply := p }
  | pods (s : State) (p : Pods) (ho : own = true) (h : p.slots = s.pods.slots) : React own claims s { s with pods := p }
  | stops (s : State) (ho : own = true) : React own claims s (shutdown s)
  | claimsFlush (s : State) (h : Bool) (hc : claims = true) (hg : s.line.flushGranted = false) :
      React own claims s { s with line := { s.line with flush := some { granted := false, high := h } } }

/-- What the blocks make of one another in a second. -/
abbrev Reacts (own claims : Bool) : State → State → Prop := Relation.ReflTransGen (React own claims)

/-! ### The Fault Log (R186) -/

/-- Whether a code is that of a sample's sensor. -/
def FaultCode.probes (c : FaultCode) : Bool := c == .levelSensor || c == .bedProbe

theorem FaultLog.KeepsProbes.refl (l : FaultLog) : l.KeepsProbes l := ⟨fun _ => rfl, fun _ => rfl, id⟩

/-- A map that keeps a record's code and subject, and keeps the records of a code whole, keeps that code's records. -/
theorem filter_map_same {f : FaultRecord → FaultRecord} {c : FaultCode} {u : Subject} {l : List FaultRecord}
    (hk : ∀ r, (f r).code = r.code ∧ (f r).subject = r.subject) (hf : ∀ r ∈ l, r.isFor c u = true → f r = r) :
    (l.map f).filter (FaultRecord.isFor c u) = l.filter (FaultRecord.isFor c u) := by
  induction l with
  | nil => rfl
  | cons r l ih =>
    have same : (f r).isFor c u = r.isFor c u := by simp only [FaultRecord.isFor, hk r]
    rw [List.map_cons, List.filter_cons, List.filter_cons, same, ih fun x hx => hf x (List.mem_cons_of_mem _ hx)]
    cases hr : r.isFor c u with
    | false => rfl
    | true => rw [hf r List.mem_cons_self hr]

/-- A report of another code or subject keeps the records of a code and a subject. -/
theorem FaultLog.of_report (l : FaultLog) {c c' : FaultCode} {u u' : Subject} (d : Int) (t : Stamp) (h : c' ≠ c ∨ u' ≠ u) :
    (l.report c' u' d t).of c u = l.of c u := by
  have not_for (r : FaultRecord) (hr : r.isFor c u = true) : r.isFor c' u' = false := by
    simp only [FaultRecord.isFor, Bool.and_eq_true, beq_iff_eq, Bool.and_eq_false_iff, beq_eq_false_iff_ne] at hr ⊢
    rw [hr.1, hr.2]
    exact h.imp Ne.symm Ne.symm
  unfold FaultLog.report FaultLog.of
  split
  · refine filter_map_same (fun r => ?_) fun r _ hr => ?_
    · split <;> exact ⟨rfl, rfl⟩
    · rw [not_for r hr]
      rfl
  · split
    · rw [List.filter_append]
      have none_new : (FaultRecord.isFor c u { code := c', subject := u', first := t, last := t, count := 1, active := true, detail := d })
          = false := by
        simpa only [FaultRecord.isFor, Bool.and_eq_false_iff, beq_eq_false_iff_ne] using h
      rw [List.filter_cons, none_new]
      exact List.append_nil _
    · rfl

/-- A condition of another code or subject reported gone keeps the records of a code and a subject. -/
theorem FaultLog.of_gone (l : FaultLog) {c c' : FaultCode} {u u' : Subject} (h : c' ≠ c ∨ u' ≠ u) : (l.gone c' u').of c u = l.of c u := by
  refine filter_map_same (fun r => ?_) fun r _ hr => ?_
  · split <;> exact ⟨rfl, rfl⟩
  · refine if_neg fun hc => ?_
    simp only [FaultRecord.isFor, Bool.and_eq_true, beq_iff_eq] at hr hc
    exact h.elim (fun n => n (hc.1.symm.trans hr.1)) fun n => n (hc.2.symm.trans hr.2)

theorem FaultLog.report_overflow (l : FaultLog) (c : FaultCode) (u : Subject) (d : Int) (t : Stamp) (h : l.overflow = true) :
    (l.report c u d t).overflow = true := by
  unfold FaultLog.report
  split
  · exact h
  · split
    · exact h
    · rfl

theorem FaultLog.keepsProbes_report (l : FaultLog) {c : FaultCode} (u : Subject) (d : Int) (t : Stamp) (h : c.probes = false) :
    l.KeepsProbes (l.report c u d t) := by
  simp only [FaultCode.probes, Bool.or_eq_false_iff, beq_eq_false_iff_ne] at h
  exact ⟨fun _ => l.of_report d t (.inl h.1), fun _ => l.of_report d t (.inl h.2), l.report_overflow c u d t⟩

theorem FaultLog.keepsProbes_gone (l : FaultLog) {c : FaultCode} (u : Subject) (h : c.probes = false) : l.KeepsProbes (l.gone c u) := by
  simp only [FaultCode.probes, Bool.or_eq_false_iff, beq_eq_false_iff_ne] at h
  exact ⟨fun _ => l.of_gone (.inl h.1), fun _ => l.of_gone (.inl h.2), id⟩

end Sys2Proof.Machine

/-! The operations of a second stay within the relation: the Shutoff Controller, the Process Line Arbiter and the Regeneration Sequencer. -/

namespace Sys2Proof.Machine

set_option Elab.async false

/-! ### The Shutoff Controller -/

section
variable {tested : Bool} {s t : State}

theorem shifts_post (h : Shifts tested s t) (k : NoticeKind) (x : Subject) (a b c : Int) : Shifts tested s (post k x a b c t) :=
  h.tail (.told _ _)

theorem shifts_requestDone (h : Shifts tested s t) (x : Subject) (g : Byte) (k : Nat) (o : DoneOutcome) (v : Int) :
    Shifts tested s (requestDone x g k o v t) := h.tail (.told _ _)

theorem shifts_faultGone (h : Shifts tested s t) {c : FaultCode} (x : Subject) (hc : c.probes = false) :
    Shifts tested s (faultGone c x t) := h.tail (.faults _ _ (t.faults.keepsProbes_gone x hc))

theorem shifts_faultReport (h : Shifts tested s t) {c : FaultCode} (x : Subject) (d : Int) (hc : c.probes = false) :
    Shifts tested s (faultReport c x d t) :=
  (h.tail (.faults _ _ (t.faults.keepsProbes_report x d t.now hc))).tail (.told _ _)

theorem shifts_ite {c : Prop} [Decidable c] {a b : State} (ha : c → Shifts tested s a) (hb : ¬ c → Shifts tested s b) :
    Shifts tested s (if c then a else b) := by
  split
  · exact ha ‹_›
  · exact hb ‹_›

theorem evaluatedState_ne_flushing (f : Filter) (c : FilterSettings) : evaluatedState f c ≠ .flushing := by
  unfold evaluatedState
  repeat' split
  all_goals decide

theorem dropFlush_others (s : State) : ∃ l, (l = s.line.flush ∨ l = none) ∧ dropFlush s = { s with line := { s.line with flush := l } } := by
  unfold dropFlush
  split
  · exact ⟨none, .inr rfl, rfl⟩
  · exact ⟨s.line.flush, .inl rfl, rfl⟩

theorem shifts_flushCut (h : Shifts tested s t) (hv : t.valve.state ≠ .opened) (hr : tested = true ∨ t.valve.reasons.ownClosing) :
    Shifts tested s (flushCut t) := by
  refine shifts_ite (fun hf => ?_) fun _ => h
  refine shifts_post (h.tail (?_ : Shift tested t (dropFlush (filterEvaluateNow { t with filter := { t.filter with solenoid := false } }))))
    _ _ _ _ _
  rw [filterEvaluateNow, setFilter_others]
  generalize (setFilter _ _).notices = n
  obtain ⟨l, hl, dropped⟩ := dropFlush_others { t with
    filter := { t.filter with
      solenoid := false, state := evaluatedState { t.filter with solenoid := false } t.settings.user.filter
      due := ({ t.filter with solenoid := false } : Filter).dueAfter (evaluatedState { t.filter with solenoid := false } t.settings.user.filter) }
    notices := n }
  exact Eq.mpr (congrArg (Shift tested t) dropped) (.cut t _ l n hv hr hf (evaluatedState_ne_flushing _ _) rfl hl)

theorem shifts_valveChange (h : Shifts tested s t) {v : ValveState} (hv : v ≠ .opened)
    (hr : t.valve.state = .opened → tested = true ∨ t.valve.reasons.ownClosing) : Shifts tested s (valveChange v t) := by
  have changed : Shifts tested s { t with valve := { t.valve with state := v } } := h.tail (.valve _ _ rfl (.inr hv))
  exact shifts_ite (fun _ => h) fun _ => shifts_ite (fun ho => shifts_flushCut (shifts_post changed _ _ _ _ _) hv (hr ho))
    fun _ => shifts_post changed _ _ _ _ _

theorem shifts_answerTag (h : Shifts tested s t) : Shifts tested s (answerTag t) := by
  have h' : Shifts tested s { t with valve := { t.valve with tag := none } } := h.tail (.valve _ _ rfl (.inl rfl))
  unfold answerTag
  split
  · exact h
  · dsimp only
    split
    · exact shifts_ite (fun _ => h) fun _ => shifts_requestDone h' _ _ _ _ _
    · exact shifts_ite (fun _ => shifts_requestDone h' _ _ _ _ _) fun _ => h
    · exact shifts_requestDone h' _ _ _ _ _
    · exact h

/-- What follows the arrival of a travel: its SHUTOFF_STUCK record, and the tag (R143, R148). -/
theorem shifts_arrived (h : Shifts tested s t) (c : Bool) :
    Shifts tested s (answerTag (if c then faultGone .shutoffStuck .none t else t)) :=
  shifts_answerTag (shifts_ite (fun _ => shifts_faultGone h _ rfl) fun _ => h)

theorem shifts_valveArrive (h : Shifts tested s t) (hr : t.valve.state = .opened → tested = true ∨ t.valve.reasons.ownClosing) :
    Shifts tested s (valveArrive .closedEnd t) := by
  have stopped (x : ExercisePhase) : Shifts tested s { t with valve := { t.valve with
      drive := .stopped, pause := .none, second := false, retried := false, exercise := x } } := h.tail (.valve _ _ rfl (.inl rfl))
  exact shifts_arrived (shifts_valveChange (stopped _) (v := restState .closedEnd) (by decide) hr) _

theorem shifts_driveOff (h : Shifts tested s t) (e : ValveEnd)
    (hr : t.valve.state = .opened → tested = true ∨ t.valve.reasons.ownClosing) :
    Shifts tested s (drive e (valveChange (travelState e) t)) :=
  (shifts_valveChange h (travelState_ne_opened e) hr).tail (.valve _ _ rfl (.inl rfl))

theorem targetEnd_closed (h : t.targetClosed = true) : t.targetEnd = .closedEnd := if_pos h

theorem targetEnd_open (h : t.targetClosed = false) : t.targetEnd = .openEnd := if_neg (by rw [h]; exact Bool.false_ne_true)

theorem shifts_beginTravel (h : Shifts tested s t) (hc : t.targetClosed = true)
    (hr : t.valve.state = .opened → tested = true ∨ t.valve.reasons.ownClosing) : Shifts tested s (beginTravel t) := by
  have h' : Shifts tested s { t with valve := { t.valve with second := false, retried := false } } := h.tail (.valve _ _ rfl (.inl rfl))
  rw [beginTravel, targetEnd_closed hc]
  exact shifts_ite (fun _ => shifts_valveArrive h' hr) fun _ => shifts_driveOff h' .closedEnd hr

theorem shifts_reverseTravel (h : Shifts tested s t) (ho : t.valve.state ≠ .opened) : Shifts tested s (reverseTravel t) := by
  have stopped (p : Pause) : Shifts tested s { t with valve := { t.valve with drive := .stopped, second := false, pause := p } } :=
    h.tail (.valve _ _ rfl (.inl rfl))
  exact shifts_valveChange (stopped _) (travelState_ne_opened _) fun hc => absurd hc ho

theorem shifts_closeRunTravels (h : Shifts tested s t) (ho : t.valve.state ≠ .opened) : Shifts tested s (closeRunTravels t) := by
  have h1 : Shifts tested s { t with valve := { t.valve with exercise := .none, second := false } } := h.tail (.valve _ _ rfl (.inl rfl))
  have h2 : Shifts tested s (exercisePassed { t with valve := { t.valve with exercise := .none, second := false } }) :=
    shifts_faultGone (c := .shutoffSeized) (h1.tail (.valve _ { t.valve with exercise := .none, second := false, exerciseDays := 0 } rfl (.inl rfl))) _ rfl
  exact shifts_ite (fun _ => by split <;> exact shifts_valveArrive ‹_› fun hc => absurd hc ho) fun _ => shifts_ite (fun _ => h2) fun _ => h1

theorem shifts_targetBecameClosed (h : Shifts tested s t) (hc : t.targetClosed = true)
    (hr : t.valve.state = .opened → tested = true ∨ t.valve.reasons.ownClosing) : Shifts tested s (targetBecameClosed t) := by
  have h' : Shifts tested s { t with valve := { t.valve with exercise := .none } } := h.tail (.valve _ _ rfl (.inl rfl))
  have away {v : ValveState} (hv : t.valve.state = v) (hn : v ≠ .opened) : t.valve.state ≠ .opened := hv ▸ hn
  unfold targetBecameClosed
  split
  next => exact shifts_beginTravel h hc hr
  next hs _ => exact shifts_closeRunTravels h (away hs (by decide))
  next hs _ => exact shifts_reverseTravel h' (away hs (by decide))
  next hs _ => exact shifts_reverseTravel h' (away hs (by decide))
  next hs _ => exact shifts_reverseTravel h (away hs (by decide))
  next hs _ _ => exact shifts_reverseTravel h (away hs (by decide))
  next => exact h
  next => exact h

theorem Reasons.ownClosing_put {n : Reason} (r : Reasons) (hn : n = .trip ∨ n = .lowBattery) : (r.put n true).ownClosing := by
  rcases hn with rfl | rfl
  · exact .inl rfl
  · exact .inr (.inl rfl)

theorem shifts_addReason (h : Shifts tested s t) {n : Reason} (hn : n = .trip ∨ n = .lowBattery) : Shifts tested s (addReason n t) := by
  have put : Shifts tested s { t with valve := { t.valve with reasons := t.valve.reasons.put n true } } := h.tail (.put _ _ hn)
  exact shifts_ite (fun _ => put) fun _ =>
    shifts_targetBecameClosed put (Reasons.any_put _ _) fun _ => .inr (Reasons.ownClosing_put _ hn)

theorem shifts_valveChange_opened (hs : t.valve.state = .closed)
    (h : Shifts tested s { t with valve := { t.valve with state := restState .openEnd } }) : Shifts tested s (valveChange (restState .openEnd) t) := by
  unfold valveChange
  dsimp only
  rw [if_neg (by rw [hs]; decide), if_neg (by rw [hs]; decide)]
  exact shifts_post h _ _ _ _ _

/-- A CLOSED valve whose last reason goes, arriving at once or driven (R143). -/
theorem shifts_reopening (h : Shifts tested s t) (hs : t.valve.state = .closed) (ha : t.targetClosed = true)
    (hn : (t.withReason .test false).targetClosed = false) : Shifts tested s (beginTravel (t.withReason .test false)) := by
  rw [beginTravel, targetEnd_open hn]
  refine shifts_ite (fun _ => ?_) fun _ => ?_
  · have away : t.valve.state ≠ .opened := by rw [hs]; decide
    have opened (x : ExercisePhase) : Shifts tested s { t with valve := { t.valve with
        state := .opened, reasons := t.valve.reasons.put .test false, drive := .stopped, pause := .none, second := false
        retried := false, exercise := x } } := h.tail (.reopen t _ away ha rfl hn)
    exact shifts_arrived (shifts_valveChange_opened (t := { t with valve := { t.valve with
      reasons := t.valve.reasons.put .test false, drive := .stopped, pause := .none, second := false, retried := false, exercise := _ } })
      hs (opened _)) _
  · have dropped : Shifts tested s (t.withReason .test false) := h.tail (.dropTest t)
    have from_rest : Shifts tested s { t with valve := { t.valve with
        reasons := t.valve.reasons.put .test false, second := false, retried := false } } := dropped.tail (.valve _ _ rfl (.inl rfl))
    exact shifts_driveOff from_rest .openEnd fun hc => absurd (hs.symm.trans hc) (by decide)

theorem shifts_dropTest (h : Shifts tested s t) : Shifts tested s (dropReason .test t) := by
  have dropped : Shifts tested s { t with valve := { t.valve with reasons := t.valve.reasons.put .test false } } := h.tail (.dropTest t)
  refine shifts_ite (fun hc => ?_) fun _ => dropped
  rw [Bool.and_eq_true, Bool.not_eq_true'] at hc
  split
  next hs => exact shifts_reopening h hs hc.1 hc.2
  next hs => exact shifts_reverseTravel dropped fun ho => absurd (hs.symm.trans ho) (by decide)
  next hs => exact shifts_reverseTravel dropped fun ho => absurd (hs.symm.trans ho) (by decide)
  next => exact dropped

theorem shifts_exerciseCue (h : Shifts tested s t) : Shifts tested s (exerciseCue t) :=
  shifts_ite (fun _ => h.tail (.valve _ _ rfl (.inl rfl))) fun _ => h

theorem shifts_exerciseBegin (h : Shifts tested s t) (hr : t.valve.state = .opened → tested = true ∨ t.valve.reasons.ownClosing) :
    Shifts tested s (exerciseBegin t) :=
  have started : Shifts tested s { t with valve := { t.valve with
      exercise := .closeRun, exerciseTime := 0, released := false, drive := .toClosed, pause := .none, second := false, travel := 0
      overcurrent := 0 } } := h.tail (.valve _ _ rfl (.inl rfl))
  shifts_valveChange started (by decide) hr

/-- The test takes its grant, and the valve closes under it (R135). -/
theorem shifts_testAccept (s : State) : Shifts true s.testing
    (testAccept { s with line := { s.line with test := some { granted := true } } }) := by
  unfold testAccept addReason
  dsimp only
  split
  · exact .refl
  · exact shifts_targetBecameClosed .refl (Reasons.any_put s.valve.reasons .test) fun _ => .inl rfl

end

end Sys2Proof.Machine

/-! The operations of a second stay within the relation: the Process Line Arbiter and the Regeneration Sequencer. -/

namespace Sys2Proof.Machine

set_option Elab.async false

variable {own claims : Bool} {s t : State}

/-! ### Notices, faults and tank records -/

theorem reacts_ite {c : Prop} [Decidable c] {a b : State} (ha : c → Reacts own claims s a) (hb : ¬ c → Reacts own claims s b) :
    Reacts own claims s (if c then a else b) := by
  split
  · exact ha ‹_›
  · exact hb ‹_›

theorem reacts_post (h : Reacts own claims s t) (k : NoticeKind) (x : Subject) (a b c : Int) : Reacts own claims s (post k x a b c t) :=
  h.tail (.told _ _)

theorem reacts_post1 (h : Reacts own claims s t) (k : NoticeKind) (x : Subject) (a : Int) : Reacts own claims s (post1 k x a t) :=
  h.tail (.told _ _)

theorem reacts_requestDoneIf (h : Reacts own claims s t) (x : Subject) (g : Option Byte) (k : Nat) (o : DoneOutcome) (v : Int) :
    Reacts own claims s (requestDoneIf x g k o v t) := by
  cases g with
  | none => exact h
  | some => exact h.tail (.told _ _)

theorem reacts_faultGone (h : Reacts own claims s t) {c : FaultCode} (x : Subject) (hc : c.probes = false) :
    Reacts own claims s (faultGone c x t) := h.tail (.faults _ _ (t.faults.keepsProbes_gone x hc))

theorem reacts_faultReport (h : Reacts own claims s t) {c : FaultCode} (x : Subject) (d : Int) (hc : c.probes = false) :
    Reacts own claims s (faultReport c x d t) :=
  (h.tail (.faults _ _ (t.faults.keepsProbes_report x d t.now hc))).tail (.told _ _)

theorem reacts_marks (h : Reacts own claims s t) (k : Tank) {r : TankRecord} (hr : (t.tank k).Marked r) : Reacts own claims s (t.withTank k r) :=
  h.tail (.marks _ _ _ hr)

theorem reacts_changeTank {k : Tank} {r : TankRecord} (h : Reacts own claims s (t.withTank k r)) : Reacts own claims s (changeTank k r t) :=
  reacts_ite (fun _ => h) fun _ => reacts_post h _ _ _ _ _

theorem reacts_regen (h : Reacts own claims s t) (e : Option RegenEntry) : Reacts own claims s { t with line := { t.line with regen := e } } :=
  h.tail (.regen _ _)

theorem TankRecord.marked_withdrawn (r : TankRecord) : r.Marked r.withdrawn := by
  unfold TankRecord.withdrawn
  split
  next h => exact ⟨rfl, fun hg => absurd (h.symm.trans hg) (by decide)⟩
  next => exact ⟨rfl, id⟩

/-! ### Deferral, projection and MANUAL (R67, R69, R82) -/

theorem reacts_defer (h : Reacts own claims s t) (k : Tank) (r : DeferReason) : Reacts own claims s (defer k r t) :=
  have added (d : Deferral) : Reacts own claims s (t.withTank k { t.tank k with deferral := d }) := reacts_marks h k ⟨rfl, id⟩
  reacts_ite (fun _ => h) fun _ => reacts_post1 (added _) _ _ _

theorem reacts_withdrawRegen (h : Reacts own claims s t) (k : Tank) : Reacts own claims s (withdrawRegen k t) := by
  obtain ⟨e, he⟩ := withdrawRegen_others k t
  rw [he]
  exact reacts_regen (reacts_marks h k (t.tank k).marked_withdrawn) e

theorem reacts_forceUrgent (h : Reacts own claims s t) (k : Tank) : Reacts own claims s (forceUrgent k t) :=
  reacts_marks (r := { t.tank k with urgent := .forced }) h k ⟨rfl, id⟩

theorem reacts_askProjection (h : Reacts own claims s t) (k : Tank) : Reacts own claims s (askProjection k t) := by
  obtain ⟨q, e⟩ := askProjection_others k t
  rw [e]
  exact reacts_marks h k ⟨rfl, id⟩

theorem reacts_deferFailing (h : Reacts own claims s t) (k : Tank) : Reacts own claims s (deferFailing k t) := by
  unfold deferFailing
  generalize startConditions k t = l
  induction l generalizing t with
  | nil => exact h
  | cons c l ih => exact ih (reacts_ite (fun _ => h) fun _ => reacts_defer h k c.2)

theorem reacts_manualReported (h : Reacts own claims s t) : Reacts own claims s (manualReported t) :=
  have one {t : State} (h : Reacts own claims s t) (k : Tank) : Reacts own claims s (if ((withdrawRegen k t).tank k).service = .exhausted then
      defer k .manual (withdrawRegen k t) else withdrawRegen k t) :=
    reacts_ite (fun _ => reacts_defer (reacts_withdrawRegen h k) k _) fun _ => reacts_withdrawRegen h k
  one (one h .a) .b

theorem reacts_applyManual (h : Reacts own claims s t) : Reacts own claims s (applyManual t) := by
  have manual : Reacts own claims s { t with disc := { t.disc with mode := .manual } } :=
    h.tail (.disc _ _ rfl fun hc => DiscMode.noConfusion hc.2)
  exact reacts_ite (fun _ => reacts_manualReported manual) fun _ => h

/-! ### Moves (R46) -/

theorem State.discFree_iff (s : State) : s.discFree = true ↔ s.disc.state = .atPosition ∧ s.disc.mode = .auto := by
  simp only [State.discFree, Bool.and_eq_true, beq_iff_eq]

theorem Disc.start_state (d : Disc) : d.start.state ≠ .atPosition := by
  unfold Disc.start Disc.moving
  dsimp only
  split <;> decide

theorem reacts_discRequest (h : Reacts own claims s t) (p : Pos) : Reacts own claims s (discRequest p t) := by
  unfold discRequest
  split
  · exact h
  · exact h.tail (.disc _ _ rfl id)
  · exact h.tail (.disc _ _ rfl fun hc => absurd hc.1 (Disc.start_state _))

theorem moveReply_arrived {p : Pos} : moveReply p s = .arrived ↔ s.stands p := by
  unfold moveReply State.stands
  split
  · split <;> simp_all
  · simp_all

theorem discRequest_stands {p q : Pos} (h : moveReply p s = .arrived) (hs : s.stands q) : (discRequest p s).stands q := by
  unfold discRequest
  rw [h]
  exact hs

/-! ### Arrivals (R63, R64, R71, R75) -/

theorem stepStarted_others (k : Tank) (x : Step) (s : State) : ∃ b, stepStarted k x s = { s with brine := b }
    ∧ b = { s.brine with refill := b.refill, measure := b.measure } ∧ (x ≠ .brine → b.measure = s.brine.measure) := by
  cases x with
  | backwash => exact ⟨s.brine, rfl, rfl, fun _ => rfl⟩
  | brine => exact ⟨_, rfl, rfl, fun h => absurd rfl h⟩
  | rinse => exact ⟨s.brine, rfl, rfl, fun _ => rfl⟩
  | refill => exact ⟨_, rfl, rfl, fun _ => rfl⟩

theorem changeTank_notices (k : Tank) (r : TankRecord) (s : State) : ∃ n, changeTank k r s = { s.withTank k r with notices := n } := by
  unfold changeTank
  dsimp only
  split
  · exact ⟨s.notices, rfl⟩
  · exact ⟨_, rfl⟩

theorem reacts_stepArrival (h : Reacts own claims s t) {k : Tank} {x : Step} (hs : (t.tank k).service = .regenerating)
    (hk : (t.tank k).step = some x) (hp : (t.tank k).phase = some .toStep) (hd : t.stands (stepPosition k x)) :
    Reacts own claims s (stepArrival k x t) := by
  obtain ⟨n, told⟩ := changeTank_notices k { t.tank k with phase := some .inStep } t
  obtain ⟨b, started, hb, hm⟩ := stepStarted_others k x { t.withTank k { t.tank k with phase := some .inStep } with notices := n }
  unfold stepArrival
  dsimp only
  rw [if_pos hk, if_pos hp, told, started]
  exact h.tail (.arrives t k x b n hs hk hp hd hb hm)

theorem reacts_changeArrival (h : Reacts own claims s t) {c : Changeover} (hc : t.seq.changeover = some c) (hp : c.phase = .toChange)
    (hd : t.stands (changePosition c.outgoing)) : Reacts own claims s (changeArrival c.outgoing t) := by
  obtain ⟨n, told⟩ := changeTank_notices c.outgoing.other
    { (t.tank c.outgoing.other).undue with service := .inService, hours := 0 } t
  unfold changeArrival
  dsimp only
  rw [told]
  exact h.tail (.swaps t c n hc hp hd)

theorem reacts_changeoverBegin (h : Reacts own claims s t) : Reacts own claims s (changeoverBegin t) := by
  unfold changeoverBegin
  split
  next => exact h
  next k hk =>
    refine reacts_ite (fun hc => ?_) fun _ => h
    obtain ⟨hr, hf, hm, hn⟩ := hc
    have turned : Reacts own claims s { t with seq := { t.seq with
        changeover := some { outgoing := k, phase := .toChange, dwell := 0 }, due := none } } := h.tail (.turns t k hk hr hf hm hn)
    refine reacts_ite (fun ha => ?_) fun _ => reacts_discRequest turned _
    exact reacts_changeArrival (c := { outgoing := k, phase := .toChange, dwell := 0 }) (reacts_discRequest turned _) (by simp) rfl
      (discRequest_stands ha (moveReply_arrived.mp ha))

theorem reacts_takeExhaustion (h : Reacts own claims s t) (k : Tank) : Reacts own claims s (takeExhaustion k t) := by
  refine reacts_ite (fun hc => ?_) fun _ => h
  obtain ⟨hs, hc, hd⟩ := hc
  have due : Reacts own claims s { t with seq := { t.seq with due := some k } } := h.tail (.due t k hs hc hd)
  exact reacts_ite (fun _ => reacts_changeoverBegin due) fun _ =>
    reacts_ite (fun _ => reacts_forceUrgent (reacts_post1 due _ _ _) _) fun _ => reacts_post1 due _ _ _

/-! ### Grants (R70, R86, R115, R134) -/

theorem reacts_askStepMove (h : Reacts own claims s t) {k : Tank} {x : Step} (hs : (t.tank k).service = .regenerating)
    (hk : (t.tank k).step = some x) (hp : (t.tank k).phase = some .toStep) : Reacts own claims s (askStepMove k x t) := by
  have asked := reacts_discRequest h (stepPosition k x)
  refine reacts_ite (fun ha => ?_) fun _ => asked
  have same := discRequest_tank (stepPosition k x) k t
  exact reacts_applyManual (reacts_stepArrival asked (by rw [same, hs]) (by rw [same, hk]) (by rw [same, hp])
    (discRequest_stands ha (moveReply_arrived.mp ha)))

theorem reacts_grantRegen (h : Reacts own claims s t) (e : RegenEntry) : Reacts own claims s (grantRegen e t) := by
  have granted := reacts_regen h (some { e with granted := true })
  refine reacts_ite (fun hx => ?_) fun _ => reacts_marks granted _ ⟨rfl, fun _ => rfl⟩
  refine reacts_askStepMove (reacts_changeTank (granted.tail (.begins _ _ _ hx))) ?_ ?_ ?_ <;> rw [changeTank_tank, if_pos rfl] <;> rfl

theorem reacts_grantFlush (h : Reacts own claims s t) {e : FlushEntry} (hg : grantAllowed t = true) (he : t.line.flush = some e) :
    Reacts own claims s (grantFlush e t) := by
  obtain ⟨n, started⟩ := flushStart_others { t with line := { t.line with flush := some { e with granted := true } } }
  unfold grantFlush
  rw [started]
  exact h.tail (.flushes t e n hg he)

theorem grantAllowed_iff (s : State) : grantAllowed s = true ↔ s.line.owner = .none ∧ s.supply.state = .mains ∧ s.valve.state = .opened := by
  simp only [grantAllowed, Bool.and_eq_true, beq_iff_eq, and_assoc]

theorem reacts_grantTest (h : Reacts own claims s t) (hg : grantAllowed t = true) (ht : t.line.test ≠ none) :
    Reacts own claims s (grantTest t) := by
  refine reacts_ite (fun hp => h.tail (.tests t _ hg hp ht (shifts_testAccept t))) fun _ => ?_
  have released : Reacts own claims s { t with line := { t.line with test := none } } := h.tail (.untested t)
  obtain ⟨owner, mains, opened⟩ := (grantAllowed_iff t).mp hg
  have allowed : grantAllowed { t with line := { t.line with test := none } } = true :=
    (grantAllowed_iff _).mpr ⟨Line.owner_without_test owner, mains, opened⟩
  dsimp only
  split
  next e he => exact reacts_grantFlush released allowed he
  next => exact released

theorem reacts_grantDecision (h : Reacts own claims s t) : Reacts own claims s (grantDecision t) := by
  refine reacts_ite (fun hg => ?_) fun _ => h
  split
  next => exact h
  next e he => exact reacts_grantRegen h e
  next e he => exact reacts_grantFlush h hg (Line.winner_flush he)
  next ht => exact reacts_grantTest h hg (Line.winner_test ht)

/-! ### Claims and releases (R69, R84, R88) -/

theorem reacts_claimRegen (h : Reacts own claims s t) {k : Tank} (hc : (t.tank k).claim ≠ .granted) (c : Bool) :
    Reacts own claims s (claimRegen k c t) := by
  have pend : Reacts own claims s { t.withTank k { t.tank k with claim := .pending } with
      line := { t.line with regen := some { granted := false, tank := k, continuation := c } } } :=
    reacts_regen (reacts_marks h k (r := { t.tank k with claim := .pending }) ⟨rfl, fun hg => absurd hg hc⟩) _
  unfold claimRegen
  split
  · exact reacts_grantDecision pend
  · exact reacts_ite (fun _ => h) fun _ => pend

theorem reacts_keepClaim (h : Reacts own claims s t) (k : Tank) : Reacts own claims s (keepClaim k t) :=
  reacts_ite (fun hc => reacts_claimRegen h (by rw [hc.2.1]; decide) false) fun _ => h

theorem reacts_releaseRegen (h : Reacts own claims s t) : Reacts own claims s (releaseRegen t) :=
  reacts_ite (fun _ => reacts_grantDecision (reacts_regen h none)) fun _ => h

theorem reacts_giveUpTest (h : Reacts own claims s t) : Reacts own claims s (giveUpTest t) :=
  have released : Reacts own claims s { t with line := { t.line with test := none } } := h.tail (.untested t)
  reacts_ite (fun _ => reacts_grantDecision released) fun _ => released

theorem reacts_changeDecision (h : Reacts own claims s t) : Reacts own claims s (changeDecision t) :=
  reacts_grantDecision (reacts_keepClaim (reacts_keepClaim h .a) .b)

theorem reacts_openedDecision (h : Reacts own claims s t) (old : State) : Reacts own claims s (openedDecision old t) :=
  reacts_ite (fun _ => reacts_changeDecision h) fun _ => h

theorem reacts_regenClaim (h : Reacts own claims s t) (k : Tank) : Reacts own claims s (regenClaim k t) :=
  reacts_ite (fun _ => reacts_keepClaim h k) fun _ => reacts_ite (fun _ => reacts_deferFailing (reacts_withdrawRegen h k) k) fun _ => h

theorem reacts_lineBusy (h : Reacts own claims s t) (k : Tank) : Reacts own claims s (lineBusy k t) :=
  reacts_ite (fun _ => reacts_defer h k _) fun _ => h

theorem reacts_suspension (h : Reacts own claims s t) (k : Tank) : Reacts own claims s (suspension k t) :=
  reacts_changeTank (reacts_marks h k ⟨rfl, id⟩)

theorem reacts_claimFlush (h : Reacts own true s t) (high : Bool) : Reacts own true s (claimFlush high t) := by
  unfold claimFlush
  split
  next hn =>
    have hg : t.line.flushGranted = false := by rw [Line.flushGranted, hn]
    exact reacts_grantDecision (h.tail (.claimsFlush t high rfl hg))
  next e he =>
    refine reacts_ite (fun _ => h) fun hg => ?_
    have hg : t.line.flushGranted = false := by
      rw [Line.flushGranted, he]
      exact Bool.eq_false_iff.mpr hg
    exact reacts_ite (fun _ => reacts_grantDecision (h.tail (.claimsFlush t high rfl hg))) fun _ => h.tail (.claimsFlush t high rfl hg)

theorem reacts_flushClaim (h : Reacts own true s t) : Reacts own true s (flushClaim t) := by
  unfold flushClaim
  dsimp only
  split
  · exact reacts_ite (fun _ => reacts_claimFlush h true) fun _ => h
  · exact reacts_ite (fun _ => reacts_claimFlush h _) fun _ => h

end Sys2Proof.Machine

/-! The operations of a second stay within the relation: arrivals and moves of the Regeneration Sequencer, the Leak Monitor's latch and test,
and the Supply Monitor. -/

namespace Sys2Proof.Machine

set_option Elab.async false

/-! ### Ends of regenerations and changeovers (R64, R75) -/

section
variable {own claims : Bool} {s t : State}

theorem regenCredited_brine (k : Tank) (s : State) : ∃ b x n, s.regenCredited k = { s with
      brine := b, cap := { s.cap with recs := s.cap.recs.set k x, runs := s.cap.runs.set k 0 }, notices := n }
    ∧ b.level = s.brine.level ∧ b.levelFault = s.brine.levelFault ∧ b.restartLevel = s.brine.restartLevel
    ∧ b.measure = s.brine.measure := by
  have e := (judged_brineRegenEnd (creditTank k (brineFactor s) s)).others
  exact ⟨_, _, _, e, rfl, rfl, rfl, rfl⟩

/-- The tank ended and credited, its claim `c` (R26, R75, R98). -/
theorem regenReady_credited (k : Tank) (c : Claim) (s : State) : ∃ b x n,
    ((s.regenReady k).regenCredited k).withTank k { ((s.regenReady k).regenCredited k).tank k with claim := c } = { s.withTank k
      { (s.tank k).ended with claim := c } with
        brine := b, cap := { s.cap with recs := s.cap.recs.set k x, runs := s.cap.runs.set k 0 }, notices := n }
    ∧ b.level = s.brine.level ∧ b.levelFault = s.brine.levelFault ∧ b.restartLevel = s.brine.restartLevel
    ∧ b.measure = s.brine.measure := by
  obtain ⟨n, ready⟩ := changeTank_notices k (s.tank k).ended s
  have ready : s.regenReady k = { s.withTank k (s.tank k).ended with notices := n } := ready
  obtain ⟨b, x, m, e, hb⟩ := regenCredited_brine k (s.regenReady k)
  rw [ready] at hb
  refine ⟨b, x, m, ?_, hb⟩
  rw [e, ready]
  cases k <;> rfl

theorem reacts_regenEnd (h : Reacts own claims s t) {k : Tank} (hs : (t.tank k).service = .regenerating)
    (hp : (t.tank k).phase = some .toReady) (hd : t.stands (readyPosition k)) (hc : t.seq.changeover = none) :
    Reacts own claims s (regenEnd k t) := by
  have credited (c : Claim) : Reacts own claims s (((t.regenReady k).regenCredited k).withTank k
      { ((t.regenReady k).regenCredited k).tank k with claim := c }) := by
    obtain ⟨b, x, n, e, hb⟩ := regenReady_credited k c t
    rw [e]
    exact h.tail (.ends t k _ b x 0 n hs hp hd hc rfl hb)
  rw [regenEnd_eq]
  have released := reacts_releaseRegen (reacts_withdrawRegen (credited (if (t.tank k).claim = .granted then .none else (t.tank k).claim)) k)
  have told := reacts_requestDoneIf (reacts_marks (r := { State.tank _ k with regenTag := none })
    (reacts_post released .regenDone (.tank k) (((t.regenReady k).regenCredited k).record k).credited (brineFactor (t.regenReady k))
      (saltUsed (t.regenReady k))) k ⟨rfl, id⟩) (.tank k) (t.tank k).regenTag kindTankCmd .done 0
  exact reacts_changeoverBegin told

theorem reacts_holdArrival (h : Reacts own claims s t) {c : Changeover} (hc : t.seq.changeover = some c) (hp : c.phase = .toHold)
    (hd : t.stands (holdPosition c.outgoing)) (d : Nat) : Reacts own claims s (holdArrival c.outgoing d t) := by
  have reached : Reacts own claims s (t.holdReached c.outgoing) := by
    obtain ⟨n, told⟩ := changeTank_notices c.outgoing { t.tank c.outgoing with service := .exhausted } (clearRun c.outgoing t)
    rw [State.holdReached, told]
    exact h.tail (.holds t c n hc hp hd)
  rw [holdArrival_eq]
  exact reacts_askProjection (reacts_requestDoneIf (reacts_marks (r := { State.tank _ c.outgoing with changeTag := none })
    (reached.tail (.told _ _)) c.outgoing ⟨rfl, id⟩) _ _ _ _ _) _

end

/-! ### Moves that arrive at once (R46) -/

section
variable {own claims : Bool} {s t : State}

/-- What an arrival at `p` finds: a regenerating tank at its own move's target, or a changeover. -/
structure State.Awaits (p : Pos) (s : State) : Prop where
  step : ∀ k x, positionStep k p = some x → regenerating s = some k → s.seq.changeover = none →
    (s.tank k).step = some x ∧ (s.tank k).phase = some .toStep
  tank : s.seq.changeover = none → regenerating s ≠ none

theorem regenerating_service {k : Tank} (h : regenerating s = some k) : (s.tank k).service = .regenerating := by
  unfold regenerating at h
  split at h
  next ha =>
    cases h
    exact ha
  next =>
    split at h
    next hb =>
      cases h
      exact hb
    next => cases h

theorem positionStep_iff {k : Tank} {p : Pos} {x : Step} : positionStep k p = some x ↔ p = stepPosition k x := by
  cases k <;> cases x <;> revert p <;> decide

theorem reacts_sequencerArrival (h : Reacts own claims s t) {p : Pos} (hd : t.stands p) (hp : t.Awaits p) :
    Reacts own claims s (sequencerArrival p t) := by
  unfold sequencerArrival
  split
  next c hc =>
    split
    next hq => exact reacts_ite (fun e => reacts_changeArrival h hc hq (e ▸ hd)) fun _ => h
    next => exact h
    next hq => exact reacts_ite (fun e => reacts_holdArrival h hc hq (e ▸ hd) _) fun _ => h
  next hc =>
    split
    next k hk =>
      refine reacts_ite (fun hq => reacts_ite (fun e => reacts_regenEnd h (regenerating_service hk) hq (e ▸ hd) hc) fun _ => h) fun _ => ?_
      split
      next x hx =>
        obtain ⟨step, phase⟩ := hp.step k x hx hk hc
        exact reacts_stepArrival h (regenerating_service hk) step phase (positionStep_iff.mp hx ▸ hd)
      next => exact h
    next hk => exact absurd hk (hp.tank hc)

theorem regenerating_congr (h : t.seq.tanks = s.seq.tanks) : regenerating t = regenerating s := by
  unfold regenerating State.tank
  rw [h]

theorem reacts_askMove (h : Reacts own claims s t) {p : Pos} (hp : t.Awaits p) : Reacts own claims s (askMove p t) := by
  have asked := reacts_discRequest h p
  refine reacts_ite (fun ha => ?_) fun _ => asked
  have seq : (discRequest p t).seq = t.seq := discRequest_seq p t
  have tanks : regenerating (discRequest p t) = regenerating t := regenerating_congr (congrArg Sequencer.tanks seq)
  refine reacts_applyManual (reacts_sequencerArrival asked (discRequest_stands ha (moveReply_arrived.mp ha)) ⟨?_, ?_⟩)
  · intro k x hx hk hc
    rw [discRequest_tank]
    rw [tanks] at hk
    rw [seq] at hc
    exact hp.step k x hx hk hc
  · intro hc
    rw [seq] at hc
    rw [tanks]
    exact hp.tank hc

theorem positionStep_ready (j k : Tank) : positionStep j (readyPosition k) = none := by cases j <;> cases k <;> decide

theorem positionStep_change (j k : Tank) : positionStep j (changePosition k) = none := by cases j <;> cases k <;> decide

theorem positionStep_hold (j k : Tank) : positionStep j (holdPosition k) = none := by cases j <;> cases k <;> decide

/-- A changeover under way awaits every position. -/
theorem State.awaits_changeover {p : Pos} (hc : s.seq.changeover ≠ none) : s.Awaits p := ⟨fun _ _ _ _ h => absurd h hc, fun h => absurd h hc⟩

theorem regenerating_of {k : Tank} (h : (s.tank k).service = .regenerating) : regenerating s ≠ none := by
  unfold regenerating
  split
  · exact Option.some_ne_none _
  · split
    · exact Option.some_ne_none _
    next ha hb => cases k <;> contradiction

/-- A tank on its way to READY awaits its READY position. -/
theorem State.awaits_ready {k : Tank} (h : (s.tank k).service = .regenerating) : s.Awaits (readyPosition k) :=
  ⟨fun j _ hx => absurd ((positionStep_ready j k).symm.trans hx) (Option.some_ne_none _).symm, fun _ => regenerating_of h⟩

theorem stepPosition_inj {j k : Tank} {x y : Step} (h : stepPosition j x = stepPosition k y) : j = k ∧ x = y := by
  cases j <;> cases k <;> cases x <;> cases y <;> revert h <;> decide

/-- A tank on its way to a step awaits that step's position. -/
theorem State.awaits_step {k : Tank} {x : Step} (h : (s.tank k).service = .regenerating) (hk : (s.tank k).step = some x)
    (hp : (s.tank k).phase = some .toStep) : s.Awaits (stepPosition k x) := by
  refine ⟨fun j y hy _ _ => ?_, fun _ => regenerating_of h⟩
  obtain ⟨rfl, rfl⟩ := stepPosition_inj (positionStep_iff.mp hy)
  exact ⟨hk, hp⟩

theorem lineConditions_free {k : Tank} (h : lineConditions k s = true) : s.discFree = true := by
  simp only [lineConditions, Bool.and_eq_true] at h
  exact h.2

theorem reacts_stepMove (h : Reacts own claims s t) (k : Tank) : Reacts own claims s (stepMove k t) := by
  unfold stepMove
  dsimp only
  split
  next hc =>
    obtain ⟨hs, hp, hl⟩ := hc
    have free := lineConditions_free hl
    split
    next => exact h
    next x hx =>
      split
      next y hy =>
        refine reacts_askMove (reacts_changeTank (h.tail (.next t k x y hs hx hp free hy))) ?_
        refine State.awaits_step ?_ ?_ ?_ <;> rw [changeTank_tank, if_pos rfl]
        exact hs
      next =>
        refine reacts_askMove (reacts_changeTank (h.tail (.home t k hs hp free))) (State.awaits_ready ?_)
        rw [changeTank_tank, if_pos rfl]
        exact hs
  next => exact h

theorem reacts_firstMove (h : Reacts own claims s t) (k : Tank) : Reacts own claims s (firstMove k t) := by
  unfold firstMove
  dsimp only
  split
  next x hx => exact reacts_ite (fun hc => reacts_askStepMove h hc.1 hx hc.2.1) fun _ => h
  next => exact h

theorem reacts_changeoverMove (h : Reacts own claims s t) : Reacts own claims s (changeoverMove t) := by
  unfold changeoverMove
  split
  next c hc =>
    have under : t.seq.changeover ≠ none := by rw [hc]; exact Option.some_ne_none _
    split
    · exact reacts_ite (fun _ => reacts_askMove h (State.awaits_changeover under)) fun _ => h
    · exact h
    · exact reacts_ite (fun _ => reacts_askMove h (State.awaits_changeover under)) fun _ => h
  next => exact h

theorem reacts_waitingMoves (h : Reacts own claims s t) : Reacts own claims s (waitingMoves t) :=
  reacts_stepMove (reacts_stepMove (reacts_firstMove (reacts_firstMove (reacts_changeoverMove h) .a) .b) .a) .b

theorem reacts_standing (h : Reacts own true s t) : Reacts own true s (standing t) :=
  reacts_suspension (reacts_suspension (reacts_flushClaim (reacts_regenClaim (reacts_regenClaim
    (reacts_stepMove (reacts_stepMove h .a) .b) .a) .b)) .a) .b

theorem reacts_follow (h : Reacts own true s t) : Reacts own true s (follow t) :=
  reacts_ite (fun _ => h) fun _ => reacts_standing h

end

/-! ### The Leak Monitor (R128, R137, R138) -/

section
variable {claims : Bool} {s t : State}

theorem reacts_shifts (h : Reacts true claims s t) {u : State} (hu : Shifts false t u) : Reacts true claims s u := by
  induction hu with
  | refl => exact h
  | tail _ last ih => exact ih.tail (.shifts _ _ rfl last)

theorem reacts_addReason (h : Reacts true claims s t) {n : Reason} (hn : n = .trip ∨ n = .lowBattery) : Reacts true claims s (addReason n t) :=
  reacts_shifts h (shifts_addReason .refl hn)

theorem reacts_removeTest (h : Reacts true claims s t) : Reacts true claims s (removeReason .test t) :=
  reacts_openedDecision (reacts_shifts h (shifts_dropTest .refl)) t

theorem reacts_leak (h : Reacts true claims s t) (l : Leak) (hl : l.detector = t.leak.detector) : Reacts true claims s { t with leak := l } :=
  h.tail (.leak t l rfl hl)

theorem reacts_latchCore (h : Reacts true claims s t) (c : Cause) (d : Int) : Reacts true claims s (latchCore c d t) := by
  have latched (l : Option Trip) : Reacts true claims s { t with leak := { t.leak with latch := l } } := reacts_leak h _ rfl
  unfold latchCore
  split
  · exact reacts_ite (fun _ => reacts_addReason (reacts_post (latched _) _ _ _ _ _) (.inl rfl)) fun _ => reacts_post (latched _) _ _ _ _ _
  · exact reacts_ite (fun _ => h) fun _ => reacts_post (latched _) _ _ _ _ _

theorem reacts_microleakResult (h : Reacts true claims s t) (r : TestResult) (d : Int) : Reacts true claims s (microleakResult r d t) := by
  have counted (n : Nat) : Reacts true claims s { t with leak := { t.leak with record := { t.leak.record with microleaks := n } } } :=
    reacts_leak h _ rfl
  unfold microleakResult
  split
  · exact counted 0
  · exact reacts_ite (fun _ => reacts_ite (fun _ => reacts_latchCore (reacts_post (counted _) _ _ _ _ _) _ _)
      fun _ => reacts_post (counted _) _ _ _ _ _) fun _ => counted _
  · exact h

theorem reacts_exerciseCue (h : Reacts true claims s t) : Reacts true claims s (exerciseCue t) := reacts_shifts h (shifts_exerciseCue .refl)

theorem reacts_recordResult (h : Reacts true claims s t) (r : TestResult) (v : Int) (p0 : Nat) (d : Int) :
    Reacts true claims s (recordResult r v p0 d t) := by
  have recorded (m : TestRecord) : Reacts true claims s { t with leak := { t.leak with record := m } } := reacts_leak h _ rfl
  exact reacts_exerciseCue (reacts_leak (reacts_requestDoneIf (reacts_post (recorded _) _ _ _ _ _) _ _ _ _ _) _ rfl)

theorem reacts_endTest (h : Reacts true claims s t) (r : TestResult) (v d : Int) : Reacts true claims s (endTest r v d t) := by
  have judged := reacts_microleakResult h r d
  exact reacts_recordResult (reacts_giveUpTest (reacts_ite (fun _ => reacts_removeTest judged) fun _ => judged)) _ _ _ _

theorem reacts_abandonTest (h : Reacts true claims s t) (r : EndReason) : Reacts true claims s (abandonTest r t) :=
  reacts_ite (fun _ => h) fun _ => reacts_endTest h _ _ _

theorem reacts_latchCause (h : Reacts true claims s t) (c : Cause) (d : Int) : Reacts true claims s (latchCause c d t) :=
  reacts_ite (fun _ => h) fun _ => reacts_abandonTest (reacts_latchCore h c d) _

theorem reacts_tripTests (h : Reacts true claims s t) : Reacts true claims s (tripTests t) := by
  unfold tripTests
  split
  · exact h
  next set _ =>
    have one := reacts_ite (c := set.continuous ≤ t.leak.detector.seconds)
      (fun _ => reacts_latchCause h .continuous t.leak.detector.seconds) fun _ => h
    have two := reacts_ite (c := set.volume ≤ t.leak.detector.litres)
      (fun _ => reacts_latchCause one .volume t.leak.detector.litres) fun _ => one
    exact reacts_ite (fun _ => reacts_latchCause two _ _) fun _ => two

theorem reacts_flowTrip (h : Reacts true claims s t) (held : Bool) : Reacts true claims s (flowTrip held t) :=
  reacts_ite (fun _ => h) fun _ => reacts_tripTests h

theorem reacts_claimTest (h : Reacts true claims s t) : Reacts true claims s (claimTest t) := by
  unfold claimTest
  split
  · exact reacts_grantDecision (h.tail (.claimsTest t rfl))
  · exact h

theorem reacts_testDue (h : Reacts true claims s t) : Reacts true claims s (testDue t) := by
  have taken : Reacts true claims s { t with leak := { t.leak with testDue := false } } := reacts_leak h _ rfl
  refine reacts_ite (fun _ => reacts_ite (fun _ => ?_) fun _ => taken) fun _ => h
  split
  · exact reacts_recordResult taken _ _ _ _
  · exact reacts_claimTest (reacts_leak taken _ rfl)

theorem reacts_testMinuteReached (h : Reacts true claims s t) : Reacts true claims s (testMinuteReached t) :=
  have cued (b : Bool) : Reacts true claims s { t with leak := { t.leak with testDue := b } } := reacts_leak h _ rfl
  reacts_testDue (cued _)

theorem reacts_offCue (h : Reacts true claims s t) : Reacts true claims s (offCue t) :=
  reacts_ite (fun _ => reacts_exerciseCue h) fun _ => h

theorem reacts_holdEnd (h : Reacts true claims s t) : Reacts true claims s (holdEnd t) :=
  reacts_ite (fun _ => reacts_endTest h _ _ _) fun _ => h

theorem reacts_testSecond (h : Reacts true claims s t) : Reacts true claims s (testSecond t) := by
  have run (r : TestRun) : Reacts true claims s { t with leak := { t.leak with test := r } } := reacts_leak h _ rfl
  unfold testSecond
  dsimp only
  split
  · exact h
  · exact reacts_ite (fun _ => reacts_endTest (run _) _ _ _) fun _ => run _
  · exact reacts_ite (fun _ => run _) fun _ => h
  · exact reacts_ite (fun _ => reacts_ite (fun _ => reacts_abandonTest (run _) _) fun _ => reacts_leak (run _) _ rfl) fun _ => run _
  · exact reacts_ite (fun _ => reacts_abandonTest (run _) _) fun _ =>
      reacts_ite (fun _ => reacts_abandonTest (run _) _) fun _ => reacts_holdEnd (run _)

/-! ### The exercise, the Supply Monitor and the pods (R149, R151 to R153, R163) -/

theorem reacts_exerciseSecond (h : Reacts true claims s t) : Reacts true claims s (exerciseSecond t) := by
  have valve {u : State} (h : Reacts true claims s u) (w : Valve) (hr : w.reasons = u.valve.reasons) (hs : w.state = u.valve.state) :
      Reacts true claims s { u with valve := w } := reacts_shifts h (.single (.valve u w hr (.inl hs)))
  unfold exerciseSecond
  split
  · have timed : Reacts true claims s { t with valve := { t.valve with exerciseTime := t.valve.exerciseTime + 1 } } := valve h _ rfl rfl
    have started : Reacts true claims s (exerciseStart { t with valve := { t.valve with exerciseTime := t.valve.exerciseTime + 1 } }) := by
      refine reacts_ite (fun hc => reacts_shifts timed (shifts_exerciseBegin .refl fun _ => .inr (.inr (.inr ?_)))) fun _ => timed
      have ready := hc.2
      simp only [exerciseReady, Bool.and_eq_true, Bool.not_eq_true'] at ready
      exact ready.1.1.2
    exact reacts_ite (fun _ => valve started _ rfl rfl) fun _ => started
  · exact valve h _ rfl rfl
  · exact h

theorem stateOnVoltage_away {p : Supply} {n : SupplyState} (h : stateOnVoltage p = some n) : p.state ≠ .mains ∧ n ≠ .mains := by
  unfold stateOnVoltage at h
  split at h
  next hs =>
    refine ⟨by rw [hs]; decide, ?_⟩
    split at h
    · cases h
      decide
    · split at h <;> cases h
      decide
  next hs =>
    refine ⟨by rw [hs]; decide, ?_⟩
    split at h
    · cases h
      decide
    · split at h <;> cases h
      decide
  next => cases h

theorem reacts_lowEntered (h : Reacts true claims s t) : Reacts true claims s (lowEntered t) :=
  have low := reacts_faultReport (c := .batteryLow) h .none t.supply.battery rfl
  reacts_ite (fun _ => reacts_addReason low (.inr rfl)) fun _ => low

theorem reacts_voltageSteady (h : Reacts true claims s t) : Reacts true claims s (voltageSteady t) := by
  unfold voltageSteady
  split
  next n hn =>
    obtain ⟨away, next⟩ := stateOnVoltage_away hn
    refine reacts_ite (fun _ => h) fun _ => ?_
    have supplied : Reacts true claims s { t with supply := { t.supply with state := n } } := h.tail (.supply t _ rfl next away)
    have told := reacts_post supplied .supplyState .none (supplyCode n) t.supply.battery (Config.unusedValue (noticeCode .supplyState) 3)
    have gone := reacts_ite (c := t.supply.state = .batteryLow) (fun _ => reacts_faultGone (c := .batteryLow) told .none rfl) fun _ => told
    dsimp only
    rw [if_neg away]
    split
    next => exact absurd rfl next
    next => exact gone
    next => exact reacts_lowEntered gone
    next => exact gone.tail (.stops _ rfl)
  next => exact h

theorem reacts_windowClose (h : Reacts true claims s t) (w : Enrolment) : Reacts true claims s (windowClose w t) :=
  have closed : Reacts true claims s { t with pods := { t.pods with window := none, calling := false } } := h.tail (.pods t _ rfl rfl)
  closed.tail (.told _ _)

theorem reacts_enrolSecond (h : Reacts true claims s t) : Reacts true claims s (enrolSecond t) := by
  have pods {u : State} (h : Reacts true claims s u) (p : Pods) (hp : p.slots = u.pods.slots) : Reacts true claims s { u with pods := p } :=
    h.tail (.pods u p rfl hp)
  unfold enrolSecond
  split
  next w _ =>
    have counted : Reacts true claims s { t with pods := { t.pods with window := some { w with remaining := w.remaining - 1 } } } :=
      pods h _ rfl
    unfold enrolWindowClose
    split
    · exact reacts_ite (fun _ => reacts_windowClose counted _) fun _ => counted
    · exact counted
  next => exact h

end

end Sys2Proof.Machine

/-! What no reaction within a second changes: the settings, the clock, the Metering Unit, the counts and the samples. -/

namespace Sys2Proof.Machine

set_option Elab.async false

/-- The counts and the readings of the Filter Monitor, without its state, its due set, its flush and the flow-hold count. -/
def Filter.counts (f : Filter) : Filter := { f with state := .clean, due := {}, flush := {}, solenoid := false, flowHold := 0 }

/-- What only the stages of a second themselves change. -/
structure Gauges where
  settings : Settings
  clock : Clock
  meter : Metering
  detector : Detector
  probeFault : PerTank Bool
  hEff : Nat
  calendar : Nat
  timing : Timing
  windowHour : Nat
  level : Nat
  levelFault : Bool
  restartLevel : Bool
  filter : Filter
  position : Option Pos
  levelRecords : Subject → List FaultRecord
  bedRecords : Subject → List FaultRecord

def State.gauges (s : State) : Gauges where
  settings := s.settings
  clock := s.clock
  meter := s.meter
  detector := s.leak.detector
  probeFault := s.cap.probeFault
  hEff := s.cap.hEff
  calendar := s.seq.calendar
  timing := s.seq.timing
  windowHour := s.seq.windowHour
  level := s.brine.level
  levelFault := s.brine.levelFault
  restartLevel := s.brine.restartLevel
  filter := s.filter.counts
  position := s.disc.position
  levelRecords := s.faults.of .levelSensor
  bedRecords := s.faults.of .bedProbe

/-- What the disc and the Fault Log do not take back within a second. -/
structure Onward (s t : State) : Prop where
  free : t.discFree = true → s.discFree = true
  overflow : s.faults.overflow = true → t.faults.overflow = true

theorem Onward.refl (s : State) : Onward s s := ⟨id, id⟩

theorem Onward.trans {s t u : State} (h : Onward s t) (h' : Onward t u) : Onward s u := ⟨h.free ∘ h'.free, h'.overflow ∘ h.overflow⟩

section
variable {tested own claims : Bool} {s t : State}

theorem FaultLog.KeepsProbes.gauges {f : FaultLog} (h : s.faults.KeepsProbes f) : State.gauges { s with faults := f } = s.gauges := by
  simp only [State.gauges, funext h.level, funext h.bed]

theorem Shift.gauges (h : Shift tested s t) : t.gauges = s.gauges := by
  cases h with
  | faults f hf => exact hf.gauges
  | cut f l n _ _ _ _ hd _ =>
    have counts : f.counts = s.filter.counts := by rw [hd]; rfl
    simp only [State.gauges, counts]
  | _ => rfl

theorem Shift.onward (h : Shift tested s t) : Onward s t := by
  cases h with
  | faults f hf => exact ⟨id, hf.overflow⟩
  | _ => exact ⟨id, id⟩

theorem Shifts.gauges (h : Shifts tested s t) : t.gauges = s.gauges := by
  induction h with
  | refl => rfl
  | tail _ last ih => exact last.gauges.trans ih

theorem Shifts.onward (h : Shifts tested s t) : Onward s t := by
  induction h with
  | refl => exact .refl _
  | tail _ last ih => exact ih.trans last.onward

theorem React.gauges (h : React own claims s t) : t.gauges = s.gauges := by
  cases h with
  | faults f hf => exact hf.gauges
  | arrives k x b n _ _ _ _ hb _ =>
    have level : b.level = s.brine.level := by rw [hb]
    have fault : b.levelFault = s.brine.levelFault := by rw [hb]
    have restart : b.restartLevel = s.brine.restartLevel := by rw [hb]
    simp only [State.gauges, State.withTank, level, fault, restart]
  | ends k r b c m n _ _ _ _ _ hb =>
    obtain ⟨level, fault, restart, -⟩ := hb
    simp only [State.gauges, State.withTank, level, fault, restart]
  | disc d hp _ => simp only [State.gauges, hp]
  | tests _ _ _ _ h => exact h.gauges
  | shifts _ _ h => exact h.gauges
  | leak _ l hd => simp only [State.gauges, hd]
  | _ => rfl

theorem React.onward (h : React own claims s t) : Onward s t := by
  cases h with
  | faults f hf => exact ⟨id, hf.overflow⟩
  | disc d _ hf => exact ⟨fun h => (State.discFree_iff _).mpr (hf ((State.discFree_iff _).mp h)), id⟩
  | tests _ _ _ _ h => exact ⟨h.onward.free, h.onward.overflow⟩
  | shifts _ _ h => exact h.onward
  | _ => exact ⟨id, id⟩

theorem Reacts.gauges (h : Reacts own claims s t) : t.gauges = s.gauges := by
  induction h with
  | refl => rfl
  | tail _ last ih => exact last.gauges.trans ih

theorem Reacts.onward (h : Reacts own claims s t) : Onward s t := by
  induction h with
  | refl => exact .refl _
  | tail _ last ih => exact ih.trans last.onward

end

end Sys2Proof.Machine

/-! What the quiet stages of a second leave alone: the salt account, the filter's counts, the Metering Unit, the probes, the steps. -/

namespace Sys2Proof.Machine

set_option Elab.async false

/-! ### The salt account and the filter -/

/-- The parts whose work in a second sets nothing else off. -/
inductive Part where
  | salt
  | filter
  | meter

/-- The sample of the level probe, and the draw and the refill that are under way. -/
def Brine.water (b : Brine) : Brine :=
  { level := b.level, levelFault := b.levelFault, restartLevel := b.restartLevel, measure := b.measure, refill := b.refill }

/-- The state without a part's own record, the notices and the Fault Log. -/
def State.beside : Part → State → State
  | .salt, s => { s with brine := s.brine.water, notices := {}, faults := {} }
  | .filter, s => { s with filter := {}, notices := {}, faults := {} }
  | .meter, s => { s with
      meter := {}, cap := { s.cap with runs := ⟨0, 0⟩ }, seq := { s.seq with calendar := 0 }, notices := {}, faults := {} }

/-- The work of a part leaves everything beside it alone, and the probes' fault records. -/
structure Works (p : Part) (s t : State) : Prop where
  beside : t.beside p = s.beside p
  faults : s.faults.KeepsProbes t.faults

theorem FaultLog.KeepsProbes.trans {k l m : FaultLog} (h : k.KeepsProbes l) (h' : l.KeepsProbes m) : k.KeepsProbes m :=
  ⟨fun u => (h'.level u).trans (h.level u), fun u => (h'.bed u).trans (h.bed u), h'.overflow ∘ h.overflow⟩

section
variable {p : Part} {s t u : State}

theorem Works.refl (s : State) : Works p s s := ⟨rfl, .refl _⟩

theorem Works.trans (h : Works p s t) (h' : Works p t u) : Works p s u := ⟨h'.beside.trans h.beside, h.faults.trans h'.faults⟩

theorem Works.same (h : Works p s t) (e : u.beside p = t.beside p := by rfl) (f : u.faults = t.faults := by rfl) : Works p s u :=
  ⟨e.trans h.beside, by rw [f]; exact h.faults⟩

theorem Works.ite {c : Prop} [Decidable c] {a b : State} (ha : c → Works p s a) (hb : ¬ c → Works p s b) : Works p s (if c then a else b) := by
  split
  · exact ha ‹_›
  · exact hb ‹_›

theorem works_post (h : Works p s t) (k : NoticeKind) (x : Subject) (a b c : Int) : Works p s (post k x a b c t) := by
  cases p <;> exact h.same

theorem works_faultReport (h : Works p s t) {c : FaultCode} (x : Subject) (d : Int) (hc : c.probes = false) :
    Works p s (faultReport c x d t) := by
  refine ⟨?_, h.faults.trans (t.faults.keepsProbes_report x d t.now hc)⟩
  cases p <;> exact h.beside

theorem works_faultGone (h : Works p s t) {c : FaultCode} (x : Subject) (hc : c.probes = false) : Works p s (faultGone c x t) := by
  refine ⟨?_, h.faults.trans (t.faults.keepsProbes_gone x hc)⟩
  cases p <;> exact h.beside

end

section
variable {s t : State}

theorem works_saltReminder (h : Works .salt s t) (n : Nat) : Works .salt s (saltReminder n t) := works_post h _ _ _ _ _

theorem works_forecastReminder (h : Works .salt s t) : Works .salt s (forecastReminder t) := by
  refine .ite (fun _ => h) fun _ => ?_
  split
  · exact .ite (fun _ => .ite (fun _ => (works_saltReminder h 2).same) fun _ => h) fun _ => h.same
  · exact h.same

theorem works_setSalt (h : Works .salt s t) (n : SaltState) : Works .salt s (setSalt n t) :=
  have told := works_post (h.same (u := { t with brine := { t.brine with salt := n } }) rfl) .saltState .none (saltCode n)
    (t.brine.height.getD 0) t.brine.inventory
  .ite (fun _ => h) fun _ => .ite (fun _ => (works_saltReminder told 0).same) fun _ => told

theorem works_evaluateSaltMass (h : Works .salt s t) : Works .salt s (evaluateSaltMass t) :=
  .ite (fun _ => h) fun _ => works_setSalt h _

theorem works_inventoryChanged (h : Works .salt s t) (n : Nat) : Works .salt s (inventoryChanged n t) :=
  .ite (fun _ => h) fun _ => works_forecastReminder (works_evaluateSaltMass h)

theorem works_fillDetection (h : Works .salt s t) (n : Nat) : Works .salt s (fillDetection n t) := by
  unfold fillDetection
  split
  · exact works_inventoryChanged h.same _
  · exact .ite (fun _ => works_inventoryChanged (works_post h.same _ _ _ _ _) _) fun _ => h

theorem works_bridgeReference (h : Works .salt s t) (n : Nat) : Works .salt s (bridgeReference n t) := by
  unfold bridgeReference
  split
  · exact h.same
  · exact .ite (fun _ => h.same) fun _ => h

theorem works_bridgeTest (h : Works .salt s t) (n : Nat) : Works .salt s (bridgeTest n t) := by
  unfold bridgeTest
  split
  · exact h
  · exact .ite (fun _ => works_post h.same _ _ _ _ _) fun _ => h

theorem works_goodReading (h : Works .salt s t) (d : Nat) : Works .salt s (goodReading d t) :=
  have ended := Works.ite (c := t.brine.saltFault = true) (fun _ => works_faultGone (c := .saltSensor)
    (h.same (u := { t with brine := { t.brine with saltFault := false } }) ) .none rfl) fun _ => h
  have judged := works_setSalt ((works_bridgeReference (works_fillDetection ended _) _).same) _
  .ite (fun _ => works_bridgeTest (judged.same) _) fun _ => judged

theorem works_saltReading (h : Works .salt s t) (x : Int) : Works .salt s (saltReading x t) :=
  .ite (fun _ => works_goodReading h _) fun _ => .ite (fun _ => h) fun _ => works_faultReport h.same _ _ rfl

theorem works_saltSecond (h : Works .salt s t) (x : Int) : Works .salt s (saltSecond x t) :=
  .ite (fun _ => .ite (fun _ => works_saltReading h.same x) fun _ => h.same) fun _ => h

theorem works_brineMidnight (h : Works .salt s t) : Works .salt s (brineMidnight t) :=
  works_forecastReminder (.ite (fun _ => h) fun _ => .ite (fun _ => h.same) fun _ => .ite (fun _ => (works_saltReminder h 1).same) fun _ => h)

theorem works_pressureSample (h : Works .filter s t) (n : Fin 3) (x : Int) : Works .filter s (pressureSample n x t) :=
  .ite (fun _ => .ite (fun _ => works_faultGone h.same _ rfl) fun _ => h.same)
    fun _ => .ite (fun _ => h) fun _ => works_faultReport h.same _ _ rfl

theorem works_setFilter (h : Works .filter s t) (n : FilterState) : Works .filter s (setFilter n t) :=
  .ite (fun _ => h) fun _ => works_post h.same _ _ _ _ _

theorem works_filterEvaluate (h : Works .filter s t) : Works .filter s (filterEvaluate t) :=
  .ite (fun _ => h) fun _ => works_setFilter h _

theorem works_cartridgeDue (h : Works .filter s t) (n : Nat) (c : Bool) : Works .filter s (cartridgeDue n c t) :=
  .ite (fun _ => works_post h.same _ _ _ _ _) fun _ => h

theorem works_indexSecond (h : Works .filter s t) (q : Nat) : Works .filter s (indexSecond q t) :=
  .ite (fun _ => .ite (fun _ => .ite (fun _ => works_cartridgeDue (works_filterEvaluate h.same) _ _) fun _ => h.same)
    fun _ => works_filterEvaluate h.same) fun _ => h.same

theorem works_screenSecond (h : Works .filter s t) (v q : Nat) : Works .filter s (screenSecond v q t) :=
  works_cartridgeDue (.ite (fun _ => h.same) fun _ => h.same) _ _

theorem works_flushSecond (h : Works .filter s t) (v : Nat) : Works .filter s (flushSecond v t) := .ite (fun _ => h.same) fun _ => h

theorem works_filterMidnight (h : Works .filter s t) : Works .filter s (filterMidnight t) := works_cartridgeDue h.same _ _

theorem works_flushOutcome (h : Works .filter s t) : Works .filter s (flushOutcome t) :=
  .ite (fun _ => works_faultGone (works_setFilter h.same _) _ rfl) fun _ => works_setFilter (works_faultReport h.same _ _ rfl) _

end

section
variable {s t : State}

theorem works_lossSecond (h : Works .meter s t) : Works .meter s (lossSecond t) :=
  .ite (fun _ => .ite (fun _ => works_faultGone h.same _ rfl) fun _ => h.same)
    fun _ => .ite (fun _ => works_faultReport h.same _ _ rfl) fun _ => h.same

theorem works_unownedSecond (h : Works .meter s t) : Works .meter s (unownedSecond t) :=
  .ite (fun _ => .ite (fun _ => works_faultGone h.same _ rfl) fun _ => h.same)
    fun _ => .ite (fun _ => works_faultReport h.same _ _ rfl) fun _ => h.same

theorem works_passingSecond (h : Works .meter s t) : Works .meter s (passingSecond t) :=
  .ite (fun _ => .ite (fun _ => works_faultReport h.same _ _ rfl) fun _ => h.same)
    fun _ => .ite (fun _ => works_faultGone h.same _ rfl) fun _ => h.same

theorem works_meteringWork (h : Works .meter s t) (i p : Nat) : Works .meter s (meteringWork i p t) :=
  (works_passingSecond (works_unownedSecond (works_lossSecond (h.same (u := takePulses i p t))))).same

end

/-- A part's work as an equation. -/
theorem Works.salt_eq {s t : State} (h : Works .salt s t) : t = { s with brine := t.brine, notices := t.notices, faults := t.faults }
    ∧ t.brine.water = s.brine.water := by
  obtain ⟨e, -⟩ := h
  simp only [State.beside, State.mk.injEq] at e
  obtain ⟨e1, e2, e3, e4, e5, e6, e7, e8, e9, e10, e11, e12, e13, e14, -, -, e15, e16, e17⟩ := e
  refine ⟨?_, e8⟩
  cases t
  simp only at e1 e2 e3 e4 e5 e6 e7 e8 e9 e10 e11 e12 e13 e14 e15 e16 e17
  subst e1 e2 e3 e4 e5 e6 e7 e9 e10 e11 e12 e13 e14 e15 e16 e17
  rfl

theorem Works.filter_eq {s t : State} (h : Works .filter s t) :
    t = { s with filter := t.filter, notices := t.notices, faults := t.faults } := by
  obtain ⟨e, -⟩ := h
  simp only [State.beside, State.mk.injEq] at e
  obtain ⟨e1, e2, e3, e4, e5, e6, e7, e8, -, e10, e11, e12, e13, e14, -, -, e15, e16, e17⟩ := e
  cases t
  simp only at e1 e2 e3 e4 e5 e6 e7 e8 e10 e11 e12 e13 e14 e15 e16 e17
  subst e1 e2 e3 e4 e5 e6 e7 e8 e10 e11 e12 e13 e14 e15 e16 e17
  rfl

theorem Works.meter_eq {s t : State} (h : Works .meter s t) : t = { s with
    meter := t.meter, cap := { s.cap with runs := t.cap.runs }, seq := { s.seq with calendar := t.seq.calendar }, notices := t.notices
    faults := t.faults } := by
  obtain ⟨e, -⟩ := h
  simp only [State.beside, State.mk.injEq] at e
  obtain ⟨e1, e2, -, e4, e5, e6, e7, e8, e9, e10, e11, e12, e13, e14, -, -, e15, e16, e17⟩ := e
  have cap : t.cap = { s.cap with runs := t.cap.runs } := congrArg (fun c : Capacity => { c with runs := t.cap.runs }) e4
  have seq : t.seq = { s.seq with calendar := t.seq.calendar } := congrArg (fun q : Sequencer => { q with calendar := t.seq.calendar }) e6
  cases t
  simp only at e1 e2 e5 e7 e8 e9 e10 e11 e12 e13 e14 e15 e16 e17 cap seq
  subst e1 e2 e5 e7 e8 e9 e10 e11 e12 e13 e14 e15 e16 e17
  simp only [← cap, ← seq]

end Sys2Proof.Machine

/-! The stages of a second: what each leaves alone, and what it sets off. -/

namespace Sys2Proof.Machine

set_option Elab.async false

/-! ### Before the metering stage (R48, R108, R143, R151, R188) -/

/-- A sensor after a sample (R108). -/
def Sensor.sampled (r : Sensor) (x : Int) : Sensor :=
  if 0 ≤ x ∧ x ≤ 1000 then { reading := x.toNat, held := false } else { r with held := true }

/-- The part's state with the motors' times, the clock and the voltage of a second. -/
def State.advanced (x : SecondInputs) (s : State) : State :=
  voltageSecond x.battery.toNat (advanceClock (driveTimes { s with pins := { s.pins with svc := x.svc } }))

section
variable {s t : State} {x : SecondInputs}

theorem beforeMetering_eq (x : SecondInputs) (s : State) : beforeMetering x s = samplePressures x (s.advanced x) := rfl

theorem advanced_disc (x : SecondInputs) (s : State) : ∃ n, (s.advanced x).disc = { s.disc with legTime := n } := by
  show ∃ n, (if s.disc.driven then _ else s.disc) = _
  split
  · exact ⟨_, rfl⟩
  · exact ⟨s.disc.legTime, rfl⟩

theorem advanced_valve (x : SecondInputs) (s : State) : ∃ n, (s.advanced x).valve = { s.valve with travel := n } := by
  show ∃ n, (if s.valve.drive = .stopped then s.valve else _) = _
  split
  · exact ⟨s.valve.travel, rfl⟩
  · exact ⟨_, rfl⟩

theorem pressureSample_filter (n : Fin 3) (v : Int) (s : State) :
    (pressureSample n v s).filter = s.filter.withSensor n ((s.filter.sensor n).sampled v) := by
  unfold pressureSample Sensor.sampled
  dsimp only
  split
  · split <;> rfl
  · split
    next h =>
      have same : { s.filter.sensor n with held := true } = s.filter.sensor n := by rw [← h]
      rw [same]
      match n with
      | 0 => rfl
      | 1 => rfl
      | 2 => rfl
    next => rfl

theorem works_beforeMetering (x : SecondInputs) (s : State) : Works .filter (s.advanced x) (beforeMetering x s) :=
  works_pressureSample (works_pressureSample (works_pressureSample (.refl _) 0 x.p1) 1 x.p2) 2 x.p3

theorem beforeMetering_filter (x : SecondInputs) (s : State) : (beforeMetering x s).filter =
    { s.filter with p1 := s.filter.p1.sampled x.p1, p2 := s.filter.p2.sampled x.p2, p3 := s.filter.p3.sampled x.p3 } := by
  rw [beforeMetering_eq, samplePressures, pressureSample_filter, pressureSample_filter, pressureSample_filter]
  rfl

theorem Works.onward {p : Part} (h : Works p s t) (hd : t.disc = s.disc) : Onward s t :=
  ⟨fun hf => by rwa [State.discFree, hd] at hf, h.faults.overflow⟩

end

/-! ### The Capacity Unit (R29 to R38) -/

section
variable {own claims : Bool} {s t : State}

theorem hardWater_others (k : Tank) (s : State) : ∃ r n, hardWater k s = { s with cap := { s.cap with recs := r }, notices := n } := by
  unfold hardWater
  dsimp only
  split
  · exact ⟨_, _, rfl⟩
  · exact ⟨s.cap.recs, s.notices, rfl⟩

theorem depleteShare_others (k : Tank) (frozen : Bool) (s : State) :
    ∃ r n, depleteShare k frozen s = { s with cap := { s.cap with recs := r }, notices := n } := by
  unfold depleteShare depleteTank
  dsimp only
  split
  · split
    · obtain ⟨r, n, e⟩ := hardWater_others k (s.withRecord k ((s.record k).deplete s.cap.hEff (s.meter.now.shares.get k)))
      exact ⟨r, n, e⟩
    · exact ⟨_, s.notices, rfl⟩
  · exact ⟨s.cap.recs, s.notices, rfl⟩

/-- The shares of a second taken from the tanks. -/
def State.depleted (frozen : Bool) (s : State) : State := depleteShare .b frozen (depleteShare .a frozen s)

theorem depleted_others (frozen : Bool) (s : State) : ∃ r n, s.depleted frozen = { s with cap := { s.cap with recs := r }, notices := n } := by
  obtain ⟨r, n, e⟩ := depleteShare_others .a frozen s
  obtain ⟨r', n', e'⟩ := depleteShare_others .b frozen (depleteShare .a frozen s)
  refine ⟨r', n', ?_⟩
  rw [State.depleted, e', e]

theorem raiseExhaustion_reacts (s : State) :
    ∃ r, Reacts own claims { s with cap := { s.cap with recs := r } } (raiseExhaustion s) := by
  unfold raiseExhaustion
  split
  · exact ⟨s.cap.recs, .refl⟩
  · dsimp only
    split
    · exact ⟨_, reacts_takeExhaustion .refl _⟩
    · exact ⟨s.cap.recs, .refl⟩

/-- What the sample of a bed probe changes. -/
structure Probed (s t : State) : Prop where
  others : t = { s with cap := t.cap, faults := t.faults, notices := t.notices }
  hEff : t.cap.hEff = s.cap.hEff
  level : ∀ u, t.faults.of .levelSensor u = s.faults.of .levelSensor u
  overflow : s.faults.overflow = true → t.faults.overflow = true

theorem Probed.refl (s : State) : Probed s s := ⟨rfl, rfl, fun _ => rfl, id⟩

theorem Probed.trans {u : State} (h : Probed s t) (h' : Probed t u) : Probed s u := by
  have e := h'.others
  rw [h.others] at e
  exact ⟨e, h'.hEff.trans h.hEff, fun u => (h'.level u).trans (h.level u), h'.overflow ∘ h.overflow⟩

theorem Probed.ite {c : Prop} [Decidable c] {a b : State} (ha : c → Probed s a) (hb : ¬ c → Probed s b) : Probed s (if c then a else b) := by
  split
  · exact ha ‹_›
  · exact hb ‹_›

theorem probed_frontDetected (k : Tank) (s : State) : Probed s (frontDetected k s) := by
  refine .ite (fun _ => ?_) fun _ => .refl s
  obtain ⟨r, n, e⟩ := hardWater_others k (post .frontSeen (.tank k) ((s.record k).front s.settings.inst.probeDepth).learned
    (frontError (s.record k) s.settings.inst.probeDepth) (trueCapacity (s.record k) s.settings.inst.probeDepth)
    ((clearRun k s).withRecord k ((s.record k).front s.settings.inst.probeDepth)))
  rw [e]
  exact ⟨rfl, rfl, fun _ => rfl, id⟩

theorem probed_probeCount (k : Tank) (v : Int) (s : State) : Probed s (probeCount k v s) := by
  have counted (n : Nat) : Probed s { s with cap := { s.cap with runs := s.cap.runs.set k n } } := ⟨rfl, rfl, fun _ => rfl, id⟩
  exact (counted _).trans (probed_frontDetected k _)

theorem probed_probeSecond (k : Tank) (v : Int) (s : State) : Probed s (probeSecond k v s) := by
  have cleared : Probed s (clearRun k s) := ⟨rfl, rfl, fun _ => rfl, id⟩
  refine .ite (fun _ => .ite (fun _ => .ite (fun _ => cleared) fun _ => cleared.trans ?_) fun _ => .ite (fun _ => ?_) fun _ =>
    probed_probeCount k v s) fun _ => .refl s
  · exact ⟨rfl, rfl, fun u => FaultLog.of_report _ _ _ (.inl (by decide)), FaultLog.report_overflow _ _ _ _ _⟩
  · have gone : Probed s (faultGone .bedProbe (.tank k) { s with cap := { s.cap with probeFault := s.cap.probeFault.set k false } }) :=
      ⟨rfl, rfl, fun u => FaultLog.of_gone _ (.inl (by decide)), id⟩
    exact gone.trans (probed_probeCount k v _)

/-- The capacity stage as far as its exhaustion. -/
def State.shared (frozen : Bool) (s : State) : State := raiseExhaustion (s.depleted frozen)

theorem shared_reacts (frozen : Bool) (s : State) :
    ∃ r n, Reacts own claims { s with cap := { s.cap with recs := r }, notices := n } (s.shared frozen) := by
  obtain ⟨r, n, e⟩ := depleted_others frozen s
  obtain ⟨r', h⟩ := raiseExhaustion_reacts (own := own) (claims := claims) (s.depleted frozen)
  refine ⟨r', n, ?_⟩
  rw [e] at h
  rwa [State.shared, e]

theorem capacitySecond_eq (x : SecondInputs) (frozen : Bool) (s : State) :
    capacitySecond x frozen s = probeSecond .b x.probeB (probeSecond .a x.probeA (s.shared frozen)) := rfl

theorem probed_capacitySecond (x : SecondInputs) (frozen : Bool) (s : State) : Probed (s.shared frozen) (capacitySecond x frozen s) :=
  (probed_probeSecond .a x.probeA _).trans (probed_probeSecond .b x.probeB _)

theorem Probed.gauges (h : Probed s t) :
    t.gauges = { s.gauges with probeFault := t.cap.probeFault, bedRecords := t.faults.of .bedProbe } := by
  rw [State.gauges, h.hEff, funext h.level, h.others]
  rfl

theorem gauges_capacitySecond (x : SecondInputs) (frozen : Bool) (s : State) : (capacitySecond x frozen s).gauges = { s.gauges with
    probeFault := (capacitySecond x frozen s).cap.probeFault, bedRecords := (capacitySecond x frozen s).faults.of .bedProbe } := by
  obtain ⟨r, n, h⟩ := shared_reacts (own := false) (claims := false) frozen s
  rw [(probed_capacitySecond x frozen s).gauges, h.gauges]
  rfl

theorem onward_capacitySecond (x : SecondInputs) (frozen : Bool) (s : State) : Onward s (capacitySecond x frozen s) := by
  obtain ⟨r, n, h⟩ := shared_reacts (own := false) (claims := false) frozen s
  have probed := probed_capacitySecond x frozen s
  have on : Onward (s.shared frozen) (capacitySecond x frozen s) := ⟨fun hf => by rw [probed.others] at hf; exact hf, probed.overflow⟩
  exact ⟨h.onward.free ∘ on.free, on.overflow ∘ h.onward.overflow⟩

end

/-! ### The Brine Monitor (R91, R92, R97) -/

section
variable {s t : State}

/-- What the level probe changes. -/
structure Levelled (s t : State) : Prop where
  others : t = { s with
    brine := { s.brine with
      level := t.brine.level, levelFault := t.brine.levelFault, restartLevel := t.brine.restartLevel, measure := t.brine.measure }
    faults := t.faults, notices := t.notices }
  bed : ∀ u, t.faults.of .bedProbe u = s.faults.of .bedProbe u
  overflow : s.faults.overflow = true → t.faults.overflow = true

theorem levelled_levelSecond (x : Int) (s : State) : Levelled s (levelSecond x s) := by
  unfold levelSecond levelSample
  dsimp only
  split
  · split
    · split
      · exact ⟨rfl, fun u => FaultLog.of_gone _ (.inl (by decide)), id⟩
      · exact ⟨rfl, fun _ => rfl, id⟩
    · split
      · exact ⟨rfl, fun _ => rfl, id⟩
      · exact ⟨rfl, fun u => FaultLog.of_report _ _ _ (.inl (by decide)), FaultLog.report_overflow _ _ _ _ _⟩
  · exact ⟨rfl, fun _ => rfl, id⟩

theorem refillSecond_others (v : Nat) (s : State) : ∃ r l, refillSecond v s = { s with brine := { s.brine with refill := r, lastRefill := l } } := by
  unfold refillSecond
  split
  · split
    · exact ⟨_, s.brine.lastRefill, rfl⟩
    next hr =>
      split
      · exact ⟨s.brine.refill, _, rfl⟩
      · exact ⟨s.brine.refill, s.brine.lastRefill, rfl⟩
  · exact ⟨s.brine.refill, s.brine.lastRefill, rfl⟩

/-- The Brine Monitor's second after its level sample. -/
theorem brineSecond_others (x : SecondInputs) (s : State) : ∃ b l n,
    brineSecond x s = { levelSecond x.level s with brine := b, faults := l, notices := n }
    ∧ b.level = (levelSecond x.level s).brine.level ∧ b.levelFault = (levelSecond x.level s).brine.levelFault
    ∧ b.restartLevel = (levelSecond x.level s).brine.restartLevel ∧ b.measure = (levelSecond x.level s).brine.measure
    ∧ (levelSecond x.level s).faults.KeepsProbes l := by
  obtain ⟨r, m, filled⟩ := refillSecond_others s.meter.now.vProc (levelSecond x.level s)
  have work := works_saltSecond (.refl (refillSecond s.meter.now.vProc (levelSecond x.level s))) x.saltDistance
  obtain ⟨e, water⟩ := work.salt_eq
  have faults := work.faults
  rw [filled] at e water faults
  have second : brineSecond x s = saltSecond x.saltDistance { levelSecond x.level s with
      brine := { (levelSecond x.level s).brine with refill := r, lastRefill := m } } := congrArg (saltSecond x.saltDistance) filled
  rw [← second] at e water faults
  have level := congrArg Brine.level water
  have fault := congrArg Brine.levelFault water
  have restart := congrArg Brine.restartLevel water
  have measure := congrArg Brine.measure water
  exact ⟨_, _, _, e, level, fault, restart, measure, faults⟩

theorem gauges_brineSecond (x : SecondInputs) (s : State) : (brineSecond x s).gauges = { s.gauges with
    level := (levelSecond x.level s).brine.level, levelFault := (levelSecond x.level s).brine.levelFault
    restartLevel := (levelSecond x.level s).brine.restartLevel, levelRecords := (levelSecond x.level s).faults.of .levelSensor } := by
  obtain ⟨b, l, n, e, level, fault, restart, -, faults⟩ := brineSecond_others x s
  have sampled := levelled_levelSecond x.level s
  rw [e, State.gauges]
  simp only [level, fault, restart, funext faults.level, funext faults.bed, funext sampled.bed]
  rw [sampled.others]
  rfl

theorem onward_brineSecond (x : SecondInputs) (s : State) : Onward s (brineSecond x s) := by
  obtain ⟨b, l, n, e, -, -, -, -, faults⟩ := brineSecond_others x s
  have sampled := levelled_levelSecond x.level s
  have disc : (brineSecond x s).disc = s.disc := by rw [e, sampled.others]
  refine ⟨fun hf => by rwa [State.discFree, disc] at hf, fun ho => ?_⟩
  rw [e]
  exact faults.overflow (sampled.overflow ho)

end

/-! ### The Filter Monitor (R109 to R118) -/

section
variable {own claims : Bool} {s t : State}

/-- The Filter Monitor's counts of a second. -/
def State.screened (s : State) : State :=
  flushSecond s.meter.now.vProc (screenSecond s.meter.now.vTr s.meter.now.vH (indexSecond s.meter.now.vIn s))

theorem filterSecond_eq (s : State) : filterSecond s = flushEnd s.screened := rfl

theorem works_screened (s : State) : Works .filter s s.screened :=
  works_flushSecond (works_screenSecond (works_indexSecond (.refl s) _) _ _) _

/-- The end of a flush: its outcome, the release with what it sets off, and the answers. -/
theorem flushEnd_reacts (s : State) : (flushEnd s = s ∧ ¬ (s.filter.state = .flushing ∧ s.filter.flush.time ≤ s.filter.flush.elapsed)) ∨
    ∃ w l u n, Works .filter s w ∧ w = flushOutcome { s with filter := { s.filter with solenoid := false } }
      ∧ (l = w.line.flush ∨ l = none) ∧ Reacts own claims { w with line := { w.line with flush := l } } u
      ∧ flushEnd s = { u with filter := { u.filter with tag := none }, notices := n }
      ∧ s.filter.state = .flushing ∧ s.filter.flush.time ≤ s.filter.flush.elapsed := by
  unfold flushEnd
  split
  next hc =>
    refine .inr ?_
    have work : Works .filter s (flushOutcome { s with filter := { s.filter with solenoid := false } }) :=
      works_flushOutcome ((Works.refl s).same)
    generalize hw : flushOutcome { s with filter := { s.filter with solenoid := false } } = w at work
    have released : ∃ l, (l = w.line.flush ∨ l = none) ∧ Reacts own claims { w with line := { w.line with flush := l } } (releaseFlush w) := by
      unfold releaseFlush
      split
      · exact ⟨none, .inr rfl, reacts_grantDecision .refl⟩
      · exact ⟨w.line.flush, .inl rfl, .refl⟩
    obtain ⟨l, hl, reacted⟩ := released
    obtain ⟨n, e⟩ := answerFlush_others (decide (1000 ≤ s.filter.flush.volume)) (post .flushDone .none
      (if decide (1000 ≤ s.filter.flush.volume) then 0 else 1) s.filter.flush.volume s.filter.flush.startIndex (releaseFlush w))
    exact ⟨w, l, releaseFlush w, n, work, rfl, hl, reacted, e, hc⟩
  next hc => exact .inl ⟨rfl, hc⟩

theorem Works.gauges_filter (h : Works .filter s t) : t.gauges = { s.gauges with filter := t.filter.counts } := by
  rw [State.gauges, funext h.faults.level, funext h.faults.bed, h.filter_eq]
  rfl

theorem gauges_filterSecond (s : State) : (filterSecond s).gauges = { s.gauges with filter := (filterSecond s).filter.counts } := by
  have screened := (works_screened s).gauges_filter
  rw [filterSecond_eq]
  rcases flushEnd_reacts (own := false) (claims := false) s.screened with ⟨e, -⟩ | ⟨w, l, u, n, work, -, -, reacted, e, -⟩
  · rw [e]
    exact screened
  · have step : (flushEnd s.screened).gauges = { u.gauges with filter := (flushEnd s.screened).filter.counts } := by rw [e]; rfl
    rw [step, reacted.gauges]
    have released : State.gauges { w with line := { w.line with flush := l } } = w.gauges := rfl
    rw [released, work.gauges_filter, screened]

theorem onward_filterSecond (s : State) : Onward s (filterSecond s) := by
  have screened : Onward s s.screened := (works_screened s).onward (by rw [(works_screened s).filter_eq])
  rw [filterSecond_eq]
  rcases flushEnd_reacts (own := false) (claims := false) s.screened with ⟨e, -⟩ | ⟨w, l, u, n, work, -, -, reacted, e, -⟩
  · rw [e]
    exact screened
  · have ended : Onward s.screened w := work.onward (by rw [work.filter_eq])
    rw [e]
    exact screened.trans ⟨ended.free ∘ reacted.onward.free, reacted.onward.overflow ∘ ended.overflow⟩

end

end Sys2Proof.Machine

/-! The stages of a second: the sequencer, midnight, the hour, the calendar and the Leak Monitor. -/

namespace Sys2Proof.Machine

set_option Elab.async false

/-! ### Step timers (R72, R73) -/

/-- What a step's timer and its end change. -/
structure Stepped (k : Tank) (s t : State) : Prop where
  others : t = { s.withTank k (t.tank k) with brine := t.brine, faults := t.faults, notices := t.notices }
  record : t.tank k = { s.tank k with
    elapsed := (t.tank k).elapsed, elapsedMin := (t.tank k).elapsedMin, phase := (t.tank k).phase, haltTag := (t.tank k).haltTag }
  phase : (t.tank k).phase = (s.tank k).phase ∨ (t.tank k).phase = some .stepEnded ∨ (t.tank k).phase = some .halted
  water : t.brine = { s.brine with
    measure := t.brine.measure, draw := t.brine.draw, lastRefill := t.brine.lastRefill, refillEnd := t.brine.refillEnd
    refill := t.brine.refill }
  measure : (s.tank k).step ≠ some .brine → t.brine.measure = s.brine.measure
  faults : s.faults.KeepsProbes t.faults

section
variable {k : Tank} {s t : State}

theorem Stepped.refl (k : Tank) (s : State) : Stepped k s s where
  others := by
    have e : s.withTank k (s.tank k) = s := withTank_self k s
    conv_lhs => rw [← e]
    rfl
  record := rfl
  phase := .inl rfl
  water := rfl
  measure := fun _ => rfl
  faults := .refl _

theorem Stepped.step (h : Stepped k s t) : (t.tank k).step = (s.tank k).step := by rw [h.record]

theorem Stepped.ite {c : Prop} [Decidable c] {a b : State} (ha : c → Stepped k s a) (hb : ¬ c → Stepped k s b) :
    Stepped k s (if c then a else b) := by
  split
  · exact ha ‹_›
  · exact hb ‹_›

/-- A change of the brine record, the Fault Log and the notices after a step's. -/
theorem Stepped.brined (h : Stepped k s t) {b : Brine} {l : FaultLog} {n : NoticeQueue} (hb : b = { t.brine with
      measure := b.measure, draw := b.draw, lastRefill := b.lastRefill, refillEnd := b.refillEnd, refill := b.refill })
    (hm : (s.tank k).step ≠ some .brine → b.measure = t.brine.measure) (hl : t.faults.KeepsProbes l) :
    Stepped k s { t with brine := b, faults := l, notices := n } where
  others := by
    conv_lhs => rw [h.others]
    rfl
  record := h.record
  phase := h.phase
  water := by
    rw [h.water] at hb
    exact hb
  measure := fun hs => (hm hs).trans (h.measure hs)
  faults := h.faults.trans hl

theorem Stepped.tanked (h : Stepped k s t) {r : TankRecord} {n : NoticeQueue}
    (hr : r = { t.tank k with elapsed := r.elapsed, elapsedMin := r.elapsedMin, phase := r.phase, haltTag := r.haltTag })
    (hp : r.phase = (t.tank k).phase ∨ r.phase = some .stepEnded ∨ r.phase = some .halted) :
    Stepped k s { t.withTank k r with notices := n } where
  others := by
    have e : State.tank { t.withTank k r with notices := n } k = r := PerTank.get_set_same _ _ _
    rw [e]
    have first : { t.withTank k r with notices := n } = { (s.withTank k (t.tank k)).withTank k r with
        brine := t.brine, faults := t.faults, notices := n } := by
      conv_lhs => rw [h.others]
      rfl
    rw [withTank_withTank] at first
    exact first
  record := by
    rw [show State.tank { t.withTank k r with notices := n } k = r from PerTank.get_set_same _ _ _]
    rw [h.record] at hr
    exact hr
  phase := by
    rw [show State.tank { t.withTank k r with notices := n } k = r from PerTank.get_set_same _ _ _]
    rcases hp with hp | hp
    · rw [hp]
      exact h.phase
    · exact .inr hp
  water := h.water
  measure := h.measure
  faults := h.faults

theorem stepped_changeTank (h : Stepped k s t) {r : TankRecord}
    (hr : r = { t.tank k with elapsed := r.elapsed, elapsedMin := r.elapsedMin, phase := r.phase, haltTag := r.haltTag })
    (hp : r.phase = (t.tank k).phase ∨ r.phase = some .stepEnded ∨ r.phase = some .halted) : Stepped k s (changeTank k r t) := by
  obtain ⟨n, e⟩ := changeTank_notices k r t
  rw [e]
  exact h.tanked hr hp

theorem stepped_requestDoneIf (h : Stepped k s t) (x : Subject) (g : Option Byte) (m : Nat) (o : DoneOutcome) (v : Int) :
    Stepped k s (requestDoneIf x g m o v t) := by
  cases g with
  | none => exact h
  | some => exact h.brined rfl (fun _ => rfl) (.refl _)

theorem stepped_faultReport (h : Stepped k s t) {c : FaultCode} (x : Subject) (d : Int) (hc : c.probes = false) :
    Stepped k s (faultReport c x d t) := h.brined rfl (fun _ => rfl) (t.faults.keepsProbes_report x d t.now hc)

theorem stepped_faultGone (h : Stepped k s t) {c : FaultCode} (x : Subject) (hc : c.probes = false) :
    Stepped k s (faultGone c x t) := h.brined rfl (fun _ => rfl) (t.faults.keepsProbes_gone x hc)

theorem stepped_judgeDraw (h : Stepped k s t) (hk : (s.tank k).step = some .brine) : Stepped k s (judgeDraw t) := by
  have judged (m : BrineMeasure) : Stepped k s { t with brine := { t.brine with measure := some m } } :=
    h.brined rfl (fun hn => absurd hk hn) (.refl _)
  unfold judgeDraw
  split
  · exact h
  · exact .ite (fun _ => judged _) fun _ => .ite (fun _ => stepped_faultReport (judged _) _ _ rfl)
      fun _ => stepped_faultGone (judged _) _ rfl

theorem stepped_stepReported (h : Stepped k s t) : Stepped k s (stepReported (t.tank k).step t) := by
  unfold stepReported
  split
  next hb =>
    have hk : (s.tank k).step = some .brine := h.step.symm.trans hb
    unfold brineEnd
    split
    · exact h
    · exact h.brined rfl (fun hn => absurd hk hn) (.refl _)
  next =>
    unfold refillEnd
    split
    · exact h
    · exact h.brined rfl (fun _ => rfl) (.refl _)
  next => exact h

theorem stepped_endStep (h : Stepped k s t) : Stepped k s (endStep k t) := by
  have shorted : Stepped k s (if (t.tank k).step = some .refill then (if refillReached k t then faultGone .refillShort (.tank k) t
      else faultReport .refillShort (.tank k) (refillVolume t) t) else t) :=
    .ite (fun _ => .ite (fun _ => stepped_faultGone h _ rfl) fun _ => stepped_faultReport h _ _ rfl) fun _ => h
  have reported := stepped_stepReported shorted
  exact .ite (fun _ => stepped_requestDoneIf (stepped_changeTank reported rfl (.inr (.inr rfl))) _ _ _ _ _)
    fun _ => stepped_changeTank reported rfl (.inr (.inl rfl))

theorem stepped_brine1200 (h : Stepped k s t) : Stepped k s (brine1200 k t) := by
  refine .ite (fun hc => stepped_judgeDraw h ?_) fun _ => h
  simp only [Bool.and_eq_true, beq_iff_eq] at hc
  exact h.step.symm.trans hc.1.1.2

theorem stepSecond_idle (h : stepRuns k s = false) : stepSecond k s = s := if_neg (by rw [h]; exact Bool.false_ne_true)

theorem stepped_stepSecond (k : Tank) (s : State) : Stepped k s (stepSecond k s) := by
  refine .ite (fun _ => ?_) fun _ => .refl k s
  have counted (e m : Nat) : Stepped k s (s.withTank k { s.tank k with elapsed := e, elapsedMin := m }) :=
    (Stepped.refl k s).tanked (n := s.notices) rfl (.inl rfl)
  have judged := stepped_brine1200 (counted ((s.tank k).elapsed + 1) (((s.tank k).elapsed + 1) / 60))
  exact .ite (fun _ => stepped_endStep judged) fun _ => judged

theorem stepRuns_iff (k : Tank) (s : State) : stepRuns k s = true ↔ (s.tank k).service = .regenerating ∧ (s.tank k).phase = some .inStep
    ∧ (s.tank k).claim = .granted ∧ s.supply.state = .mains ∧ s.valve.state = .opened ∧ s.discFree = true := by
  simp only [stepRuns, lineConditions, Bool.and_eq_true, beq_iff_eq, and_assoc]

theorem Stepped.gauges (h : Stepped k s t) : t.gauges = s.gauges := by
  have level : t.brine.level = s.brine.level := by rw [h.water]
  have fault : t.brine.levelFault = s.brine.levelFault := by rw [h.water]
  have restart : t.brine.restartLevel = s.brine.restartLevel := by rw [h.water]
  rw [State.gauges, level, fault, restart, funext h.faults.level, funext h.faults.bed, h.others]
  rfl

theorem Stepped.onward (h : Stepped k s t) : Onward s t :=
  ⟨fun hf => by rw [h.others] at hf; exact hf, h.faults.overflow⟩

end

/-! ### The sequencer's second (R62, R63, R66, R69 to R74) -/

section
variable {own claims : Bool} {s t : State}

/-- The sequencer's second as far as the pending claims. -/
def State.timed (s : State) : State :=
  lineBusy .b (lineBusy .a { s with seq := { s.seq with
    timing := s.settings.user.soft.timing, windowHour := s.settings.user.soft.windowHour } })

theorem sequencerSecond_eq (s : State) : sequencerSecond s =
    changeoverBegin (waitingMoves (dwellSecond (stepSecond .b (stepSecond .a s.timed)))) := rfl

theorem timed_reacts (s : State) : Reacts own claims { s with seq := { s.seq with
    timing := s.settings.user.soft.timing, windowHour := s.settings.user.soft.windowHour } } s.timed :=
  reacts_lineBusy (reacts_lineBusy .refl .a) .b

theorem dwellSecond_idle (h : ∀ c, s.seq.changeover = some c → c.phase ≠ .dwell ∨ s.supply.state ≠ .mains) : dwellSecond s = s := by
  unfold dwellSecond
  split
  next c hc => exact if_neg fun hp => (h c hc).elim (fun n => n hp.1) fun n => n hp.2
  next => rfl

/-- The second of a dwell on MAINS: counted, and at the overlap the move to HOLD asked for (R63). -/
theorem dwellSecond_counts {c : Changeover} (hc : s.seq.changeover = some c) (hp : c.phase = .dwell) (hm : s.supply.state = .mains)
    (hd : c.dwell + 1 < s.settings.inst.overlap) :
    dwellSecond s = { s with seq := { s.seq with changeover := some { c with dwell := c.dwell + 1 } } } := by
  unfold dwellSecond
  rw [hc]
  dsimp only
  rw [if_pos ⟨hp, hm⟩, dwellEnd]
  dsimp only
  rw [if_neg fun h => Nat.not_le.2 hd h.2.2]

theorem dwellSecond_ends {c : Changeover} (hc : s.seq.changeover = some c) (hp : c.phase = .dwell) (hm : s.supply.state = .mains)
    (hd : s.settings.inst.overlap ≤ c.dwell + 1) : dwellSecond s = askMove (holdPosition c.outgoing)
      { s with seq := { s.seq with changeover := some { c with phase := .toHold, dwell := c.dwell + 1 } } } := by
  unfold dwellSecond
  rw [hc]
  dsimp only
  rw [if_pos ⟨hp, hm⟩, dwellEnd]
  dsimp only
  rw [if_pos ⟨hp, hm, hd⟩]

theorem dwellSecond_reacts (s : State) :
    ∃ q, Reacts own claims { s with seq := { s.seq with changeover := q } } (dwellSecond s) := by
  by_cases hi : ∀ c, s.seq.changeover = some c → c.phase ≠ .dwell ∨ s.supply.state ≠ .mains
  · exact ⟨s.seq.changeover, by rw [dwellSecond_idle hi]⟩
  · simp only [not_forall, not_or, not_not] at hi
    obtain ⟨c, hc, hp, hm⟩ := hi
    rcases Nat.lt_or_ge (c.dwell + 1) s.settings.inst.overlap with hd | hd
    · exact ⟨_, by rw [dwellSecond_counts hc hp hm hd]⟩
    · exact ⟨some { c with phase := .toHold, dwell := c.dwell + 1 }, by
        rw [dwellSecond_ends hc hp hm hd]
        exact reacts_askMove .refl (State.awaits_changeover (Option.some_ne_none _))⟩

theorem moved_reacts (s : State) : Reacts own claims s (changeoverBegin (waitingMoves s)) :=
  reacts_changeoverBegin (reacts_waitingMoves .refl)

theorem dwellSecond_gauges (s : State) : (dwellSecond s).gauges = s.gauges := by
  obtain ⟨q, dwelt⟩ := dwellSecond_reacts (own := false) (claims := false) s
  exact dwelt.gauges

theorem dwellSecond_onward (s : State) : Onward s (dwellSecond s) := by
  obtain ⟨q, dwelt⟩ := dwellSecond_reacts (own := false) (claims := false) s
  exact ⟨dwelt.onward.free, dwelt.onward.overflow⟩

theorem gauges_sequencerSecond (s : State) : (sequencerSecond s).gauges = { s.gauges with
    timing := s.settings.user.soft.timing, windowHour := s.settings.user.soft.windowHour } := by
  rw [sequencerSecond_eq, (moved_reacts (own := false) (claims := false) _).gauges, dwellSecond_gauges,
    (stepped_stepSecond .b _).gauges, (stepped_stepSecond .a _).gauges, (timed_reacts (own := false) (claims := false) s).gauges]
  rfl

theorem onward_sequencerSecond (s : State) : Onward s (sequencerSecond s) := by
  have started := (timed_reacts (own := false) (claims := false) s).onward
  have timed : Onward s s.timed := ⟨started.free, started.overflow⟩
  have stepped := (stepped_stepSecond .a s.timed).onward.trans (stepped_stepSecond .b _).onward
  exact ((timed.trans stepped).trans (dwellSecond_onward _)).trans (moved_reacts (own := false) (claims := false) _).onward

end

/-! ### Midnight, the hour and the calendar (R13, R14, R67, R68) -/

section
variable {own claims : Bool} {s t : State}

theorem midnight_others (s : State) : ∃ w o f e b l n, midnight s = { s with
      clock := { s.clock with midnightDue := false }, meter := { s.meter with week := w, openDay := o }, filter := f
      valve := { s.valve with exerciseDays := e }, brine := b, faults := l, notices := n }
    ∧ b.water = s.brine.water ∧ s.faults.KeepsProbes l := by
  unfold midnight
  split
  next =>
    have filtered := works_filterMidnight (.refl (closeDay { s with clock := { s.clock with midnightDue := false } }))
    generalize filterMidnight (closeDay { s with clock := { s.clock with midnightDue := false } }) = v at filtered
    have salted := works_brineMidnight (.refl (exerciseMidnight v))
    generalize brineMidnight (exerciseMidnight v) = u at salted
    obtain ⟨e, water⟩ := salted.salt_eq
    have faults : s.faults.KeepsProbes u.faults := filtered.faults.trans salted.faults
    have opened := filtered.filter_eq
    have brine : v.brine = s.brine := by rw [opened]; rfl
    have water : u.brine.water = s.brine.water := water.trans (congrArg Brine.water brine)
    rw [exerciseMidnight, opened] at e
    exact ⟨_, _, v.filter, satAdd 65535 s.valve.exerciseDays 1, u.brine, u.faults, u.notices, e, water, faults⟩
  next hd =>
    refine ⟨s.meter.week, s.meter.openDay, s.filter, s.valve.exerciseDays, s.brine, s.faults, s.notices, ?_, rfl, .refl _⟩
    have clock : s.clock = { s.clock with midnightDue := false } := by rw [← Bool.eq_false_iff.mpr hd]
    rw [← clock]

theorem gauges_midnight (s : State) : (midnight s).gauges = { s.gauges with
    clock := { s.clock with midnightDue := false }, meter := (midnight s).meter, filter := (midnight s).filter.counts } := by
  obtain ⟨w, o, f, e, b, l, n, eq, water, faults⟩ := midnight_others s
  have level := congrArg Brine.level water
  have fault := congrArg Brine.levelFault water
  have restart := congrArg Brine.restartLevel water
  simp only [Brine.water] at level fault restart
  rw [eq, State.gauges]
  simp only [level, fault, restart, funext faults.level, funext faults.bed]
  rfl

theorem onward_midnight (s : State) : Onward s (midnight s) := by
  obtain ⟨w, o, f, e, b, l, n, eq, -, faults⟩ := midnight_others s
  rw [eq]
  exact ⟨id, faults.overflow⟩

theorem serviceHour_others (k : Tank) (s : State) : ∃ h, serviceHour k s = s.withTank k { s.tank k with hours := h } := by
  unfold serviceHour
  dsimp only
  split
  · exact ⟨_, rfl⟩
  · exact ⟨(s.tank k).hours, (withTank_self k s).symm⟩

theorem maxServiceDays_reacts (s : State) : Reacts own claims s (maxServiceDays s) := by
  unfold maxServiceDays
  dsimp only
  split
  · exact reacts_ite (fun _ => reacts_takeExhaustion .refl _) fun _ => .refl
  · exact .refl

theorem projectionHour_reacts (h : Reacts own claims s t) (k : Tank) : Reacts own claims s (projectionHour k t) :=
  reacts_ite (fun _ => reacts_askProjection h k) fun _ => h

/-- The hour close: the Metering Unit's part, the service hours, and what their limit and the projections set off. -/
theorem hourClose_reacts (s : State) : ∃ i y n k g h, Reacts own claims { s with
    clock := { s.clock with hourDue := false }, meter := { s.meter with hour := i, history := y }
    seq := { s.seq with tanks := ⟨{ s.tank .a with hours := g }, { s.tank .b with hours := h }⟩ }, notices := n, link := k } (hourClose s) := by
  unfold hourClose
  split
  next =>
    obtain ⟨y, n, k, e, -⟩ := closeHour_others { s with clock := { s.clock with hourDue := false } }
    obtain ⟨g, first⟩ := serviceHour_others .a (closeHour { s with clock := { s.clock with hourDue := false } })
    obtain ⟨h, second⟩ := serviceHour_others .b (serviceHour .a (closeHour { s with clock := { s.clock with hourDue := false } }))
    rw [first, e] at second
    rw [e] at first
    refine ⟨{ day := s.clock.day, hour := s.clock.second / 3600, recordable := !s.clock.unset }, y, n, k, g, h, ?_⟩
    rw [sequencerHour, e, first, second]
    exact projectionHour_reacts (projectionHour_reacts (maxServiceDays_reacts _) .a) .b
  next hd =>
    refine ⟨s.meter.hour, s.meter.history, s.notices, s.link, (s.tank .a).hours, (s.tank .b).hours, ?_⟩
    have clock : s.clock = { s.clock with hourDue := false } := by rw [← Bool.eq_false_iff.mpr hd]
    rw [← clock]
    exact .refl

theorem gauges_hourClose (s : State) : (hourClose s).gauges = { s.gauges with
    clock := { s.clock with hourDue := false }, meter := (hourClose s).meter } := by
  obtain ⟨i, y, n, k, g, h, reacted⟩ := hourClose_reacts (own := false) (claims := false) s
  have meter := congrArg Gauges.meter reacted.gauges
  have meter : (hourClose s).meter = { s.meter with hour := i, history := y } := meter
  rw [reacted.gauges, meter]
  rfl

theorem onward_hourClose (s : State) : Onward s (hourClose s) := by
  obtain ⟨i, y, n, k, g, h, reacted⟩ := hourClose_reacts (own := false) (claims := false) s
  exact ⟨reacted.onward.free, reacted.onward.overflow⟩

theorem calendarSecond_reacts (s : State) : ∃ c, Reacts own claims { s with seq := { s.seq with calendar := c } } (calendarSecond s) := by
  unfold calendarSecond
  split
  · unfold calendarFallback
    split
    · dsimp only
      split
      · exact ⟨0, reacts_takeExhaustion .refl _⟩
      · exact ⟨0, .refl⟩
    · exact ⟨_, .refl⟩
  · exact ⟨s.seq.calendar, .refl⟩

theorem gauges_calendarSecond (s : State) : (calendarSecond s).gauges = { s.gauges with calendar := (calendarSecond s).seq.calendar } := by
  obtain ⟨c, reacted⟩ := calendarSecond_reacts (own := false) (claims := false) s
  have calendar := congrArg Gauges.calendar reacted.gauges
  have calendar : (calendarSecond s).seq.calendar = c := calendar
  rw [reacted.gauges, calendar]
  rfl

theorem onward_calendarSecond (s : State) : Onward s (calendarSecond s) := by
  obtain ⟨c, reacted⟩ := calendarSecond_reacts (own := false) (claims := false) s
  exact ⟨reacted.onward.free, reacted.onward.overflow⟩

end

/-! ### The Leak Monitor (R122 to R136) -/

section
variable {claims : Bool} {s t : State}

/-- The detector's second: its count, what a trip sets off, and the end of an event. -/
theorem detectorSecond_reacts (v : Nat) (held : Bool) (s : State) : ∃ d u e,
    Reacts true claims { s with leak := { s.leak with detector := d } } u
    ∧ detectorSecond v held s = { u with leak := { u.leak with detector := e } } := by
  unfold detectorSecond
  dsimp only
  split
  next => exact ⟨_, _, _, .refl, rfl⟩
  next =>
    split
    next =>
      unfold eventBegin
      dsimp only
      split
      · exact ⟨_, _, _, reacts_flowTrip .refl held, rfl⟩
      · exact ⟨_, _, _, .refl, rfl⟩
    next set _ =>
      unfold eventEnd
      dsimp only
      split
      · exact ⟨s.leak.detector.flowSecond set v, _, _, reacts_flowTrip .refl held, rfl⟩
      · exact ⟨s.leak.detector.flowSecond set v, _, _, reacts_flowTrip .refl held, rfl⟩

/-- What follows the detector in the Leak Monitor's second. -/
theorem leakSecond_reacts (frozen : Bool) (s : State) : Reacts true claims (detectorSecond s.meter.now.vH frozen s) (leakSecond frozen s) :=
  reacts_offCue (reacts_testMinuteReached (reacts_testSecond .refl))

theorem gauges_leakSecond (frozen : Bool) (s : State) :
    (leakSecond frozen s).gauges = { s.gauges with detector := (detectorSecond s.meter.now.vH frozen s).leak.detector } := by
  obtain ⟨d, u, e, reacted, eq⟩ := detectorSecond_reacts (claims := false) s.meter.now.vH frozen s
  have detected : (detectorSecond s.meter.now.vH frozen s).gauges = { u.gauges with detector := e } := by rw [eq]; rfl
  rw [(leakSecond_reacts (claims := false) frozen s).gauges, detected, reacted.gauges, eq]
  rfl

theorem onward_leakSecond (frozen : Bool) (s : State) : Onward s (leakSecond frozen s) := by
  obtain ⟨d, u, e, reacted, eq⟩ := detectorSecond_reacts (claims := false) s.meter.now.vH frozen s
  have after := (leakSecond_reacts (claims := false) frozen s).onward
  rw [eq] at after
  exact ⟨reacted.onward.free ∘ after.free, after.overflow ∘ reacted.onward.overflow⟩

end

end Sys2Proof.Machine

/-! A whole second by its gauges, and the conditions of the Metering Unit: O8. -/

namespace Sys2Proof.Machine

set_option Elab.async false

/-! ### The second as a chain of stages -/

theorem State.gauges_meter {s : State} {g : Gauges} (h : s.gauges = g) : s.meter = g.meter := congrArg Gauges.meter h

theorem State.gauges_settings {s : State} {g : Gauges} (h : s.gauges = g) : s.settings = g.settings := congrArg Gauges.settings h

section
variable {s : State} {x : SecondInputs} {f : Bool}

/-- The state after the metering stage of a second. -/
def State.metered (x : SecondInputs) (s : State) : State := meteringWork x.pulsesIn x.pulsesProc (beforeMetering x s)

/-- The state after the sequencer's stage. -/
@[irreducible] def State.worked (x : SecondInputs) (f : Bool) (s : State) : State :=
  sequencerSecond (filterSecond (brineSecond x (capacitySecond x f s)))

/-- The state after the clock's stages. -/
@[irreducible] def State.clocked (x : SecondInputs) (f : Bool) (s : State) : State := calendarSecond (hourClose (midnight (s.worked x f)))

/-- The state after the Leak Monitor's stage. -/
@[irreducible] def State.watched (x : SecondInputs) (f : Bool) (s : State) : State := leakSecond f (exerciseSecond (s.clocked x f))

theorem afterMetering_eq (x : SecondInputs) (f : Bool) (s : State) :
    afterMetering x f s = follow (voltageSteady (enrolSecond (s.watched x f))) := by
  unfold State.watched State.clocked State.worked afterMetering
  with_reducible rfl

theorem runSecond_eq (x : SecondInputs) (s : State) : runSecond x s = afterMetering x (secondFrozen x s) (s.metered x) :=
  runSecond_stages x s

/-- A metering second leads to the state of its stages, but for the note of the last group. -/
theorem exec_second (x : SecondInputs) (h : s.stopped = false) : ∃ b, exec (.meteringSecond x) s =
    .next { afterMetering x (secondFrozen x s) (s.metered x) with before := b } := by
  rw [← runSecond_eq]
  exact ⟨_, whenOn_running h (runSecond x)⟩

theorem steadied_reacts (s : State) : Reacts true false s (voltageSteady (enrolSecond s)) := reacts_voltageSteady (reacts_enrolSecond .refl)

theorem followed_reacts (s : State) : Reacts false true s (follow s) := reacts_follow .refl

theorem exercised_reacts (s : State) : Reacts true false s (exerciseSecond s) := reacts_exerciseSecond .refl

theorem gauges_afterMetering (x : SecondInputs) (f : Bool) (s : State) : (afterMetering x f s).gauges = (s.watched x f).gauges := by
  have followed := (followed_reacts (voltageSteady (enrolSecond (s.watched x f)))).gauges
  have steadied := (steadied_reacts (s.watched x f)).gauges
  rw [afterMetering_eq]
  exact followed.trans steadied

/-- The Leak Monitor's stage after the exercise's. -/
theorem gauges_leakStage (f : Bool) (c : State) : (leakSecond f (exerciseSecond c)).gauges = { c.gauges with
    detector := (detectorSecond c.meter.now.vH f (exerciseSecond c)).leak.detector } := by
  have exercised := (exercised_reacts c).gauges
  have meter : (exerciseSecond c).meter = c.meter := congrArg Gauges.meter exercised
  have e := gauges_leakSecond f (exerciseSecond c)
  generalize exerciseSecond c = v at *
  rw [e, exercised, meter]

theorem onward_exerciseSecond (s : State) : Onward s (exerciseSecond s) := (exercised_reacts s).onward

theorem onward_steadied (s : State) : Onward s (voltageSteady (enrolSecond s)) := (steadied_reacts s).onward

theorem onward_follow (s : State) : Onward s (follow s) := (followed_reacts s).onward

theorem onward_afterBrine (x : SecondInputs) (f : Bool) (s : State) : Onward (brineSecond x (capacitySecond x f s)) (afterMetering x f s) := by
  have worked : Onward (brineSecond x (capacitySecond x f s)) (s.worked x f) := by
    unfold State.worked
    exact (onward_filterSecond _).trans (onward_sequencerSecond _)
  have clocked : Onward (brineSecond x (capacitySecond x f s)) (s.clocked x f) := by
    unfold State.clocked
    exact ((worked.trans (onward_midnight _)).trans (onward_hourClose _)).trans (onward_calendarSecond _)
  have watched : Onward (brineSecond x (capacitySecond x f s)) (s.watched x f) := by
    unfold State.watched
    have exercised := onward_exerciseSecond (s.clocked x f)
    exact (clocked.trans exercised).trans (onward_leakSecond f (exerciseSecond (s.clocked x f)))
  rw [afterMetering_eq]
  generalize s.watched x f = w at *
  exact (watched.trans (onward_steadied w)).trans (onward_follow (voltageSteady (enrolSecond w)))

theorem onward_afterCapacity (x : SecondInputs) (f : Bool) (s : State) : Onward (capacitySecond x f s) (afterMetering x f s) :=
  (onward_brineSecond x _).trans (onward_afterBrine x f s)

theorem onward_afterMetering (x : SecondInputs) (f : Bool) (s : State) : Onward s (afterMetering x f s) :=
  (onward_capacitySecond x f s).trans (onward_afterCapacity x f s)

theorem gauges_filterStage (x : SecondInputs) (c : State) : ∃ g : Gauges, (filterSecond (brineSecond x c)).gauges = { c.gauges with
    level := g.level, levelFault := g.levelFault, restartLevel := g.restartLevel, levelRecords := g.levelRecords, filter := g.filter } := by
  refine ⟨{ c.gauges with
    level := (levelSecond x.level c).brine.level, levelFault := (levelSecond x.level c).brine.levelFault
    restartLevel := (levelSecond x.level c).brine.restartLevel, levelRecords := (levelSecond x.level c).faults.of .levelSensor
    filter := (filterSecond (brineSecond x c)).filter.counts }, ?_⟩
  rw [gauges_filterSecond, gauges_brineSecond]

theorem gauges_worked (x : SecondInputs) (f : Bool) (s : State) : ∃ g : Gauges, (s.worked x f).gauges = { s.gauges with
    probeFault := g.probeFault, bedRecords := g.bedRecords, level := g.level, levelFault := g.levelFault, restartLevel := g.restartLevel
    levelRecords := g.levelRecords, filter := g.filter, timing := s.settings.user.soft.timing
    windowHour := s.settings.user.soft.windowHour } := by
  have capacity := gauges_capacitySecond x f s
  obtain ⟨g, filter⟩ := gauges_filterStage x (capacitySecond x f s)
  rw [capacity] at filter
  refine ⟨{ g with probeFault := (capacitySecond x f s).cap.probeFault, bedRecords := (capacitySecond x f s).faults.of .bedProbe }, ?_⟩
  unfold State.worked
  rw [gauges_sequencerSecond, filter, State.gauges_settings filter]
  rfl

theorem gauges_clocked (x : SecondInputs) (f : Bool) (s : State) : (s.clocked x f).gauges = { (s.worked x f).gauges with
    clock := { s.clock with midnightDue := false, hourDue := false }, meter := (hourClose (midnight (s.worked x f))).meter
    filter := (midnight (s.worked x f)).filter.counts, calendar := (s.clocked x f).seq.calendar } := by
  obtain ⟨g, worked⟩ := gauges_worked x f s
  have clock : (s.worked x f).clock = s.clock := congrArg Gauges.clock worked
  rw [State.clocked]
  generalize s.worked x f = w at *
  have midnight_gauges := gauges_midnight w
  generalize midnight w = m at *
  have midnight_clock : m.clock = { w.clock with midnightDue := false } := congrArg Gauges.clock midnight_gauges
  have hour := gauges_hourClose m
  generalize hourClose m = h at *
  rw [gauges_calendarSecond, hour, midnight_gauges, midnight_clock, clock]

/-- The end of a second by its clock's stages. -/
theorem gauges_second (x : SecondInputs) (f : Bool) (s : State) : (afterMetering x f s).gauges = { (s.clocked x f).gauges with
    detector := (detectorSecond (s.clocked x f).meter.now.vH f (exerciseSecond (s.clocked x f))).leak.detector } := by
  have watched : s.watched x f = leakSecond f (exerciseSecond (s.clocked x f)) := by rw [State.watched]
  rw [gauges_afterMetering, watched]
  exact gauges_leakStage f _

theorem afterMetering_clockedMeter (x : SecondInputs) (f : Bool) (s : State) :
    (afterMetering x f s).meter = (hourClose (midnight (s.worked x f))).meter := by
  have clocked := gauges_clocked x f s
  rw [State.gauges_meter (gauges_second x f s), clocked]

/-- The Metering Unit's record after a second: the day and the hour apart, as the metering stage leaves it. -/
theorem afterMetering_meter (x : SecondInputs) (f : Bool) (s : State) : ∃ w o i y, (afterMetering x f s).meter =
    { s.meter with week := w, openDay := o, hour := i, history := y } := by
  obtain ⟨g, worked⟩ := gauges_worked x f s
  have meter : (s.worked x f).meter = s.meter := congrArg Gauges.meter worked
  obtain ⟨w, o, fl, e, b, l, n, eq, -, -⟩ := midnight_others (s.worked x f)
  obtain ⟨i, y, m, k, g', h', reacted⟩ := hourClose_reacts (own := false) (claims := false) (midnight (s.worked x f))
  have closed : (hourClose (midnight (s.worked x f))).meter = { (midnight (s.worked x f)).meter with hour := i, history := y } :=
    congrArg Gauges.meter reacted.gauges
  refine ⟨w, o, i, y, ?_⟩
  rw [afterMetering_clockedMeter, closed, eq, meter]

theorem afterMetering_settings (x : SecondInputs) (f : Bool) (s : State) : (afterMetering x f s).settings = s.settings := by
  obtain ⟨g, worked⟩ := gauges_worked x f s
  have clocked := gauges_clocked x f s
  rw [State.gauges_settings (gauges_second x f s), clocked, worked]
  rfl

end

end Sys2Proof.Machine

/-! The Filter Monitor's record after each of its operations in a second. -/

namespace Sys2Proof.Machine

set_option Elab.async false

section
variable {s : State}

/-! ### The filter state and the cartridge (R111, R118) -/

/-- The record with its state evaluated, outside a flush (R111). -/
def Filter.evaluated (f : Filter) (c : FilterSettings) : Filter :=
  if f.state = .flushing then f else { f with state := evaluatedState f c, due := f.dueAfter (evaluatedState f c) }

theorem filterEvaluate_filter (s : State) : (filterEvaluate s).filter = s.filter.evaluated s.settings.user.filter := by
  unfold filterEvaluate Filter.evaluated
  split
  · rfl
  · rw [filterEvaluateNow, setFilter_others]

/-- An evaluation changes the state and the due set alone. -/
theorem Filter.evaluated_others (f : Filter) (c : FilterSettings) : ∃ n d, f.evaluated c = { f with state := n, due := d } := by
  unfold Filter.evaluated
  split
  · exact ⟨f.state, f.due, rfl⟩
  · exact ⟨_, _, rfl⟩

theorem Filter.evaluated_state {f : Filter} {c : FilterSettings} (h : f.state ≠ .flushing) : (f.evaluated c).state = evaluatedState f c := by
  rw [Filter.evaluated, if_neg h]

theorem cartridgeDue_filter (n : Nat) (b : Bool) (s : State) :
    (cartridgeDue n b s).filter = { s.filter with cartDue := s.filter.cartDue || b } := by
  unfold cartridgeDue
  split
  next h =>
    simp only [Bool.and_eq_true] at h
    rw [h.1, Bool.or_true]
    rfl
  next h =>
    have same : (s.filter.cartDue || b) = s.filter.cartDue := by
      cases hd : s.filter.cartDue
      · simpa [hd] using h
      · rfl
    rw [same]

/-! ### The index (R109, R110) -/

/-- The record after a qualifying second's update (R110). -/
def Filter.indexed (f : Filter) (qRef q : Nat) : Filter :=
  { f with
    flowHold := 30, rs10 := smoothed f (resistance f qRef q), acq := if f.acq < 60 then f.acq + 1 else f.acq
    baseline := if f.acq = 59 then smoothed f (resistance f qRef q) / 10 else f.baseline, baselineDue := false }

theorem indexSecond_holds {q : Nat} (h : flowHoldAfter s.filter q s.settings.user.filter.qMin ≠ 30) : (indexSecond q s).filter =
    { s.filter with flowHold := flowHoldAfter s.filter q s.settings.user.filter.qMin } := by
  rw [indexSecond]
  dsimp only
  rw [if_neg h]

theorem indexSecond_runs {q : Nat} (h : flowHoldAfter s.filter q s.settings.user.filter.qMin = 30) :
    ∃ b, (indexSecond q s).filter =
      { (s.filter.indexed s.settings.inst.qRef q).evaluated s.settings.user.filter with cartDue := s.filter.cartDue || b } := by
  rw [indexSecond, h]
  dsimp only
  rw [if_pos rfl]
  have update : (indexUpdate q { s with filter := { s.filter with flowHold := 30 } }).filter =
      { s.filter.indexed s.settings.inst.qRef q with baseline := s.filter.baseline, baselineDue := s.filter.acq == 59 } := rfl
  have settings : (indexUpdate q { s with filter := { s.filter with flowHold := 30 } }).settings = s.settings := rfl
  generalize indexUpdate q { s with filter := { s.filter with flowHold := 30 } } = w at update settings
  obtain ⟨n, d, e⟩ := (s.filter.indexed s.settings.inst.qRef q).evaluated_others s.settings.user.filter
  by_cases ha : s.filter.acq = 59
  · have due : w.filter.baselineDue = true := by rw [update]; exact beq_iff_eq.mpr ha
    have indexed : { w.filter with baseline := w.filter.rs, baselineDue := false } = s.filter.indexed s.settings.inst.qRef q := by
      rw [update, Filter.indexed, if_pos ha]
      rfl
    rw [if_pos due, baselineSet, if_pos due]
    dsimp only
    rw [cartridgeDue_filter, filterEvaluate_filter, indexed, settings, e]
    exact ⟨_, rfl⟩
  · have same : w.filter = s.filter.indexed s.settings.inst.qRef q := by
      rw [update, Filter.indexed, if_neg ha, beq_eq_false_iff_ne.mpr ha]
    have due : ¬ w.filter.baselineDue = true := by rw [same]; exact Bool.false_ne_true
    rw [if_neg due, filterEvaluate_filter, same, settings, e]
    refine ⟨false, ?_⟩
    rw [Bool.or_false]
    rfl

/-- What a second's index leaves alone. -/
theorem indexSecond_filter (q : Nat) (s : State) : ∃ g : Filter, (indexSecond q s).filter = { s.filter with
    flowHold := flowHoldAfter s.filter q s.settings.user.filter.qMin, rs10 := g.rs10, acq := g.acq, baseline := g.baseline
    baselineDue := g.baselineDue, state := g.state, due := g.due, cartDue := s.filter.cartDue || g.cartDue }
    ∧ (s.filter.state = .flushing → g.state = .flushing ∧ g.due = s.filter.due) := by
  by_cases h : flowHoldAfter s.filter q s.settings.user.filter.qMin = 30
  · obtain ⟨b, e⟩ := indexSecond_runs h
    obtain ⟨n, d, e'⟩ := (s.filter.indexed s.settings.inst.qRef q).evaluated_others s.settings.user.filter
    refine ⟨{ s.filter.indexed s.settings.inst.qRef q with state := n, due := d, cartDue := b }, ?_, fun hf => ?_⟩
    · rw [e, e', h]
      rfl
    · rw [flowHoldAfter, if_neg fun hc => hc.2.1 hf] at h
      cases h
  · refine ⟨{ s.filter with cartDue := false }, ?_, fun hf => ⟨hf, rfl⟩⟩
    rw [indexSecond_holds h, Bool.or_false]

/-! ### The screen (R112, R113, R118) -/

theorem flushVolumeReached_filter (s : State) : ∃ b, (flushVolumeReached s).filter = { s.filter with due := { s.filter.due with volume := b } } := by
  unfold flushVolumeReached
  dsimp only
  split
  · exact ⟨true, rfl⟩
  · exact ⟨s.filter.due.volume, rfl⟩

theorem flushVolumeReached_settings (s : State) : (flushVolumeReached s).settings = s.settings := by
  unfold flushVolumeReached
  dsimp only
  split <;> rfl

theorem screenSecond_filter (v q : Nat) (s : State) : ∃ b, (screenSecond v q s).filter = { s.filter with
    volume := min 4294967295 (s.filter.volume + v), cartVolume := min 4294967295 (s.filter.cartVolume + v)
    quiet := if q < s.settings.user.filter.qMin then min 60 (s.filter.quiet + 1) else 0
    due := { s.filter.due with volume := b }
    cartDue := s.filter.cartDue || (s.settings.user.filter.cartVolume != 0
      && decide (s.settings.user.filter.cartVolume * 1000 ≤ min 4294967295 (s.filter.cartVolume + v))) } := by
  rw [screenSecond]
  dsimp only
  generalize hw : ({ s with filter := { s.filter with
    volume := satAdd 4294967295 s.filter.volume v, cartVolume := satAdd 4294967295 s.filter.cartVolume v
    quiet := if q < s.settings.user.filter.qMin then min 60 (s.filter.quiet + 1) else 0 } } : State) = w
  obtain ⟨b, e⟩ := flushVolumeReached_filter w
  refine ⟨b, ?_⟩
  rw [cartridgeDue_filter, cartVolumeReached, e, flushVolumeReached_settings, ← hw]
  rfl

/-! ### Flushes (R115, R116) -/

theorem flushSecond_filter (v : Nat) (s : State) : (flushSecond v s).filter = if s.filter.state = .flushing then
    { s.filter with flush := { s.filter.flush with volume := s.filter.flush.volume + v, elapsed := s.filter.flush.elapsed + 1 } }
    else s.filter := by
  unfold flushSecond
  split <;> rfl

/-- A flush's outcome changes the screen's counts, the due set, the acquisition count and the state alone. -/
theorem flushOutcome_filter (hf : s.filter.state = .flushing) : ∃ g : Filter, (flushOutcome s).filter = { s.filter with
    volume := if 1000 ≤ s.filter.flush.volume then 0 else s.filter.volume, days := g.days, due := {}, acq := g.acq
    baselineDue := g.baselineDue, state := g.state } ∧ g.state ≠ .flushing := by
  by_cases hv : 1000 ≤ s.filter.flush.volume
  · obtain ⟨n, e⟩ := flushOutcome_done hf hv
    refine ⟨s.filter.flushed, ?_, by exact FilterState.noConfusion⟩
    rw [e, if_pos hv]
    rfl
  · obtain ⟨n, e⟩ := flushOutcome_noFlow hf (Nat.lt_of_not_le hv)
    refine ⟨{ s.filter with state := evaluatedState s.filter s.settings.user.filter }, ?_, evaluatedState_ne_flushing _ _⟩
    rw [e, if_neg hv]

/-! ### Midnight (R112, R118) -/

theorem filterMidnight_filter (s : State) : ∃ d c, (filterMidnight s).filter = { s.filter with
    days := satAdd 65535 s.filter.days 1, cartDays := satAdd 65535 s.filter.cartDays 1, due := d, cartDue := s.filter.cartDue || c } := by
  rw [filterMidnight]
  dsimp only
  rw [cartridgeDue_filter]
  exact ⟨_, _, rfl⟩

theorem midnight_filter_due (h : s.clock.midnightDue = true) :
    (midnight s).filter = (filterMidnight (closeDay { s with clock := { s.clock with midnightDue := false } })).filter := by
  rw [midnight, if_pos h]
  have salted := works_brineMidnight (.refl (exerciseMidnight (filterMidnight (closeDay
    { s with clock := { s.clock with midnightDue := false } }))))
  obtain ⟨e, -⟩ := salted.salt_eq
  dsimp only
  rw [e]
  rfl

/-! ### The counts of a second -/

theorem indexSecond_settings (q : Nat) (s : State) : (indexSecond q s).settings = s.settings := by
  rw [(works_indexSecond (.refl s) q).filter_eq]

theorem screenSecond_settings (v q : Nat) (s : State) : (screenSecond v q s).settings = s.settings := by
  rw [(works_screenSecond (.refl s) v q).filter_eq]

/-- The Filter Monitor's record after its counts of a second (R109 to R118). -/
theorem screened_filter (s : State) : ∃ g : Filter, s.screened.filter = { s.filter with
    flowHold := flowHoldAfter s.filter s.meter.now.vIn s.settings.user.filter.qMin, rs10 := g.rs10, acq := g.acq
    baseline := g.baseline, baselineDue := g.baselineDue, state := g.state, due := g.due
    volume := min 4294967295 (s.filter.volume + s.meter.now.vTr)
    cartVolume := min 4294967295 (s.filter.cartVolume + s.meter.now.vTr)
    quiet := if s.meter.now.vH < s.settings.user.filter.qMin then min 60 (s.filter.quiet + 1) else 0
    cartDue := s.filter.cartDue || g.cartDue || (s.settings.user.filter.cartVolume != 0
      && decide (s.settings.user.filter.cartVolume * 1000 ≤ min 4294967295 (s.filter.cartVolume + s.meter.now.vTr)))
    flush := if g.state = .flushing then
        { s.filter.flush with volume := s.filter.flush.volume + s.meter.now.vProc, elapsed := s.filter.flush.elapsed + 1 }
      else s.filter.flush }
    ∧ g.rs10 = (indexSecond s.meter.now.vIn s).filter.rs10 ∧ g.acq = (indexSecond s.meter.now.vIn s).filter.acq
    ∧ g.baseline = (indexSecond s.meter.now.vIn s).filter.baseline ∧ g.state = (indexSecond s.meter.now.vIn s).filter.state := by
  obtain ⟨g, e, -⟩ := indexSecond_filter s.meter.now.vIn s
  obtain ⟨b, e'⟩ := screenSecond_filter s.meter.now.vTr s.meter.now.vH (indexSecond s.meter.now.vIn s)
  rw [e, indexSecond_settings] at e'
  rw [State.screened, flushSecond_filter, e', e]
  refine ⟨{ g with due := { g.due with volume := b } }, ?_, rfl, rfl, rfl, rfl⟩
  dsimp only
  split <;> rfl

/-- The end of a flush, by what the counts of the record become. -/
theorem flushEnd_filter (s : State) : ∃ g : Filter, (flushEnd s).filter.counts = { s.filter.counts with
    volume := if s.filter.state = .flushing ∧ s.filter.flush.time ≤ s.filter.flush.elapsed ∧ 1000 ≤ s.filter.flush.volume then 0
      else s.filter.volume
    days := g.days, acq := g.acq, baselineDue := g.baselineDue, tag := g.tag }
    ∧ (s.filter.state ≠ .flushing → g.acq = s.filter.acq) := by
  rcases flushEnd_reacts (own := false) (claims := false) s with ⟨e, hn⟩ | ⟨w, l, u, n, -, hw, -, reacted, e, hf, ht⟩
  · refine ⟨s.filter, ?_, fun _ => rfl⟩
    rw [e, if_neg fun h => hn ⟨h.1, h.2.1⟩]
    rfl
  · obtain ⟨g, outcome, -⟩ := flushOutcome_filter (s := { s with filter := { s.filter with solenoid := false } }) hf
    have counts : u.filter.counts = w.filter.counts := congrArg Gauges.filter reacted.gauges
    rw [← hw] at outcome
    refine ⟨{ g with tag := none }, ?_, fun h => absurd hf h⟩
    have first : (flushEnd s).filter.counts = { w.filter.counts with tag := none } := by
      rw [e, ← counts]
      rfl
    rw [first, outcome]
    by_cases hv : 1000 ≤ s.filter.flush.volume
    · rw [if_pos hv, if_pos ⟨hf, ht, hv⟩]
      rfl
    · rw [if_neg hv, if_neg fun h => hv h.2.2]
      rfl

theorem State.gauges_filter {s : State} {g : Gauges} (h : s.gauges = g) : s.filter.counts = g.filter := congrArg Gauges.filter h

theorem sequencerSecond_counts (s : State) : (sequencerSecond s).filter.counts = s.filter.counts :=
  State.gauges_filter (gauges_sequencerSecond s)

/-- The counts of the Filter Monitor at the end of a second: those of its own stage, with midnight's days and its AGE test. -/
theorem afterMetering_filter (x : SecondInputs) (f : Bool) (s : State) : ∃ d k c, (afterMetering x f s).filter.counts =
    { (filterSecond (brineSecond x (capacitySecond x f s))).filter.counts with days := d, cartDays := k, cartDue :=
      (filterSecond (brineSecond x (capacitySecond x f s))).filter.cartDue || c } := by
  have stage : (s.worked x f).filter.counts = (filterSecond (brineSecond x (capacitySecond x f s))).filter.counts := by
    unfold State.worked
    exact sequencerSecond_counts _
  have last : (afterMetering x f s).filter.counts = (midnight (s.worked x f)).filter.counts :=
    (State.gauges_filter (gauges_second x f s)).trans (congrArg Gauges.filter (gauges_clocked x f s))
  generalize filterSecond (brineSecond x (capacitySecond x f s)) = w at stage
  generalize s.worked x f = v at stage last
  obtain ⟨d, k, c, e⟩ : ∃ d k c, (midnight v).filter = { v.filter with
      days := d, cartDays := k, due := (midnight v).filter.due, cartDue := v.filter.cartDue || c } := by
    by_cases hd : v.clock.midnightDue = true
    · rw [midnight_filter_due hd]
      obtain ⟨d, c, e⟩ := filterMidnight_filter (closeDay { v with clock := { v.clock with midnightDue := false } })
      rw [e]
      exact ⟨_, _, c, rfl⟩
    · refine ⟨v.filter.days, v.filter.cartDays, false, ?_⟩
      rw [midnight, if_neg hd, Bool.or_false]
  refine ⟨d, k, c, ?_⟩
  have due : v.filter.counts.cartDue = w.filter.counts.cartDue := congrArg Filter.cartDue stage
  simp only [Filter.counts] at due
  rw [last, e, ← due, ← stage]
  rfl

end

end Sys2Proof.Machine

/-! The conditions of the Metering Unit: O8. -/

namespace Sys2Proof.Machine

set_option Elab.async false

section
variable {s : State} {x : SecondInputs}

/-! ### The conditions of a second (R9 to R11) -/

theorem lossSecond_clear (h : s.meter.cond.lossActive = false) (hd : lossAdvances s = false) : (lossSecond s).meter.cond =
    { s.meter.cond with lossCount := 0 } := by
  unfold lossSecond meterLossBegin
  dsimp only
  rw [if_neg (by rw [h]; exact Bool.false_ne_true), hd, if_neg fun hn => by simp at hn]
  rfl

theorem lossSecond_counts (h : s.meter.cond.lossActive = false) (hd : lossAdvances s = true) : (lossSecond s).meter.cond =
    if 59 ≤ s.meter.cond.lossCount then
      { s.meter.cond with lossCount := min 60 (s.meter.cond.lossCount + 1), lossActive := true, clearCount := 0 }
    else { s.meter.cond with lossCount := min 60 (s.meter.cond.lossCount + 1) } := by
  unfold lossSecond meterLossBegin
  dsimp only
  rw [if_neg (by rw [h]; exact Bool.false_ne_true), hd]
  by_cases hc : 59 ≤ s.meter.cond.lossCount
  · rw [if_pos hc, if_pos ⟨h, by simp only [if_true, satAdd]; omega⟩]
    rfl
  · rw [if_neg hc, if_neg fun hn => ?_]
    · rfl
    · simp only [if_true, satAdd] at hn
      omega

theorem lossSecond_active (h : s.meter.cond.lossActive = true) : (lossSecond s).meter.cond =
    if s.meter.now.vIn = 0 then { s.meter.cond with clearCount := 0 }
    else if 9 ≤ s.meter.cond.clearCount then { s.meter.cond with lossActive := false, lossCount := 0, clearCount := 0 }
    else { s.meter.cond with clearCount := s.meter.cond.clearCount + 1 } := by
  unfold lossSecond meterLossEnd
  dsimp only
  rw [if_pos h]
  by_cases hv : s.meter.now.vIn = 0
  · rw [if_pos hv, if_pos hv, if_neg fun hn => absurd hn.2 (by decide)]
  · rw [if_neg hv, if_neg hv]
    by_cases hc : 9 ≤ s.meter.cond.clearCount
    · rw [if_pos hc, if_pos ⟨h, by simp only [satAdd]; omega⟩]
      rfl
    · rw [if_neg hc, if_neg fun hn => ?_]
      · have count : satAdd 10 s.meter.cond.clearCount 1 = s.meter.cond.clearCount + 1 := by simp only [satAdd]; omega
        rw [count]
      · simp only [satAdd] at hn
        omega

/-- METER_LOSS ends in a second only with the calendar count set back (R9, R68). -/
theorem lossSecond_calendar (h : s.meter.cond.lossActive = true) (hn : (lossSecond s).meter.cond.lossActive = false) :
    (lossSecond s).seq.calendar = 0 := by
  unfold lossSecond meterLossEnd at hn ⊢
  dsimp only at hn ⊢
  rw [if_pos h] at hn ⊢
  by_cases hc : s.meter.cond.lossActive = true ∧ 10 ≤ if s.meter.now.vIn = 0 then 0 else satAdd 10 s.meter.cond.clearCount 1
  · rw [if_pos hc]
    rfl
  · rw [if_neg hc] at hn
    cases h.symm.trans hn

theorem lossSecond_now (s : State) : (lossSecond s).meter.now = s.meter.now := by
  unfold lossSecond meterLossEnd meterLossBegin
  dsimp only
  repeat' split
  all_goals rfl

/-- The unowned flow of a second (R10). -/
def unownedFlow (s : State) : Bool := s.line.owner == .none && s.meter.now.vProc != 0

/-- The counts of the unowned condition after a second (R10). -/
def unownedCounts (s : State) : Conditions :=
  { s.meter.cond with
    unownedCount := if unownedFlow s then min 60 (s.meter.cond.unownedCount + 1) else 0
    unownedVolume := if unownedFlow s then
      (if s.meter.cond.unownedCount < 60 then s.meter.cond.unownedVolume + s.meter.now.vProc else s.meter.cond.unownedVolume) else 0
    quietCount := if s.meter.cond.unownedActive then (if s.meter.now.vProc = 0 then min 60 (s.meter.cond.quietCount + 1) else 0) else 0 }

theorem unownedSecond_inactive (h : s.meter.cond.unownedActive = false) : (unownedSecond s).meter.cond =
    if 60 ≤ (unownedCounts s).unownedCount then { unownedCounts s with unownedActive := true, quietCount := 0 } else unownedCounts s := by
  unfold unownedSecond unownedBegin
  dsimp only
  rw [if_neg (by rw [h]; exact Bool.false_ne_true)]
  by_cases hc : 60 ≤ (unownedCounts s).unownedCount
  · rw [if_pos hc, if_pos ⟨h, hc⟩]
    rfl
  · rw [if_neg hc, if_neg fun hn => hc hn.2]
    rfl

theorem unownedSecond_active (h : s.meter.cond.unownedActive = true) : (unownedSecond s).meter.cond =
    if 60 ≤ (unownedCounts s).quietCount then
      { unownedCounts s with unownedActive := false, unownedCount := 0, unownedVolume := 0, quietCount := 0 }
    else unownedCounts s := by
  unfold unownedSecond unownedEnd
  dsimp only
  rw [if_pos h]
  by_cases hc : 60 ≤ (unownedCounts s).quietCount
  · rw [if_pos hc, if_pos ⟨h, hc⟩]
    rfl
  · rw [if_neg hc, if_neg fun hn => hc hn.2]
    rfl

theorem unownedSecond_now (s : State) : (unownedSecond s).meter.now = s.meter.now ∧ (unownedSecond s).seq = s.seq := by
  unfold unownedSecond unownedEnd unownedBegin
  dsimp only
  repeat' split
  all_goals exact ⟨rfl, rfl⟩

/-- The unowned condition leaves METER_LOSS's counts and the passing window alone. -/
theorem unownedSecond_others (s : State) : (unownedSecond s).meter.cond = { s.meter.cond with
    unownedCount := (unownedSecond s).meter.cond.unownedCount, unownedVolume := (unownedSecond s).meter.cond.unownedVolume
    quietCount := (unownedSecond s).meter.cond.quietCount, unownedActive := (unownedSecond s).meter.cond.unownedActive } := by
  unfold unownedSecond unownedEnd unownedBegin
  dsimp only
  repeat' split
  all_goals rfl

theorem lossSecond_others (s : State) : (lossSecond s).meter.cond = { s.meter.cond with
    lossCount := (lossSecond s).meter.cond.lossCount, clearCount := (lossSecond s).meter.cond.clearCount
    lossActive := (lossSecond s).meter.cond.lossActive } := by
  unfold lossSecond meterLossEnd meterLossBegin
  dsimp only
  repeat' split
  all_goals rfl

theorem passingSecond_closed (h : s.valve.state = .closed) : (passingSecond s).meter.cond = { s.meter.cond with
    passing := passingAfter s.meter.cond.passing s.meter.now.vIn
    passingActive := s.meter.cond.passingActive || decide (500 < (passingAfter s.meter.cond.passing s.meter.now.vIn).sum) } := by
  unfold passingSecond
  dsimp only
  rw [if_pos h]
  by_cases hv : 500 < (passingAfter s.meter.cond.passing s.meter.now.vIn).sum
  · rw [decide_eq_true hv, Bool.or_true]
    by_cases ha : s.meter.cond.passingActive = false
    · rw [if_pos ⟨hv, ha⟩]
      rfl
    · rw [if_neg fun hc => ha hc.2]
      have active : s.meter.cond.passingActive = true := by simpa using ha
      rw [← active]
  · rw [decide_eq_false hv, Bool.or_false, if_neg fun hc => hv hc.1]

theorem passingSecond_away (h : s.valve.state ≠ .closed) :
    (passingSecond s).meter.cond = { s.meter.cond with passing := [], passingActive := false } := by
  unfold passingSecond
  dsimp only
  rw [if_neg h]
  split <;> rfl

theorem passingSecond_now (s : State) : (passingSecond s).meter.now = s.meter.now ∧ (passingSecond s).seq = s.seq := by
  unfold passingSecond
  dsimp only
  repeat' split
  all_goals exact ⟨rfl, rfl⟩

/-! ### The metering stage of a second -/

/-- The second's pulses taken. -/
def State.pulsed (x : SecondInputs) (s : State) : State := takePulses x.pulsesIn x.pulsesProc (beforeMetering x s)

/-- What the metering stage starts from. -/
theorem pulsed_eq (x : SecondInputs) (s : State) : (s.pulsed x).line = s.line ∧ (s.pulsed x).valve.state = s.valve.state
    ∧ (s.pulsed x).filter = (beforeMetering x s).filter ∧ (s.pulsed x).meter.cond = s.meter.cond ∧ (s.pulsed x).seq = s.seq := by
  have e := (works_beforeMetering x s).filter_eq
  obtain ⟨n, valve⟩ := advanced_valve x s
  have before : (beforeMetering x s).valve = { s.valve with travel := n } := by rw [e, ← valve]
  exact ⟨by show (beforeMetering x s).line = _; rw [e]; rfl, by show (beforeMetering x s).valve.state = _; rw [before], rfl,
    by show (beforeMetering x s).meter.cond = _; rw [e]; rfl, by show (beforeMetering x s).seq = _; rw [e]; rfl⟩

theorem metered_eq (x : SecondInputs) (s : State) :
    s.metered x = accumulate (passingSecond (unownedSecond (lossSecond (s.pulsed x)))) := rfl

/-- The metering stage leaves everything but its own record, the counts it sets back, the Fault Log and the notices alone. -/
theorem works_metered (x : SecondInputs) (s : State) : Works .meter (beforeMetering x s) (s.metered x) :=
  works_meteringWork (.refl _) _ _

theorem metered_now (x : SecondInputs) (s : State) : (s.metered x).meter.now = (s.pulsed x).meter.now := by
  rw [metered_eq]
  exact (passingSecond_now _).1.trans ((unownedSecond_now _).1.trans (lossSecond_now _))

theorem metered_calendar (x : SecondInputs) (s : State) : (s.metered x).seq.calendar = (lossSecond (s.pulsed x)).seq.calendar := by
  have e : (s.metered x).seq = (lossSecond (s.pulsed x)).seq := by
    rw [metered_eq]
    exact (passingSecond_now _).2.trans (unownedSecond_now _).2
  rw [e]

theorem brineStage_counts (x : SecondInputs) (f : Bool) (s : State) :
    (brineSecond x (capacitySecond x f s)).filter.counts = s.filter.counts :=
  (State.gauges_filter (gauges_brineSecond x (capacitySecond x f s))).trans (State.gauges_filter (gauges_capacitySecond x f s))

/-- The readings of the pressure sensors after the filter's stage are those before it. -/
theorem afterMetering_sensors (x : SecondInputs) (f : Bool) (s : State) : (afterMetering x f s).filter.p1 = s.filter.p1
    ∧ (afterMetering x f s).filter.p2 = s.filter.p2 ∧ (afterMetering x f s).filter.p3 = s.filter.p3 := by
  obtain ⟨d, k, c, e⟩ := afterMetering_filter x f s
  have before : (brineSecond x (capacitySecond x f s)).filter.counts = s.filter.counts := brineStage_counts x f s
  generalize brineSecond x (capacitySecond x f s) = w at e before
  obtain ⟨g, ended, -⟩ := flushEnd_filter w.screened
  obtain ⟨h, screened, -⟩ := screened_filter w
  rw [filterSecond_eq, ended, screened] at e
  have p1 := congrArg Filter.p1 e
  have p2 := congrArg Filter.p2 e
  have p3 := congrArg Filter.p3 e
  have q1 := congrArg Filter.p1 before
  have q2 := congrArg Filter.p2 before
  have q3 := congrArg Filter.p3 before
  simp only [Filter.counts] at p1 p2 p3 q1 q2 q3
  exact ⟨p1.trans q1, p2.trans q2, p3.trans q3⟩

end

end Sys2Proof.Machine

/-! The conditions of the Metering Unit, assembled: O8. -/

namespace Sys2Proof.Machine

set_option Elab.async false

section
variable {s : State} {x : SecondInputs}

theorem State.gauges_calendar {g : Gauges} (h : s.gauges = g) : s.seq.calendar = g.calendar := congrArg Gauges.calendar h

theorem State.gauges_clock {g : Gauges} (h : s.gauges = g) : s.clock = g.clock := congrArg Gauges.clock h

theorem State.gauges_windowHour {g : Gauges} (h : s.gauges = g) : s.seq.windowHour = g.windowHour := congrArg Gauges.windowHour h

/-- The calendar count at the end of a second is that of the calendar's stage, which finds the metering stage's conditions. -/
theorem afterMetering_calendar (x : SecondInputs) (f : Bool) (s : State) : ∃ c : State,
    (afterMetering x f s).seq.calendar = (calendarSecond c).seq.calendar ∧ c.seq.calendar = s.seq.calendar
    ∧ c.meter.cond = s.meter.cond ∧ c.clock.second = s.clock.second ∧ c.seq.windowHour = s.settings.user.soft.windowHour
    ∧ c.settings = s.settings ∧ c = hourClose (midnight (s.worked x f)) := by
  obtain ⟨g, worked⟩ := gauges_worked x f s
  have last : (afterMetering x f s).seq.calendar = (s.clocked x f).seq.calendar := State.gauges_calendar (gauges_second x f s)
  rw [State.clocked] at last
  generalize s.worked x f = w at worked last ⊢
  have calendar : w.seq.calendar = s.seq.calendar := congrArg Gauges.calendar worked
  have meter : w.meter = s.meter := congrArg Gauges.meter worked
  have clock : w.clock = s.clock := congrArg Gauges.clock worked
  have cond := congrArg Metering.cond meter
  have second := congrArg Clock.second clock
  have hour : w.seq.windowHour = s.settings.user.soft.windowHour := congrArg Gauges.windowHour worked
  have settings : w.settings = s.settings := congrArg Gauges.settings worked
  have day := gauges_midnight w
  obtain ⟨v, o, fl, e, b, l, n, eq, -, -⟩ := midnight_others w
  obtain ⟨i, y, m, k, g', h', closed⟩ := hourClose_reacts (own := false) (claims := false) (midnight w)
  have closed := closed.gauges
  refine ⟨hourClose (midnight w), last, ?_, ?_, ?_, ?_, ?_, rfl⟩
  · rw [State.gauges_calendar closed, eq]
    exact calendar
  · rw [State.gauges_meter closed, eq]
    exact cond
  · rw [State.gauges_clock closed, eq]
    exact second
  · rw [State.gauges_windowHour closed, eq]
    exact hour
  · rw [State.gauges_settings closed, eq]
    exact settings

theorem calendarSecond_idle (h : s.meter.cond.lossActive = false) : calendarSecond s = s := by
  rw [calendarSecond, if_neg fun hc => by rw [h] at hc; exact Bool.false_ne_true hc.1]

theorem lossAdvances_pulsed (x : SecondInputs) (s : State) : lossAdvances (s.pulsed x) = true ↔ s.valve.state = .opened
    ∧ 40 ≤ ((beforeMetering x s).filter.p1.reading : Int) - (beforeMetering x s).filter.p3.reading
    ∧ (s.pulsed x).meter.now.vIn = 0 ∧ (beforeMetering x s).filter.p1.held = false ∧ (beforeMetering x s).filter.p3.held = false := by
  obtain ⟨-, valve, filter, -, -⟩ := pulsed_eq x s
  simp only [lossAdvances, pressureDrop, valve, filter, Bool.and_eq_true, beq_iff_eq, decide_eq_true_eq, Bool.not_eq_true', and_assoc]

theorem unownedFlow_iff (s : State) : unownedFlow s = true ↔ s.line.owner = .none ∧ s.meter.now.vProc ≠ 0 := by
  simp only [unownedFlow, Bool.and_eq_true, beq_iff_eq, bne_iff_ne]

theorem passingSecond_others (s : State) : (passingSecond s).meter.cond = { s.meter.cond with
    passing := (passingSecond s).meter.cond.passing, passingActive := (passingSecond s).meter.cond.passingActive } := by
  by_cases h : s.valve.state = .closed
  · rw [passingSecond_closed h]
  · rw [passingSecond_away h]

theorem metered_cond (x : SecondInputs) (s : State) : (s.metered x).meter.cond =
    (passingSecond (unownedSecond (lossSecond (s.pulsed x)))).meter.cond := by rw [metered_eq]; rfl

/-- METER_LOSS and its counts after the metering stage (R9). -/
theorem metered_loss (x : SecondInputs) (s : State) : (s.metered x).meter.cond.lossCount = (lossSecond (s.pulsed x)).meter.cond.lossCount
    ∧ (s.metered x).meter.cond.clearCount = (lossSecond (s.pulsed x)).meter.cond.clearCount
    ∧ (s.metered x).meter.cond.lossActive = (lossSecond (s.pulsed x)).meter.cond.lossActive := by
  rw [metered_cond, passingSecond_others, unownedSecond_others]
  exact ⟨rfl, rfl, rfl⟩

/-- PROCESS_FLOW_UNOWNED and its counts after the metering stage (R10). -/
theorem metered_unowned (x : SecondInputs) (s : State) :
    (s.metered x).meter.cond.unownedCount = (unownedSecond (lossSecond (s.pulsed x))).meter.cond.unownedCount
    ∧ (s.metered x).meter.cond.unownedVolume = (unownedSecond (lossSecond (s.pulsed x))).meter.cond.unownedVolume
    ∧ (s.metered x).meter.cond.quietCount = (unownedSecond (lossSecond (s.pulsed x))).meter.cond.quietCount
    ∧ (s.metered x).meter.cond.unownedActive = (unownedSecond (lossSecond (s.pulsed x))).meter.cond.unownedActive := by
  rw [metered_cond, passingSecond_others]
  exact ⟨rfl, rfl, rfl, rfl⟩

/-- What the unowned condition finds of a second (R10). -/
theorem unownedCounts_pulsed (x : SecondInputs) (s : State) :
    unownedFlow (lossSecond (s.pulsed x)) = (s.line.owner == .none && (s.pulsed x).meter.now.vProc != 0)
    ∧ (lossSecond (s.pulsed x)).meter.now = (s.pulsed x).meter.now
    ∧ (lossSecond (s.pulsed x)).meter.cond.unownedCount = s.meter.cond.unownedCount
    ∧ (lossSecond (s.pulsed x)).meter.cond.unownedVolume = s.meter.cond.unownedVolume
    ∧ (lossSecond (s.pulsed x)).meter.cond.quietCount = s.meter.cond.quietCount
    ∧ (lossSecond (s.pulsed x)).meter.cond.unownedActive = s.meter.cond.unownedActive := by
  obtain ⟨line, -, -, cond, -⟩ := pulsed_eq x s
  have lost : (lossSecond (s.pulsed x)).line = (s.pulsed x).line := by rw [(works_lossSecond (.refl (s.pulsed x))).meter_eq]
  rw [lossSecond_others, cond, unownedFlow, lossSecond_now, lost, line]
  exact ⟨rfl, rfl, rfl, rfl, rfl, rfl⟩

/-- VALVE_PASSING's window after the metering stage (R11). -/
theorem metered_passing_closed (h : s.valve.state = .closed) :
    (s.metered x).meter.cond.passing = passingAfter s.meter.cond.passing (s.pulsed x).meter.now.vIn
    ∧ (s.metered x).meter.cond.passingActive = (s.meter.cond.passingActive
      || decide (500 < (passingAfter s.meter.cond.passing (s.pulsed x).meter.now.vIn).sum)) := by
  obtain ⟨-, valve, -, cond, -⟩ := pulsed_eq x s
  have before := (works_unownedSecond (works_lossSecond (.refl (s.pulsed x)))).meter_eq
  have closed : (unownedSecond (lossSecond (s.pulsed x))).valve.state = .closed := by
    rw [before]
    exact valve.trans h
  have now : (unownedSecond (lossSecond (s.pulsed x))).meter.now = (s.pulsed x).meter.now :=
    (unownedSecond_now _).1.trans (lossSecond_now _)
  rw [metered_cond, passingSecond_closed closed, now, unownedSecond_others, lossSecond_others, cond]
  exact ⟨rfl, rfl⟩

theorem metered_passing_away (h : s.valve.state ≠ .closed) :
    (s.metered x).meter.cond.passing = [] ∧ (s.metered x).meter.cond.passingActive = false := by
  obtain ⟨-, valve, -, cond, -⟩ := pulsed_eq x s
  have before := (works_unownedSecond (works_lossSecond (.refl (s.pulsed x)))).meter_eq
  have away : (unownedSecond (lossSecond (s.pulsed x))).valve.state ≠ .closed := by
    rw [before]
    exact fun hc => h (valve.symm.trans hc)
  rw [metered_cond, passingSecond_away away]
  exact ⟨rfl, rfl⟩

/-- METER_LOSS's counts in a second in which it is not active (R9). -/
theorem metered_loss_inactive (h : s.meter.cond.lossActive = false) :
    (lossAdvances (s.pulsed x) = false → (s.metered x).meter.cond.lossActive = false ∧ (s.metered x).meter.cond.lossCount = 0)
    ∧ (lossAdvances (s.pulsed x) = true → (s.metered x).meter.cond.lossCount = min 60 (s.meter.cond.lossCount + 1)
      ∧ ((s.metered x).meter.cond.lossActive = true ↔ 59 ≤ s.meter.cond.lossCount)) := by
  obtain ⟨-, -, -, cond, -⟩ := pulsed_eq x s
  obtain ⟨count, -, active⟩ := metered_loss x s
  have inactive : (s.pulsed x).meter.cond.lossActive = false := by rw [cond]; exact h
  rw [count, active]
  refine ⟨fun hd => ?_, fun hd => ?_⟩
  · rw [lossSecond_clear inactive hd]
    exact ⟨inactive, rfl⟩
  · rw [lossSecond_counts inactive hd, cond]
    by_cases hc : 59 ≤ s.meter.cond.lossCount
    · rw [if_pos hc]
      exact ⟨rfl, fun _ => hc, fun _ => rfl⟩
    · rw [if_neg hc]
      exact ⟨rfl, fun ha => absurd (h.symm.trans ha) Bool.false_ne_true, fun hn => absurd hn hc⟩

/-- METER_LOSS's counts in a second in which it is active (R9). -/
theorem metered_loss_active (h : s.meter.cond.lossActive = true) :
    ((s.pulsed x).meter.now.vIn = 0 → (s.metered x).meter.cond.lossActive = true ∧ (s.metered x).meter.cond.clearCount = 0
      ∧ (s.metered x).meter.cond.lossCount = s.meter.cond.lossCount)
    ∧ ((s.pulsed x).meter.now.vIn ≠ 0 → s.meter.cond.clearCount < 9 → (s.metered x).meter.cond.lossActive = true
      ∧ (s.metered x).meter.cond.clearCount = s.meter.cond.clearCount + 1
      ∧ (s.metered x).meter.cond.lossCount = s.meter.cond.lossCount)
    ∧ ((s.pulsed x).meter.now.vIn ≠ 0 → 9 ≤ s.meter.cond.clearCount → (s.metered x).meter.cond.lossActive = false
      ∧ (s.metered x).meter.cond.clearCount = 0 ∧ (s.metered x).meter.cond.lossCount = 0 ∧ (s.metered x).seq.calendar = 0) := by
  obtain ⟨-, -, -, cond, -⟩ := pulsed_eq x s
  obtain ⟨count, clear, active⟩ := metered_loss x s
  have on : (s.pulsed x).meter.cond.lossActive = true := by rw [cond]; exact h
  have second := lossSecond_active on
  rw [cond] at second
  rw [count, clear, active, metered_calendar]
  refine ⟨fun hv => ?_, fun hv hc => ?_, fun hv hc => ?_⟩
  · rw [second, if_pos hv]
    exact ⟨h, rfl, rfl⟩
  · rw [second, if_neg hv, if_neg (Nat.not_le.2 hc)]
    exact ⟨h, rfl, rfl⟩
  · rw [if_neg hv, if_pos hc] at second
    rw [second]
    exact ⟨rfl, rfl, rfl, lossSecond_calendar on (by rw [second])⟩

/-- The unowned counts of the metering stage, while the condition is not active (R10). -/
theorem metered_unowned_inactive (h : s.meter.cond.unownedActive = false) :
    (¬ (s.line.owner = .none ∧ (s.pulsed x).meter.now.vProc ≠ 0) → (s.metered x).meter.cond.unownedActive = false
      ∧ (s.metered x).meter.cond.unownedCount = 0 ∧ (s.metered x).meter.cond.unownedVolume = 0)
    ∧ (s.line.owner = .none ∧ (s.pulsed x).meter.now.vProc ≠ 0 →
      (s.metered x).meter.cond.unownedCount = min 60 (s.meter.cond.unownedCount + 1)
      ∧ ((s.metered x).meter.cond.unownedActive = true ↔ 59 ≤ s.meter.cond.unownedCount)
      ∧ (s.meter.cond.unownedCount < 60 →
        (s.metered x).meter.cond.unownedVolume = s.meter.cond.unownedVolume + (s.pulsed x).meter.now.vProc)) := by
  obtain ⟨flow, now, oldCount, oldVolume, oldQuiet, oldActive⟩ := unownedCounts_pulsed x s
  obtain ⟨count, volume, -, active⟩ := metered_unowned x s
  rw [count, volume, active, unownedSecond_inactive (oldActive.trans h)]
  have loose : unownedFlow (lossSecond (s.pulsed x)) = true ↔ s.line.owner = .none ∧ (s.pulsed x).meter.now.vProc ≠ 0 := by
    rw [flow]
    simp only [Bool.and_eq_true, beq_iff_eq, bne_iff_ne]
  simp only [unownedCounts, now, oldCount, oldVolume, oldActive, h]
  refine ⟨fun hn => ?_, fun hl => ?_⟩
  · rw [if_neg fun hf => hn (loose.mp hf), if_neg fun hf => hn (loose.mp hf), if_neg (by decide)]
    exact ⟨rfl, rfl, rfl⟩
  · rw [if_pos (loose.mpr hl), if_pos (loose.mpr hl)]
    by_cases hc : 59 ≤ s.meter.cond.unownedCount
    · rw [if_pos (by omega)]
      exact ⟨rfl, ⟨fun _ => hc, fun _ => rfl⟩, fun hv => if_pos hv⟩
    · rw [if_neg (by omega)]
      exact ⟨rfl, ⟨fun ha => (Bool.false_ne_true ha).elim, fun hn => absurd hn hc⟩, fun hv => if_pos hv⟩

/-- The unowned counts of the metering stage, while the condition is active (R10). -/
theorem metered_unowned_active (h : s.meter.cond.unownedActive = true) :
    ((s.pulsed x).meter.now.vProc ≠ 0 → (s.metered x).meter.cond.unownedActive = true ∧ (s.metered x).meter.cond.quietCount = 0
      ∧ (s.metered x).meter.cond.unownedCount = if s.line.owner = .none then min 60 (s.meter.cond.unownedCount + 1) else 0)
    ∧ ((s.pulsed x).meter.now.vProc = 0 → s.meter.cond.quietCount < 59 → (s.metered x).meter.cond.unownedActive = true
      ∧ (s.metered x).meter.cond.quietCount = s.meter.cond.quietCount + 1 ∧ (s.metered x).meter.cond.unownedCount = 0)
    ∧ ((s.pulsed x).meter.now.vProc = 0 → 59 ≤ s.meter.cond.quietCount → (s.metered x).meter.cond.unownedActive = false
      ∧ (s.metered x).meter.cond.unownedCount = 0 ∧ (s.metered x).meter.cond.quietCount = 0) := by
  obtain ⟨flow, now, oldCount, oldVolume, oldQuiet, oldActive⟩ := unownedCounts_pulsed x s
  obtain ⟨count, -, quiet, active⟩ := metered_unowned x s
  rw [count, quiet, active, unownedSecond_active (oldActive.trans h)]
  simp only [unownedCounts, now, oldCount, oldVolume, oldQuiet, oldActive, h, flow, if_true]
  refine ⟨fun hv => ?_, fun hv hq => ?_, fun hv hq => ?_⟩
  · rw [if_neg hv, if_neg (by decide)]
    refine ⟨rfl, rfl, ?_⟩
    by_cases ho : s.line.owner = .none
    · simp only [ho, hv, bne_iff_ne, ne_eq, not_false_eq_true, beq_self_eq_true, Bool.true_and, if_true]
    · simp only [ho, beq_eq_false_iff_ne.mpr ho, Bool.false_and, if_false, Bool.false_eq_true]
  · rw [if_pos hv, if_neg (by omega)]
    exact ⟨rfl, by show min 60 _ = _; omega, by simp only [hv, bne_self_eq_false, Bool.and_false, Bool.false_eq_true, if_false]⟩
  · rw [if_pos hv, if_pos (by omega)]
    exact ⟨rfl, rfl, rfl⟩

end

/-- R9 to R11: the conditions as their events and the seconds make them. Settles O8, by the stages of a second: the metering stage makes the conditions, and the others keep them. -/
theorem meteringConditionsBeginAndEnd : Obligations.MeteringConditionsBeginAndEnd := by
  intro s h
  dsimp only
  refine ⟨fun hl hc => event_leaves h ?_, fun hl hc => event_leaves h ?_, fun hl hc => event_leaves h ?_,
    fun hl hc => event_leaves h ?_, fun x => ?_, fun hv hp hw => ?_, fun hv hp => ?_⟩
  · rw [meterLossBegin, if_pos ⟨hl, hc⟩]
    rfl
  · rw [meterLossEnd, if_pos ⟨hl, hc⟩]
  · rw [unownedBegin, if_pos ⟨hl, hc⟩]
  · rw [unownedEnd, if_pos ⟨hl, hc⟩]
  · obtain ⟨b, e⟩ := exec_second x h
    obtain ⟨w, o, i, y, meter⟩ := afterMetering_meter x (secondFrozen x s) (s.metered x)
    obtain ⟨p1, -, p3⟩ := afterMetering_sensors x (secondFrozen x s) (s.metered x)
    have sensors : (s.metered x).filter = (beforeMetering x s).filter := by rw [(works_metered x s).meter_eq]
    obtain ⟨c, last, calendar, cond, -⟩ := afterMetering_calendar x (secondFrozen x s) (s.metered x)
    rw [sensors] at p1 p3
    generalize afterMetering x (secondFrozen x s) (s.metered x) = t at e meter p1 p3 last
    refine ⟨_, e, ?_⟩
    dsimp only
    rw [meter, p1, p3, last]
    dsimp only
    rw [metered_now]
    refine ⟨⟨fun hl => ⟨fun hd => ?_, fun hd => ?_⟩, fun hl => ?_, fun hu => metered_unowned_inactive hu,
      fun hu => metered_unowned_active hu⟩, fun hv => metered_passing_closed hv, fun hv => metered_passing_away hv⟩
    · exact (metered_loss_inactive hl).1 (Bool.eq_false_iff.mpr fun ha => hd ((lossAdvances_pulsed x s).mp ha))
    · exact (metered_loss_inactive hl).2 ((lossAdvances_pulsed x s).mpr hd)
    · obtain ⟨still, clears, ends⟩ := metered_loss_active (x := x) hl
      refine ⟨still, clears, fun hv hc => ?_⟩
      obtain ⟨active, clear, count, zero⟩ := ends hv hc
      have inactive : c.meter.cond.lossActive = false := by rw [cond]; exact active
      exact ⟨active, clear, count, by rw [calendarSecond_idle inactive]; exact calendar.trans zero⟩
  · rw [passingSecond]
    dsimp only
    rw [if_pos hv, if_pos ⟨hw, hp⟩]
    rfl
  · rw [passingSecond]
    dsimp only
    rw [if_neg hv, if_pos hp]

end Sys2Proof.Machine

/-! What the hour, midnight and an exhaustion post, and where an hour is placed in the history. -/

namespace Sys2Proof.Machine

set_option Elab.async false

/-! ### Notices of the sequencer's answers to an exhaustion -/

section
variable {s t : State}

theorem adds_changeTank (k : Tank) (r : TankRecord) (s : State) : Adds 1 s.notices (changeTank k r s).notices := by
  unfold changeTank
  dsimp only
  split
  · exact .refl 1 _
  · exact .post _ _

theorem discRequest_told (p : Pos) (s : State) : (discRequest p s).notices = s.notices := by
  unfold discRequest
  split <;> rfl

theorem adds_changeoverBegin (s : State) : Adds 1 s.notices (changeoverBegin s).notices := by
  unfold changeoverBegin
  split
  · exact .refl 1 _
  · split
    · dsimp only
      split
      · have told (v : State) (k : Tank) (hv : v.notices = s.notices) : Adds 1 s.notices (changeArrival k v).notices := by
          unfold changeArrival
          dsimp only
          rw [← hv]
          exact adds_changeTank _ _ v
        exact told _ _ (discRequest_told _ _)
      · rw [discRequest_told]
        exact .refl 1 _
    · exact .refl 1 _

theorem adds_changeoverPending (k : Tank) (s : State) : Adds 1 s.notices (changeoverPending k s).notices := by
  unfold changeoverPending
  dsimp only
  split <;> exact .post _ _

theorem adds_takeExhaustion (k : Tank) (s : State) : Adds 1 s.notices (takeExhaustion k s).notices := by
  unfold takeExhaustion
  split
  · dsimp only
    split
    · exact adds_changeoverBegin { s with seq := { s.seq with due := some k } }
    · exact adds_changeoverPending k { s with seq := { s.seq with due := some k } }
  · exact .refl 1 _

theorem adds_maxServiceDays (s : State) : Adds 1 s.notices (maxServiceDays s).notices := by
  unfold maxServiceDays
  dsimp only
  split
  · split
    · exact adds_takeExhaustion _ s
    · exact .refl 1 _
  · exact .refl 1 _

theorem maxServiceDays_off (h : s.settings.user.soft.maxServiceDays = 0) : maxServiceDays s = s := by
  unfold maxServiceDays
  dsimp only
  split
  · exact if_neg fun hc => hc.1 h
  · rfl

theorem projectionHour_others (k : Tank) (s : State) : ∃ q, projectionHour k s = s.withTank k { s.tank k with urgent := q } := by
  unfold projectionHour
  split
  · exact askProjection_others k s
  · exact ⟨(s.tank k).urgent, (withTank_self k s).symm⟩

/-! ### The hour close (R14 to R18) -/

/-- The history with an hour's record appended (R15). -/
def History.appended (h : History) (o : OpenHour) : History := (h.append o.record).rearm

/-- An hour appended (R15, R18). -/
theorem appendHour_quiet {o : OpenHour} (h : ¬ (s.meter.history.unread = 63 ∧ (s.meter.history.appended o).unread = 64
      ∧ (s.meter.history.appended o).armed = true)) :
    (appendHour o s).meter.history = s.meter.history.appended o ∧ (appendHour o s).notices = s.notices := by
  unfold appendHour historyPending
  dsimp only
  split
  next hc => exact absurd hc h
  next => exact ⟨rfl, rfl⟩

theorem appendHour_pending {o : OpenHour} (h : s.meter.history.unread = 63 ∧ (s.meter.history.appended o).unread = 64
      ∧ (s.meter.history.appended o).armed = true) :
    (appendHour o s).meter.history = { s.meter.history.appended o with armed := false }
    ∧ ∃ v2 v3, (appendHour o s).notices = s.notices.post
      { kind := .historyPending, subject := .none, stamp := s.now, v1 := (s.meter.history.appended o).unread, v2 := v2, v3 := v3 } := by
  unfold appendHour historyPending
  dsimp only
  split
  next => exact ⟨rfl, _, _, rfl⟩
  next hc => exact absurd h hc

theorem History.appended_short {h : History} (o : OpenHour) (hl : h.ring.length < 512) :
    h.appended o = { h with ring := h.ring ++ [o.record], armed := h.armed || decide (h.ring.length + 1 - h.cursor < 64) } := by
  unfold History.appended History.append
  rw [if_neg (Nat.not_le.2 hl), History.rearm, History.unread, List.length_append]
  rfl

theorem History.appended_full {h : History} {oldest : HistoryRecord} {rest : List HistoryRecord} (o : OpenHour) (hl : 512 ≤ h.ring.length)
    (hr : h.ring = oldest :: rest) : h.appended o = { h with
      ring := rest ++ [o.record], cursor := h.cursor - 1, gap := h.gap || decide (h.cursor = 0) && !oldest.inFlight
      armed := h.armed || decide (rest.length + 1 - (h.cursor - 1) < 64) } := by
  unfold History.appended History.append
  have loses : h.losesUnread = (decide (h.cursor = 0) && !oldest.inFlight) := by
    rw [History.losesUnread, decide_eq_true hl, hr, Bool.true_and]
    exact congrArg (· && !oldest.inFlight) (Bool.beq_eq_decide_eq _ _)
  rw [if_pos hl, loses, History.rearm, History.unread, hr, List.drop_one, List.tail_cons]
  dsimp only
  rw [List.length_append]
  rfl

/-- A recordable hour finds its place in the history (R15). -/
theorem placeHour_empty {o : OpenHour} (ho : o.recordable = true) (hr : s.meter.history.ring = []) : placeHour o s = appendHour o s := by
  unfold placeHour
  dsimp only
  rw [if_neg (by rw [ho]; decide), hr]
  rfl

theorem placeHour_last {o : OpenHour} {pre : List HistoryRecord} {r : HistoryRecord} (ho : o.recordable = true)
    (hr : s.meter.history.ring = pre ++ [r]) : placeHour o s =
      if hourIndex o.day o.hour < r.next then s
      else if mergeable o r s.meter.history.unread then
        { s with meter := { s.meter with history := { s.meter.history with ring := pre ++ [{ r with repeats := r.repeats + 1 }] } } }
      else appendHour o s := by
  unfold placeHour
  dsimp only
  rw [if_neg (by rw [ho]; decide), hr, List.getLast?_concat]
  dsimp only
  rw [List.dropLast_concat]

theorem mergeable_iff (o : OpenHour) (r : HistoryRecord) (n : Nat) : mergeable o r n = true ↔ hourIndex o.day o.hour = r.next
    ∧ o.litres = r.litres ∧ o.flags = r.flags ∧ r.repeats < 255 ∧ n ≠ 0 ∧ r.inFlight = false := by
  simp only [mergeable, Bool.and_eq_true, beq_iff_eq, decide_eq_true_eq, bne_iff_ne, Bool.not_eq_true', and_assoc]

/-- The unread count has risen to 64 while HISTORY_PENDING is armed (R18). -/
def History.rises (h h' : History) : Prop := h.ring.length - h.cursor = 63 ∧ h'.ring.length - h'.cursor = 64 ∧ h.armed = true

theorem History.appended_armed (h : History) (o : OpenHour) :
    (h.appended o).armed = (h.armed || decide ((h.appended o).ring.length - (h.appended o).cursor < 64)) := by
  unfold History.appended History.append
  split <;> rfl

/-- An appended hour: the record, and the arming of HISTORY_PENDING (R15, R18). -/
theorem appendHour_history (o : OpenHour) (s : State) : ∃ a, (appendHour o s).meter.history = { s.meter.history.appended o with armed := a }
    ∧ (s.meter.history.rises (s.meter.history.appended o) → a = false ∧ ∃ v2 v3, (appendHour o s).notices = s.notices.post
      { kind := .historyPending, subject := .none, stamp := s.now, v1 := 64, v2 := v2, v3 := v3 })
    ∧ (¬ s.meter.history.rises (s.meter.history.appended o) →
      a = (s.meter.history.appended o).armed ∧ (appendHour o s).notices = s.notices) := by
  have armed := s.meter.history.appended_armed o
  by_cases hc : s.meter.history.unread = 63 ∧ (s.meter.history.appended o).unread = 64 ∧ (s.meter.history.appended o).armed = true
  · obtain ⟨e, v2, v3, told⟩ := appendHour_pending hc
    obtain ⟨before, after, on⟩ := hc
    have after' : (s.meter.history.appended o).ring.length - (s.meter.history.appended o).cursor = 64 := after
    rw [after'] at armed
    have was : s.meter.history.armed = true := by simpa [on] using armed.symm
    have unread : ((s.meter.history.appended o).unread : Int) = 64 := by rw [after]; rfl
    rw [unread] at told
    exact ⟨false, e, fun _ => ⟨rfl, v2, v3, told⟩, fun hn => absurd ⟨before, after, was⟩ hn⟩
  · obtain ⟨e, told⟩ := appendHour_quiet hc
    refine ⟨_, e, fun hr => absurd ?_ hc, fun _ => ⟨rfl, told⟩⟩
    obtain ⟨before, after, was⟩ := hr
    exact ⟨before, after, by rw [armed, was]; rfl⟩

/-- A place that appends nothing leaves the unread count and the notices (R15). -/
theorem placeHour_outcome (o : OpenHour) (s : State) : ((placeHour o s).meter.history.ring.length = s.meter.history.ring.length
    ∧ (placeHour o s).meter.history.cursor = s.meter.history.cursor ∧ (placeHour o s).notices = s.notices)
    ∨ placeHour o s = appendHour o s := by
  cases ho : o.recordable with
  | false => exact .inl (by rw [placeHour_unrecordable ho]; exact ⟨rfl, rfl, rfl⟩)
  | true =>
    rcases List.eq_nil_or_concat' s.meter.history.ring with hr | ⟨pre, r, hr⟩
    · exact .inr (placeHour_empty ho hr)
    · rw [placeHour_last ho hr]
      split
      · exact .inl ⟨rfl, rfl, rfl⟩
      · split
        · refine .inl ⟨?_, rfl, rfl⟩
          rw [hr]
          simp only [List.length_append, List.length_singleton]
        · exact .inr rfl

/-- The hours of a tank in service counted (R68). -/
theorem serviceHour_tank (k j : Tank) (s : State) : ((serviceHour k s).tank j).service = (s.tank j).service
    ∧ ((serviceHour k s).tank j).hours = if j = k ∧ (s.tank j).service = .inService then min 65535 ((s.tank j).hours + 1)
      else (s.tank j).hours := by
  unfold serviceHour
  dsimp only
  by_cases hk : (s.tank k).service = .inService
  · rw [if_pos hk, withTank_tank]
    by_cases hj : j = k
    · subst hj
      rw [if_pos rfl, if_pos ⟨rfl, hk⟩]
      exact ⟨rfl, rfl⟩
    · rw [if_neg hj, if_neg fun hc => hj hc.1]
      exact ⟨rfl, rfl⟩
  · rw [if_neg hk, if_neg fun hc : j = k ∧ (s.tank j).service = .inService => hk (hc.1 ▸ hc.2)]
    exact ⟨rfl, rfl⟩

theorem projectionHour_hours (k j : Tank) (s : State) : ((projectionHour k s).tank j).hours = (s.tank j).hours := by
  obtain ⟨q, e⟩ := projectionHour_others k s
  rw [e, withTank_tank]
  split
  next hj => rw [hj]
  next => rfl

theorem projectionHour_others' (k : Tank) (s : State) : (projectionHour k s).notices = s.notices
    ∧ (projectionHour k s).meter = s.meter ∧ (projectionHour k s).settings = s.settings := by
  obtain ⟨q, e⟩ := projectionHour_others k s
  rw [e]
  exact ⟨rfl, rfl, rfl⟩

/-- The hours counted for both tanks (R68). -/
theorem serviceHours_tank (j : Tank) (s : State) : ((serviceHour .b (serviceHour .a s)).tank j).hours =
    if (s.tank j).service = .inService then min 65535 ((s.tank j).hours + 1) else (s.tank j).hours := by
  obtain ⟨service, first⟩ := serviceHour_tank .a j s
  obtain ⟨-, second⟩ := serviceHour_tank .b j (serviceHour .a s)
  rw [second, first, service]
  cases j <;> simp only [reduceCtorEq, false_and, true_and, if_false]

/-- What the hour close leaves of an hour's placing: the notices of the service hours' limit apart, only marks and hours. -/
theorem hourClose_due (h : s.clock.hourDue = true) : ∃ p, p = placeHour s.meter.hour { s with clock := { s.clock with hourDue := false } }
    ∧ (hourClose s).meter = { p.meter with
      hour := { day := s.clock.day, hour := s.clock.second / 3600, recordable := !s.clock.unset } }
    ∧ Adds 1 p.notices (hourClose s).notices ∧ (hourClose s).settings = s.settings
    ∧ (s.settings.user.soft.maxServiceDays = 0 → (hourClose s).notices = p.notices ∧ ∀ k, ((hourClose s).tank k).hours =
      if (s.tank k).service = .inService then min 65535 ((s.tank k).hours + 1) else (s.tank k).hours) := by
  have closing : closeHour { s with clock := { s.clock with hourDue := false } }
      = openHour (placeHour s.meter.hour { s with clock := { s.clock with hourDue := false } }) := rfl
  obtain ⟨y, n, l, placed⟩ := placeHour_others s.meter.hour { s with clock := { s.clock with hourDue := false } }
  generalize placeHour s.meter.hour { s with clock := { s.clock with hourDue := false } } = p at closing placed
  refine ⟨p, rfl, ?_⟩
  have hours := fun j => serviceHours_tank j (openHour p)
  have tanks (j : Tank) : (openHour p).tank j = s.tank j := by rw [placed]; rfl
  have clock : p.clock = { s.clock with hourDue := false } := by rw [placed]
  have settings : p.settings = s.settings := by rw [placed]
  simp only [tanks] at hours
  have served : (serviceHour .b (serviceHour .a (openHour p))).notices = p.notices
      ∧ (serviceHour .b (serviceHour .a (openHour p))).settings = p.settings
      ∧ (serviceHour .b (serviceHour .a (openHour p))).meter = { p.meter with
        hour := { day := s.clock.day, hour := s.clock.second / 3600, recordable := !s.clock.unset } } := by
    obtain ⟨a, first⟩ := serviceHour_others .a (openHour p)
    obtain ⟨b, second⟩ := serviceHour_others .b (serviceHour .a (openHour p))
    rw [second, first, openHour, clock]
    exact ⟨rfl, rfl, rfl⟩
  have closed : hourClose s = projectionHour .b (projectionHour .a (maxServiceDays (serviceHour .b (serviceHour .a (openHour p))))) := by
    rw [hourClose, if_pos h, closing, sequencerHour]
  generalize serviceHour .b (serviceHour .a (openHour p)) = w at hours served closed
  obtain ⟨queue, table, meter⟩ := served
  have limited := (maxServiceDays_reacts (own := false) (claims := false) w).gauges
  have limit := adds_maxServiceDays w
  have off (h0 : s.settings.user.soft.maxServiceDays = 0) : maxServiceDays w = w := maxServiceDays_off (by rw [table, settings]; exact h0)
  rw [queue] at limit
  obtain ⟨told, same, kept⟩ := projectionHour_others' .a (maxServiceDays w)
  obtain ⟨told', same', kept'⟩ := projectionHour_others' .b (projectionHour .a (maxServiceDays w))
  rw [closed, told', told, same', same, kept', kept, State.gauges_meter limited, State.gauges_settings limited]
  refine ⟨meter, limit, table.trans settings, fun h0 => ?_⟩
  rw [off h0]
  exact ⟨queue, fun k => by rw [projectionHour_hours, projectionHour_hours, hours k]⟩

end

end Sys2Proof.Machine

/-! Midnight and the hour close: O9. -/

namespace Sys2Proof.Machine

set_option Elab.async false

/-! ### Midnight (R13, R103, R105) -/

section
variable {s : State} {d : Nat}

/-- The repeat of the reminder is due (R103). -/
def State.repeats (s : State) : Prop :=
  s.brine.salt ≠ .ok ∧ s.settings.user.salt.reminderDays ≠ 0 ∧ s.brine.lastReminder + s.settings.user.salt.reminderDays ≤ s.clock.day

theorem repeatReminder_repeats (h : s.repeats) : repeatReminder s = { s with
    brine := { s.brine with lastReminder := s.clock.day }, notices := s.notices.post (s.reminder 1) } := by
  obtain ⟨hs, hz, hd⟩ := h
  rw [repeatReminder]
  dsimp only
  rw [if_neg fun hc => hc.elim hs hz, if_neg (by omega), if_pos hd, saltReminder_eq]

theorem repeatReminder_ahead (hs : s.brine.salt ≠ .ok) (hz : s.settings.user.salt.reminderDays ≠ 0) (hd : s.clock.day < s.brine.lastReminder) :
    repeatReminder s = { s with brine := { s.brine with lastReminder := s.clock.day } } := by
  rw [repeatReminder]
  dsimp only
  rw [if_neg fun hc => hc.elim hs hz, if_pos hd]

theorem repeatReminder_quiet (h : s.brine.salt = .ok ∨ s.settings.user.salt.reminderDays = 0 ∨ s.brine.lastReminder ≤ s.clock.day
    ∧ s.clock.day < s.brine.lastReminder + s.settings.user.salt.reminderDays) : repeatReminder s = s := by
  rw [repeatReminder]
  dsimp only
  by_cases hc : s.brine.salt = .ok ∨ s.settings.user.salt.reminderDays = 0
  · rw [if_pos hc]
  · have hd : s.brine.lastReminder ≤ s.clock.day ∧ s.clock.day < s.brine.lastReminder + s.settings.user.salt.reminderDays := by
      simpa only [not_or.mp hc, false_or] using h
    rw [if_neg hc, if_neg (by omega), if_neg (by omega)]

/-- The reminder's repeat keeps the salt state and the arming, and posts at most once. -/
theorem repeatReminder_others (s : State) : ∃ l n, repeatReminder s = { s with brine := { s.brine with lastReminder := l }, notices := n }
    ∧ Adds 1 s.notices n := by
  by_cases hq : s.brine.salt = .ok ∨ s.settings.user.salt.reminderDays = 0 ∨ s.brine.lastReminder ≤ s.clock.day
    ∧ s.clock.day < s.brine.lastReminder + s.settings.user.salt.reminderDays
  · exact ⟨s.brine.lastReminder, s.notices, repeatReminder_quiet hq, .refl 1 _⟩
  · simp only [not_or] at hq
    obtain ⟨hs, hz, hd⟩ := hq
    rcases Nat.lt_or_ge s.clock.day s.brine.lastReminder with ha | ha
    · exact ⟨_, s.notices, repeatReminder_ahead hs hz ha, .refl 1 _⟩
    · exact ⟨_, _, repeatReminder_repeats ⟨hs, hz, by omega⟩, .post _ _⟩

/-- A forecast above its days, or none, arms the reminder (R105). -/
theorem forecastReminder_arms (hz : s.settings.user.salt.forecastDays ≠ 0)
    (h : ∀ d, forecast s = some d → s.settings.user.salt.forecastDays < d) : (forecastReminder s).brine.forecastArmed = true := by
  rw [forecastReminder]
  dsimp only
  rw [if_neg hz]
  split
  next d hd => rw [if_neg (Nat.not_le.2 (h d hd))]
  next => rfl

/-- A forecast within its days leaves the reminder disarmed (R105). -/
theorem forecastReminder_disarms (hz : s.settings.user.salt.forecastDays ≠ 0) (hd : forecast s = some d)
    (hle : d ≤ s.settings.user.salt.forecastDays) : (forecastReminder s).brine.forecastArmed = false := by
  cases ha : s.brine.forecastArmed with
  | true => exact (forecastReminder_due ha hz hd hle).1
  | false =>
    rw [forecastReminder]
    dsimp only
    rw [if_neg hz, hd]
    dsimp only
    rw [if_pos hle, if_neg (by rw [ha]; exact Bool.false_ne_true)]
    exact ha

theorem forecastReminder_off (hz : s.settings.user.salt.forecastDays = 0) : forecastReminder s = s := if_pos hz

/-- Midnight before the Brine Monitor's part: the open day, the filter's days and the exercise's (R13, R112, R118, R149). -/
theorem midnight_due (h : s.clock.midnightDue = true) : ∃ w, midnight s = brineMidnight w ∧ w.brine = s.brine ∧ w.settings = s.settings
    ∧ w.clock = { s.clock with midnightDue := false } ∧ Adds 1 s.notices w.notices
    ∧ w.meter = { s.meter with
        week := (if s.meter.week.length < 7 then s.meter.week else s.meter.week.drop (s.meter.week.length - 6)) ++ [s.meter.openDay / 1000]
        openDay := 0 }
    ∧ w.filter.days = min 65535 (s.filter.days + 1) ∧ w.filter.cartDays = min 65535 (s.filter.cartDays + 1)
    ∧ w.valve.exerciseDays = min 65535 (s.valve.exerciseDays + 1) := by
  let c := closeDay { s with clock := { s.clock with midnightDue := false } }
  have filtered := (works_filterMidnight (.refl c)).filter_eq
  obtain ⟨d, e, record⟩ := filterMidnight_filter c
  have told : Adds 1 c.notices (filterMidnight c).notices := by
    unfold filterMidnight cartridgeDue
    dsimp only
    split
    · exact .post _ _
    · exact .refl 1 _
  refine ⟨exerciseMidnight (filterMidnight c), ?_, ?_, ?_, ?_, told, ?_, ?_, ?_, ?_⟩
  · rw [midnight, if_pos h]
  · rw [exerciseMidnight, filtered]
    rfl
  · rw [exerciseMidnight, filtered]
    rfl
  · rw [exerciseMidnight, filtered]
    rfl
  · rw [exerciseMidnight, filtered]
    rfl
  · rw [show (exerciseMidnight (filterMidnight c)).filter = (filterMidnight c).filter from rfl, record]
    rfl
  · rw [show (exerciseMidnight (filterMidnight c)).filter = (filterMidnight c).filter from rfl, record]
    rfl
  · rw [exerciseMidnight, filtered]
    rfl

/-- Midnight's reminders (R103, R105). -/
theorem brineMidnight_reminds {w : State} (hb : w.brine = s.brine) (hs : w.settings = s.settings)
    (hc : w.clock = { s.clock with midnightDue := false }) (ha : Adds 1 s.notices w.notices) :
    let b := s.brine
    let days := s.settings.user.salt.reminderDays
    let ahead := s.settings.user.salt.forecastDays
    let u := brineMidnight w
    (s.repeats → u.brine.lastReminder = s.clock.day ∧ Told .saltReminder 1 (saltCode b.salt) (forecastDays (forecast s)) s u)
    ∧ (b.salt ≠ .ok → days ≠ 0 → s.clock.day < b.lastReminder → u.brine.lastReminder = s.clock.day)
    ∧ (b.salt = .ok ∨ days = 0 ∨ b.lastReminder ≤ s.clock.day ∧ s.clock.day < b.lastReminder + days → u.brine.lastReminder = b.lastReminder)
    ∧ (∀ d, ahead ≠ 0 → forecast s = some d → d ≤ ahead → u.brine.forecastArmed = false
      ∧ (b.forecastArmed = true → Told .saltReminder 2 (saltCode b.salt) d s u))
    ∧ (ahead ≠ 0 → (∀ d, forecast s = some d → ahead < d) → u.brine.forecastArmed = true)
    ∧ (ahead = 0 → u.brine.forecastArmed = b.forecastArmed)
    ∧ u.brine = { b with lastReminder := u.brine.lastReminder, forecastArmed := u.brine.forecastArmed } := by
  intro b days ahead u
  have now : w.now = s.now := by rw [State.now, hc]; rfl
  have day : w.clock.day = s.clock.day := by rw [hc]
  have lasts : forecast w = forecast s := forecast_congr (by rw [hb]) (by rw [hb]) now
  obtain ⟨l, n, repeated, added⟩ := repeatReminder_others w
  have forecasts : forecast (repeatReminder w) = forecast s := by
    rw [repeated]
    exact lasts
  have before : (repeatReminder w).brine = { b with lastReminder := (repeatReminder w).brine.lastReminder } := by
    rw [repeated, hb]
  have armed : (repeatReminder w).brine.forecastArmed = b.forecastArmed := by rw [before]
  have aheadOf : (repeatReminder w).settings.user.salt.forecastDays = ahead := by
    rw [repeated]
    show w.settings.user.salt.forecastDays = ahead
    rw [hs]
  have reminded : (repeatReminder w).reminder 2 = {
      kind := .saltReminder, subject := .none, stamp := s.now, v1 := (2 : Nat), v2 := saltCode b.salt, v3 := forecastDays (forecast s) } := by
    have now' : (repeatReminder w).now = s.now := by rw [repeated]; exact now
    have salt : (repeatReminder w).brine.salt = b.salt := by rw [before]
    rw [State.reminder, now', salt, forecasts]
  have length := ha.length
  have added' := adds_forecastReminder (repeatReminder w)
  obtain ⟨salted, last⟩ := forecastReminder_judgement (repeatReminder w)
  have eq : u = forecastReminder (repeatReminder w) := rfl
  refine ⟨fun hr => ?_, fun hn hz hd => ?_, fun hq => ?_, fun d hz hd hle => ⟨?_, fun hon hl => ?_⟩, fun hz hd => ?_, fun hz => ?_, ?_⟩
  · have due : w.repeats := by
      rw [State.repeats, hb, hs, day]
      exact hr
    have e := repeatReminder_repeats due
    refine ⟨?_, fun hl => ?_⟩
    · rw [eq, last, e]
      exact day
    · have tells := NoticeQueue.tells_post w.notices (w.reminder 1) (by omega)
      have grown := (Adds.post w.notices (w.reminder 1)).length
      have queue : (repeatReminder w).notices = w.notices.post (w.reminder 1) := by rw [e]
      rw [queue] at added'
      obtain ⟨m, hm, kind, subject, stamp, v1, v2, v3⟩ := tells.adds rfl added' (by omega)
      refine ⟨m, hm, kind, subject, stamp.trans now, v1, v2.trans ?_, v3.trans ?_⟩
      · show ((saltCode w.brine.salt : Nat) : Int) = _
        rw [hb]
      · show forecastDays (forecast w) = _
        rw [lasts]
  · rw [eq, last, repeatReminder_ahead (by rw [hb]; exact hn) (by rw [hs]; exact hz) (by rw [hb, day]; exact hd)]
    exact day
  · rw [eq, last, repeatReminder_quiet (by rw [hb, hs, day]; exact hq), hb]
  · exact forecastReminder_disarms (by rw [aheadOf]; exact hz) (by rw [forecasts]; exact hd) (by rw [aheadOf]; exact hle)
  · obtain ⟨-, posted⟩ := forecastReminder_due (armed.trans hon) (by rw [aheadOf]; exact hz) (by rw [forecasts]; exact hd)
      (by rw [aheadOf]; exact hle)
    have queue : (repeatReminder w).notices = n := by rw [repeated]
    have grown := added.length
    rw [queue, reminded, hd] at posted
    have tells := NoticeQueue.tells_post n (n := {
      kind := .saltReminder, subject := .none, stamp := s.now, v1 := (2 : Nat), v2 := saltCode b.salt, v3 := forecastDays (some d) }) (by omega)
    rw [← posted] at tells
    exact tells
  · exact forecastReminder_arms (by rw [aheadOf]; exact hz) (by rw [forecasts, aheadOf]; exact hd)
  · rw [eq, forecastReminder_off (by rw [aheadOf]; exact hz)]
    exact armed
  · have judged := congrArg State.brine (judged_forecastReminder (repeatReminder w)).others
    have e : u.brine = { (repeatReminder w).brine with
      salt := u.brine.salt, lastReminder := u.brine.lastReminder, forecastArmed := u.brine.forecastArmed } := judged
    have salt : u.brine.salt = b.salt := salted.trans (by rw [before])
    rw [salt, before] at e
    exact e

end

/-! ### The hour close (R14 to R18) -/

/-- The history `h'` is `h` with the hour appended (R15, R18). -/
def History.takes (h h' : History) (o : OpenHour) : Prop :=
  (h.ring.length < 512 → h'.ring = h.ring ++ [o.record] ∧ h'.cursor = h.cursor ∧ h'.gap = h.gap)
  ∧ (∀ oldest rest, 512 ≤ h.ring.length → h.ring = oldest :: rest → h'.ring = rest ++ [o.record] ∧ h'.cursor = h.cursor - 1
    ∧ h'.gap = (h.gap || decide (h.cursor = 0) && !oldest.inFlight))
  ∧ (h.rises h' → h'.armed = false) ∧ (¬ h.rises h' → h'.armed = (h.armed || decide (h'.ring.length - h'.cursor < 64)))

section
variable {s : State}

theorem appendHour_takes (o : OpenHour) (s : State) : s.meter.history.takes (appendHour o s).meter.history o := by
  obtain ⟨a, e, rises, still⟩ := appendHour_history o s
  refine ⟨fun hl => ?_, fun oldest rest hl hr => ?_, fun hr => ?_, fun hn => ?_⟩
  · rw [e, History.appended_short o hl]
    exact ⟨rfl, rfl, rfl⟩
  · rw [e, History.appended_full o hl hr]
    exact ⟨rfl, rfl, rfl⟩
  · rw [e] at hr ⊢
    exact (rises hr).1
  · rw [e] at hn ⊢
    exact (still hn).1.trans (s.meter.history.appended_armed o)

/-- What the rise to 64 unread records tells (R18). -/
theorem placeHour_tells (o : OpenHour) (s : State) :
    (s.meter.history.rises (placeHour o s).meter.history → ∃ v2 v3, (placeHour o s).notices = s.notices.post
      { kind := .historyPending, subject := .none, stamp := s.now, v1 := 64, v2 := v2, v3 := v3 })
    ∧ (¬ s.meter.history.rises (placeHour o s).meter.history → (placeHour o s).notices = s.notices) := by
  rcases placeHour_outcome o s with ⟨length, cursor, told⟩ | e
  · refine ⟨fun hr => absurd hr.2.1 ?_, fun _ => told⟩
    rw [length, cursor, hr.1]
    decide
  · obtain ⟨a, e', rises, still⟩ := appendHour_history o s
    rw [e, e']
    exact ⟨fun hr => (rises hr).2, fun hn => (still hn).2⟩

/-- Where an hour goes in the history (R15). -/
theorem placeHour_places (o : OpenHour) (s : State) :
    (o.recordable = false → (placeHour o s).meter.history = s.meter.history)
    ∧ (o.recordable = true → s.meter.history.ring = [] → s.meter.history.takes (placeHour o s).meter.history o)
    ∧ ∀ pre r, o.recordable = true → s.meter.history.ring = pre ++ [r] →
      let same : Prop := hourIndex o.day o.hour = r.next ∧ o.litres = r.litres ∧ o.flags = r.flags ∧ r.repeats < 255
        ∧ s.meter.history.cursor < s.meter.history.ring.length ∧ r.inFlight = false
      (hourIndex o.day o.hour < r.next → (placeHour o s).meter.history = s.meter.history)
      ∧ (same → (placeHour o s).meter.history = { s.meter.history with ring := pre ++ [{ r with repeats := r.repeats + 1 }] })
      ∧ (r.next ≤ hourIndex o.day o.hour → ¬ same → s.meter.history.takes (placeHour o s).meter.history o) := by
  refine ⟨fun ho => by rw [placeHour_unrecordable ho], fun ho hr => ?_, fun pre r ho hr => ?_⟩
  · rw [placeHour_empty ho hr]
    exact appendHour_takes o s
  · have unread : s.meter.history.cursor < s.meter.history.ring.length ↔ s.meter.history.unread ≠ 0 := by
      rw [History.unread]
      omega
    rw [unread, placeHour_last ho hr]
    refine ⟨fun hi => by rw [if_pos hi], fun hm => ?_, fun hi hm => ?_⟩
    · rw [if_neg (by rw [hm.1]; exact Nat.lt_irrefl _), if_pos ((mergeable_iff _ _ _).mpr hm)]
    · rw [if_neg (Nat.not_lt.2 hi), if_neg fun hc => hm ((mergeable_iff _ _ _).mp hc)]
      exact appendHour_takes o s

end

/-! ### The open hour in a second (R14) -/

section
variable {s : State} {x : SecondInputs}

theorem metered_clock (x : SecondInputs) (s : State) : (s.metered x).clock = s.clock.advance := by
  rw [(works_metered x s).meter_eq, (works_beforeMetering x s).filter_eq]
  rfl

/-- The conditions of a second change the Metering Unit's conditions alone. -/
theorem conditions_meter (s : State) :
    ∃ c, (passingSecond (unownedSecond (lossSecond s))).meter = { s.meter with cond := c } := by
  have lost (s : State) : ∃ c, (lossSecond s).meter = { s.meter with cond := c } := by
    unfold lossSecond meterLossEnd meterLossBegin
    dsimp only
    repeat' split
    all_goals exact ⟨_, rfl⟩
  have unowned (s : State) : ∃ c, (unownedSecond s).meter = { s.meter with cond := c } := by
    unfold unownedSecond unownedEnd unownedBegin
    dsimp only
    repeat' split
    all_goals exact ⟨_, rfl⟩
  have passing (s : State) : ∃ c, (passingSecond s).meter = { s.meter with cond := c } := by
    unfold passingSecond
    dsimp only
    repeat' split
    all_goals exact ⟨_, rfl⟩
  obtain ⟨a, first⟩ := lost s
  obtain ⟨b, second⟩ := unowned (lossSecond s)
  obtain ⟨c, third⟩ := passing (unownedSecond (lossSecond s))
  exact ⟨c, by rw [third, second, first]⟩

/-- The open hour and the history after the metering stage (R14). -/
theorem metered_hour (x : SecondInputs) (s : State) : (s.metered x).meter.hour = { s.meter.hour with
    volume := s.meter.hour.volume + (s.metered x).meter.now.vH, flags := s.meter.hour.flags.join (flagsNow s) }
    ∧ (s.metered x).meter.history = s.meter.history := by
  obtain ⟨c, meter⟩ := conditions_meter (s.pulsed x)
  have work : Works .meter (s.pulsed x) (passingSecond (unownedSecond (lossSecond (s.pulsed x)))) :=
    works_passingSecond (works_unownedSecond (works_lossSecond (.refl _)))
  have flags : flagsNow (passingSecond (unownedSecond (lossSecond (s.pulsed x)))) = flagsNow s := by
    obtain ⟨-, valve, -⟩ := pulsed_eq x s
    have before := (works_beforeMetering x s).filter_eq
    have leak : (s.pulsed x).leak = s.leak := by show (beforeMetering x s).leak = _; rw [before]; rfl
    have tanks (k : Tank) : (s.pulsed x).tank k = s.tank k := by show (beforeMetering x s).seq.tanks.get k = _; rw [before]; rfl
    have supply : (s.pulsed x).supply.state = s.supply.state := by show (beforeMetering x s).supply.state = _; rw [before]; rfl
    have same : flagsNow (passingSecond (unownedSecond (lossSecond (s.pulsed x)))) = flagsNow (s.pulsed x) := by
      rw [work.meter_eq]
      rfl
    rw [same, flagsNow, leak, tanks, tanks, valve, supply]
    rfl
  have pulses : (s.pulsed x).meter.hour = s.meter.hour ∧ (s.pulsed x).meter.history = s.meter.history := by
    have before : (beforeMetering x s).meter = s.meter := by rw [(works_beforeMetering x s).filter_eq]; rfl
    have e : (s.pulsed x).meter.hour = (beforeMetering x s).meter.hour ∧ (s.pulsed x).meter.history = (beforeMetering x s).meter.history :=
      ⟨rfl, rfl⟩
    rwa [before] at e
  rw [metered_eq]
  generalize passingSecond (unownedSecond (lossSecond (s.pulsed x))) = w at meter flags
  rw [accumulate]
  dsimp only
  rw [flags, meter]
  dsimp only
  rw [pulses.1, pulses.2]
  exact ⟨rfl, rfl⟩

/-- The open hour and the history at the end of a second: the hour's close apart, as the metering stage leaves them. -/
theorem afterMetering_hour (x : SecondInputs) (f : Bool) (s : State) :
    (s.clock.hourDue = false → (afterMetering x f s).meter.hour = s.meter.hour ∧ (afterMetering x f s).meter.history = s.meter.history)
    ∧ (s.clock.hourDue = true → (afterMetering x f s).meter.hour =
        { day := s.clock.day, hour := s.clock.second / 3600, recordable := !s.clock.unset }
      ∧ ∃ w : State, (afterMetering x f s).meter.history = (placeHour s.meter.hour w).meter.history
        ∧ w.meter.history = s.meter.history) := by
  obtain ⟨g, worked⟩ := gauges_worked x f s
  have last := afterMetering_clockedMeter x f s
  generalize s.worked x f = w at worked last
  have meter : w.meter = s.meter := congrArg Gauges.meter worked
  have clock : w.clock = s.clock := congrArg Gauges.clock worked
  obtain ⟨v, o, fl, e, b, l, n, eq, -, -⟩ := midnight_others w
  have hour : (midnight w).meter.hour = s.meter.hour ∧ (midnight w).meter.history = s.meter.history := by
    rw [eq, meter]
    exact ⟨rfl, rfl⟩
  have ticking : (midnight w).clock = { s.clock with midnightDue := false } := by rw [eq, clock]
  generalize midnight w = m at last hour ticking
  rw [last]
  refine ⟨fun hd => ?_, fun hd => ?_⟩
  · rw [hourClose, if_neg (by rw [ticking]; exact fun hc => Bool.false_ne_true (hd.symm.trans hc))]
    exact hour
  · obtain ⟨p, hp, closed, -⟩ := hourClose_due (s := m) (by rw [ticking]; exact hd)
    rw [closed, hp, hour.1, ticking]
    exact ⟨rfl, _, rfl, hour.2⟩

theorem Clock.advance_hourDue (c : Clock) : c.advance.hourDue = true ↔ c.advance.second % 3600 = 0 := by
  unfold Clock.advance
  split
  · exact ⟨fun _ => rfl, fun _ => rfl⟩
  · exact beq_iff_eq

end

/-- R13 to R18, R103 and R105: midnight, the hour close and a second of the open hour. Settles O9, by the parts of midnight and of the hour
close, and by the stages of a second. -/
theorem midnightAndHourClose : Obligations.MidnightAndHourClose := by
  refine ⟨fun s h => ⟨fun hd => ⟨_, event_leaves h rfl, ?_⟩, fun hd => ⟨_, event_leaves h rfl, ?_⟩⟩, fun y n gap => rfl, fun x s h => ?_⟩
  · obtain ⟨w, e, brine, settings, clock, added, meter, days, cart, exercise⟩ := midnight_due hd
    have reminds := brineMidnight_reminds brine settings clock added
    have same := (works_brineMidnight (.refl w)).salt_eq.1
    rw [e]
    generalize brineMidnight w = u at reminds same
    refine ⟨?_, ?_, ?_, ?_, ?_, ?_, ?_, ?_, reminds⟩
    all_goals rw [same]
    · rw [meter]
    · rw [meter]
    · rw [clock]
    · rw [meter]
    · exact days
    · exact cart
    · exact exercise
    · exact settings
  · obtain ⟨p, hp, meter, added, settings, off⟩ := hourClose_due hd
    have places := placeHour_places s.meter.hour { s with clock := { s.clock with hourDue := false } }
    have tells := placeHour_tells s.meter.hour { s with clock := { s.clock with hourDue := false } }
    obtain ⟨v, n, k, others⟩ := placeHour_others s.meter.hour { s with clock := { s.clock with hourDue := false } }
    rw [← hp] at places tells others
    rw [meter]
    refine ⟨rfl, ⟨fun hr hl => ?_, fun hr hz => ?_, places⟩, fun hz => (off hz).2, ?_, settings⟩
    · obtain ⟨v2, v3, posted⟩ := tells.1 hr
      have told := NoticeQueue.tells_post s.notices (n := { kind := .historyPending, subject := .none, stamp := s.now, v1 := 64, v2 := v2, v3 := v3 })
        (by omega)
      have grown := (Adds.post s.notices { kind := .historyPending, subject := .none, stamp := s.now, v1 := 64, v2 := v2, v3 := v3 }).length
      have posted' : p.notices = s.notices.post { kind := .historyPending, subject := .none, stamp := s.now, v1 := 64, v2 := v2, v3 := v3 } :=
        posted
      rw [← posted'] at told grown
      obtain ⟨m, hm, kind, subject, stamp, v1, -⟩ := told.adds rfl added (by omega)
      exact ⟨m, hm, kind, subject, stamp, v1⟩
    · exact (off hz).1.trans (tells.2 hr)
    · rw [others]
  · obtain ⟨b, e⟩ := exec_second x h
    obtain ⟨w, o, i, y, meter⟩ := afterMetering_meter x (secondFrozen x s) (s.metered x)
    have hours := afterMetering_hour x (secondFrozen x s) (s.metered x)
    obtain ⟨hour, history⟩ := metered_hour x s
    have now : (afterMetering x (secondFrozen x s) (s.metered x)).meter.now = (s.metered x).meter.now := by rw [meter]
    rw [metered_clock, hour, history] at hours
    generalize afterMetering x (secondFrozen x s) (s.metered x) = t at e hours now
    have flags : s.meter.hour.flags.join (flagsNow s) =
        { leakTrip := s.meter.hour.flags.leakTrip || s.leak.latch.isSome
          regen := s.meter.hour.flags.regen || (s.tank .a).service == .regenerating || (s.tank .b).service == .regenerating
          shutoffClosed := s.meter.hour.flags.shutoffClosed || s.valve.state != .opened
          onBattery := s.meter.hour.flags.onBattery || s.supply.state != .mains
          clockSet := s.meter.hour.flags.clockSet } := by
      simp only [HourFlags.join, flagsNow, Bool.or_assoc, Bool.or_false]
    rw [flags, ← now] at hours
    refine ⟨_, e, fun hn => hours.1 ?_, fun hz => ?_⟩
    · exact Bool.eq_false_iff.mpr fun hc => hn (s.clock.advance_hourDue.mp hc)
    · obtain ⟨opened, v, placed, old⟩ := hours.2 (s.clock.advance_hourDue.mpr hz)
      refine ⟨opened, fun hr hnil => ?_⟩
      have ring := congrArg History.ring placed
      rw [placeHour_ring_empty (o := _) (by exact hr) (old.symm ▸ hnil)] at ring
      exact ring

end Sys2Proof.Machine

/-! A second after its metering stage as a chain of small changes, so that what they all keep holds at its end. -/

namespace Sys2Proof.Machine

set_option Elab.async false

/-! ### The chain -/

/-- What a part of a second may change besides its reactions: the tanks' capacity records and the brine measurement, the flush's record
with the Filter Monitor's state, the steps that the sequencer times, and the dwell. -/
structure Span where
  unit : Bool := false
  screen : Bool := false
  timer : Bool := false
  dwell : Bool := false

/-- One change within a second after its metering stage. -/
inductive Pass (e : Span) (own claims : Bool) : State → State → Prop
  | reacts {s t : State} (h : React own claims s t) : Pass e own claims s t
  | beside (s : State) (c : Clock) (m : Metering) (k : Capacity) (n : Nat) (w : Timing) (h : Nat) (l : Option FlushEntry) (b : Brine)
      (f : Filter) (d : Detector) (v : Nat) (y : Link) (q : NoticeQueue) (g : FaultLog)
      (hk : e.unit = true ∨ (k = s.cap ∧ b.measure = s.brine.measure))
      (hf : e.screen = true ∨ (f.state = s.filter.state ∧ f.flush = s.filter.flush ∧ f.flowHold = s.filter.flowHold ∧ l = s.line.flush)) :
      Pass e own claims s { s with
        clock := c, meter := m, cap := k, seq := { s.seq with calendar := n, timing := w, windowHour := h }
        line := { s.line with flush := l }, brine := b, filter := f, leak := { s.leak with detector := d }
        valve := { s.valve with exerciseDays := v }, link := y, notices := q, faults := g }
  | hours (s : State) (g h : Nat) : Pass e own claims s { s with
      seq := { s.seq with tanks := ⟨{ s.tank .a with hours := g }, { s.tank .b with hours := h }⟩ } }
  | steps {s t : State} (k : Tank) (he : e.timer = true) (hr : stepRuns k s = true) (h : Stepped k s t) : Pass e own claims s t
  | dwells (s : State) (c : Changeover) (d : Nat) (p : ChangePhase) (he : e.dwell = true) (hc : s.seq.changeover = some c) (hp : c.phase = .dwell)
      (hd : p = .dwell ∨ p = .toHold) : Pass e own claims s { s with
        seq := { s.seq with changeover := some { c with phase := p, dwell := d } } }

/-- A chain of changes within a second. -/
abbrev Passes (e : Span) (own claims : Bool) : State → State → Prop := Relation.ReflTransGen (Pass e own claims)

section
variable {e : Span} {own claims : Bool} {s t u : State}

theorem Reacts.passes (h : Reacts own claims s t) : Passes e own claims s t := h.lift id fun _ _ r => .reacts r

/-- The Capacity Unit's stage. -/
theorem passes_capacitySecond (x : SecondInputs) (f : Bool) (s : State) (he : e.unit = true) :
    Passes e own claims s (capacitySecond x f s) := by
  obtain ⟨r, n, reacted⟩ := shared_reacts (own := own) (claims := claims) f s
  have probed := (probed_capacitySecond x f s).others
  have first : Passes e own claims s (s.shared f) := .trans (.single (.beside s s.clock s.meter { s.cap with recs := r } s.seq.calendar
    s.seq.timing s.seq.windowHour s.line.flush s.brine s.filter s.leak.detector s.valve.exerciseDays s.link n s.faults (.inl he)
    (.inr ⟨rfl, rfl, rfl, rfl⟩))) reacted.passes
  generalize s.shared f = v at probed first
  rw [probed]
  exact first.tail (.beside v v.clock v.meter _ v.seq.calendar v.seq.timing v.seq.windowHour v.line.flush v.brine v.filter
    v.leak.detector v.valve.exerciseDays v.link _ _ (.inl he) (.inr ⟨rfl, rfl, rfl, rfl⟩))

/-- The Brine Monitor's stage. -/
theorem passes_brineSecond (x : SecondInputs) (s : State) (he : e.unit = true) : Passes e own claims s (brineSecond x s) := by
  obtain ⟨b, l, n, eq, -⟩ := brineSecond_others x s
  have sampled := (levelled_levelSecond x.level s).others
  rw [sampled] at eq
  rw [eq]
  exact .single (.beside s s.clock s.meter s.cap s.seq.calendar s.seq.timing s.seq.windowHour s.line.flush b s.filter s.leak.detector
    s.valve.exerciseDays s.link n l (.inl he) (.inr ⟨rfl, rfl, rfl, rfl⟩))

theorem Works.passes (h : Works .filter s t) (he : e.screen = true) : Passes e own claims s t := by
  rw [h.filter_eq]
  exact .single (.beside s s.clock s.meter s.cap s.seq.calendar s.seq.timing s.seq.windowHour s.line.flush s.brine _ s.leak.detector
    s.valve.exerciseDays s.link _ _ (.inr ⟨rfl, rfl⟩) (.inl he))

/-- The Filter Monitor's stage. -/
theorem passes_filterSecond (s : State) (he : e.screen = true) : Passes e own claims s (filterSecond s) := by
  have screened : Passes e own claims s s.screened := (works_screened s).passes he
  rw [filterSecond_eq]
  rcases flushEnd_reacts (own := own) (claims := claims) s.screened with ⟨eq, -⟩ | ⟨w, l, u, n, work, -, -, reacted, eq, -⟩
  · rwa [eq]
  · have released : Passes e own claims w { w with line := { w.line with flush := l } } :=
      .single (.beside w w.clock w.meter w.cap w.seq.calendar w.seq.timing w.seq.windowHour l w.brine w.filter w.leak.detector
        w.valve.exerciseDays w.link w.notices w.faults (.inr ⟨rfl, rfl⟩) (.inl he))
    rw [eq]
    exact (((screened.trans (work.passes he)).trans released).trans reacted.passes).tail (.beside u u.clock u.meter u.cap u.seq.calendar
      u.seq.timing u.seq.windowHour u.line.flush u.brine _ u.leak.detector u.valve.exerciseDays u.link n u.faults (.inr ⟨rfl, rfl⟩)
      (.inl he))

/-- The sequencer's stage: its claims, the step timers, the dwell and the moves that wait. -/
theorem passes_timed (s : State) : Passes e own claims s s.timed :=
  .trans (.single (.beside s s.clock s.meter s.cap s.seq.calendar _ _ s.line.flush s.brine s.filter s.leak.detector
    s.valve.exerciseDays s.link s.notices s.faults (.inr ⟨rfl, rfl⟩) (.inr ⟨rfl, rfl, rfl, rfl⟩))) (timed_reacts s).passes

theorem passes_stepSecond (k : Tank) (s : State) (he : e.timer = true) : Passes e own claims s (stepSecond k s) := by
  cases hr : stepRuns k s with
  | true => exact .single (.steps k he hr (stepped_stepSecond k s))
  | false => rw [stepSecond_idle hr]

theorem passes_dwellSecond (s : State) (he : e.dwell = true) : Passes e own claims s (dwellSecond s) := by
  by_cases hi : ∀ c, s.seq.changeover = some c → c.phase ≠ .dwell ∨ s.supply.state ≠ .mains
  · rw [dwellSecond_idle hi]
  · simp only [not_forall, not_or, not_not] at hi
    obtain ⟨c, hc, hp, hm⟩ := hi
    rcases Nat.lt_or_ge (c.dwell + 1) s.settings.inst.overlap with hd | hd
    · rw [dwellSecond_counts hc hp hm hd, show ({ c with dwell := c.dwell + 1 } : Changeover) = { c with phase := .dwell, dwell := c.dwell + 1 } by
        rw [← hp]]
      exact .single (.dwells s c (c.dwell + 1) .dwell he hc hp (.inl rfl))
    · rw [dwellSecond_ends hc hp hm hd]
      have ended : Passes e own claims s { s with seq := { s.seq with
          changeover := some { c with phase := .toHold, dwell := c.dwell + 1 } } } := .single (.dwells s c _ .toHold he hc hp (.inr rfl))
      exact ended.trans (Reacts.passes (reacts_askMove .refl (State.awaits_changeover (Option.some_ne_none _))))

/-- The sequencer's timers. -/
theorem passes_timers (s : State) (he : e.timer = true) (hd : e.dwell = true) : Passes e own claims s (dwellSecond (stepSecond .b (stepSecond .a s))) :=
  ((passes_stepSecond .a s he).trans (passes_stepSecond .b _ he)).trans (passes_dwellSecond _ hd)

theorem passes_midnight (s : State) (hf : (midnight s).filter.state = s.filter.state ∧ (midnight s).filter.flush = s.filter.flush
    ∧ (midnight s).filter.flowHold = s.filter.flowHold) : Passes e own claims s (midnight s) := by
  obtain ⟨w, o, f, v, b, l, n, eq, water, -⟩ := midnight_others s
  rw [eq] at hf ⊢
  have measure := congrArg Brine.measure water
  exact .single (.beside s _ _ s.cap s.seq.calendar s.seq.timing s.seq.windowHour s.line.flush b f s.leak.detector v s.link n l
    (.inr ⟨rfl, measure⟩) (.inr ⟨hf.1, hf.2.1, hf.2.2, rfl⟩))

/-- The filter's state and its flush are not midnight's to change. -/
theorem midnight_flush (s : State) : (midnight s).filter.state = s.filter.state ∧ (midnight s).filter.flush = s.filter.flush
    ∧ (midnight s).filter.flowHold = s.filter.flowHold := by
  by_cases hd : s.clock.midnightDue = true
  · obtain ⟨d, c, eq⟩ := filterMidnight_filter (closeDay { s with clock := { s.clock with midnightDue := false } })
    rw [midnight_filter_due hd, eq]
    exact ⟨rfl, rfl, rfl⟩
  · rw [midnight, if_neg hd]
    exact ⟨rfl, rfl, rfl⟩

theorem passes_hourClose (s : State) : Passes e own claims s (hourClose s) := by
  obtain ⟨i, y, n, k, g, h, reacted⟩ := hourClose_reacts (own := own) (claims := claims) s
  have noted : Passes e own claims s { s with
      clock := { s.clock with hourDue := false }, meter := { s.meter with hour := i, history := y }, notices := n, link := k } :=
    .single (.beside s _ _ s.cap s.seq.calendar s.seq.timing s.seq.windowHour s.line.flush s.brine s.filter s.leak.detector
      s.valve.exerciseDays k n s.faults (.inr ⟨rfl, rfl⟩) (.inr ⟨rfl, rfl, rfl, rfl⟩))
  exact (noted.tail (.hours _ g h)).trans reacted.passes

theorem passes_calendarSecond (s : State) : Passes e own claims s (calendarSecond s) := by
  obtain ⟨c, reacted⟩ := calendarSecond_reacts (own := own) (claims := claims) s
  exact .trans (.single (.beside s s.clock s.meter s.cap c s.seq.timing s.seq.windowHour s.line.flush s.brine s.filter s.leak.detector
    s.valve.exerciseDays s.link s.notices s.faults (.inr ⟨rfl, rfl⟩) (.inr ⟨rfl, rfl, rfl, rfl⟩))) reacted.passes

/-- The clock's stages. -/
theorem passes_clock (s : State) : Passes e own claims s (calendarSecond (hourClose (midnight s))) :=
  ((passes_midnight s (midnight_flush s)).trans (passes_hourClose _)).trans (passes_calendarSecond _)

/-- The Leak Monitor's stage. -/
theorem passes_leakSecond (f : Bool) (s : State) : Passes e true claims s (leakSecond f s) := by
  obtain ⟨d, u, d', reacted, eq⟩ := detectorSecond_reacts (claims := claims) s.meter.now.vH f s
  have counted : Passes e true claims s { s with leak := { s.leak with detector := d } } :=
    .single (.beside s s.clock s.meter s.cap s.seq.calendar s.seq.timing s.seq.windowHour s.line.flush s.brine s.filter d
      s.valve.exerciseDays s.link s.notices s.faults (.inr ⟨rfl, rfl⟩) (.inr ⟨rfl, rfl, rfl, rfl⟩))
  have after := leakSecond_reacts (claims := claims) f s
  rw [eq] at after
  exact ((counted.trans reacted.passes).tail (.beside u u.clock u.meter u.cap u.seq.calendar u.seq.timing u.seq.windowHour u.line.flush
    u.brine u.filter d' u.valve.exerciseDays u.link u.notices u.faults (.inr ⟨rfl, rfl⟩) (.inr ⟨rfl, rfl, rfl, rfl⟩))).trans after.passes

end

/-! ### What the whole chain keeps -/

section
variable {I : State → Prop} {s t : State} {x : SecondInputs} {f : Bool}

theorem Passes.keeps {e : Span} {own claims : Bool} (h : Passes e own claims s t) (hI : ∀ {s t}, Pass e own claims s t → I s → I t)
    (hs : I s) : I t := by
  induction h with
  | refl => exact hs
  | tail _ last ih => exact hI last ih

/-- The state before the sequencer's timers. -/
@[irreducible] def State.untimed (x : SecondInputs) (f : Bool) (s : State) : State :=
  (filterSecond (brineSecond x (capacitySecond x f s))).timed

/-- The sequencer's timers of a second. -/
@[irreducible] def State.timers (s : State) : State := dwellSecond (stepSecond .b (stepSecond .a s))

theorem worked_eq (x : SecondInputs) (f : Bool) (s : State) : s.worked x f = changeoverBegin (waitingMoves (s.untimed x f).timers) := by
  unfold State.worked State.untimed State.timers
  exact sequencerSecond_eq _

/-- What every change after the clock's stages keeps, the rest of a second keeps. -/
theorem clock_keeps (hI : ∀ {own claims s t}, Pass {} own claims s t → I s → I t) (hs : I (s.clocked x f)) : I (afterMetering x f s) := by
  have watched : I (s.watched x f) := by
    unfold State.watched
    exact (passes_leakSecond (claims := false) f _).keeps hI ((exercised_reacts (s.clocked x f)).passes.keeps hI hs)
  rw [afterMetering_eq]
  exact (followed_reacts _).passes.keeps hI ((steadied_reacts (s.watched x f)).passes.keeps hI watched)

/-- What every change after the sequencer's timers keeps, the rest of a second keeps. -/
theorem timers_keep (hI : ∀ {own claims s t}, Pass {} own claims s t → I s → I t) (hs : I (s.untimed x f).timers) :
    I (afterMetering x f s) := by
  have worked : I (s.worked x f) := by
    rw [worked_eq]
    exact (moved_reacts (own := false) (claims := false) _).passes.keeps hI hs
  have clocked : I (s.clocked x f) := by
    unfold State.clocked
    exact (passes_clock (own := false) (claims := false) _).keeps hI worked
  exact clock_keeps hI clocked

/-- What every change after the filter's stage keeps. -/
theorem later_keeps (hI : ∀ {e own claims s t}, e.unit = false → e.screen = false → Pass e own claims s t → I s → I t)
    (hs : I (filterSecond (brineSecond x (capacitySecond x f s)))) : I (afterMetering x f s) := by
  have untimed : I (s.untimed x f) := by
    unfold State.untimed
    exact (passes_timed (e := {}) (own := false) (claims := false) _).keeps (hI rfl rfl) hs
  have timers : I (s.untimed x f).timers := by
    unfold State.timers
    exact (passes_timers (e := { timer := true, dwell := true }) (own := false) (claims := false) _ rfl rfl).keeps (hI rfl rfl) untimed
  exact timers_keep (hI rfl rfl) timers

/-- What every change after the brine's stage keeps. -/
theorem late_keeps (hI : ∀ {e own claims s t}, e.unit = false → Pass e own claims s t → I s → I t)
    (hs : I (brineSecond x (capacitySecond x f s))) : I (afterMetering x f s) :=
  later_keeps (fun he _ => hI he)
    ((passes_filterSecond (e := { screen := true }) (own := false) (claims := false) _ rfl).keeps (hI rfl) hs)

/-- What every change keeps, the second after its metering stage keeps. -/
theorem second_keeps (hI : ∀ {e own claims s t}, Pass e own claims s t → I s → I t) (hs : I s) : I (afterMetering x f s) :=
  late_keeps (fun _ => hI) ((passes_brineSecond (e := { unit := true }) (own := false) (claims := false) x _ rfl).keeps hI
    ((passes_capacitySecond (e := { unit := true }) (own := false) (claims := false) x f s rfl).keeps hI hs))

/-- What every change but the timers' keeps after the brine's stage, a second keeps before them. -/
theorem late_untimed_keeps (hI : ∀ {e s t}, e.unit = false → e.timer = false → e.dwell = false → Pass e false false s t → I s → I t)
    (hs : I (brineSecond x (capacitySecond x f s))) : I (s.untimed x f) := by
  unfold State.untimed
  exact (passes_timed _).keeps (e := {}) (hI rfl rfl rfl) ((passes_filterSecond (e := { screen := true }) _ rfl).keeps (hI rfl rfl rfl) hs)

/-- What every change but the timers' keeps, a second keeps before them. -/
theorem untimed_keeps (hI : ∀ {e s t}, e.timer = false → e.dwell = false → Pass e false false s t → I s → I t) (hs : I s) :
    I (s.untimed x f) :=
  late_untimed_keeps (fun _ => hI) ((passes_brineSecond (e := { unit := true }) x _ rfl).keeps (hI rfl rfl)
    ((passes_capacitySecond (e := { unit := true }) x f s rfl).keeps (hI rfl rfl) hs))

/-- What every change but the Leak Monitor's own keeps, the second keeps as far as the sequencer's stage. -/
theorem worked_keeps (hI : ∀ {e s t}, Pass e false false s t → I s → I t) (hs : I s) : I (s.worked x f) := by
  have timers : I (s.untimed x f).timers := by
    unfold State.timers
    exact (passes_timers (e := { timer := true, dwell := true }) _ rfl rfl).keeps hI (untimed_keeps (fun _ _ => hI) hs)
  rw [worked_eq]
  exact (moved_reacts _).passes.keeps (e := {}) hI timers

/-- What they keep as far as the hour's close. -/
theorem hourly_keeps (hI : ∀ {e s t}, Pass e false false s t → I s → I t) (hs : I s) : I (hourClose (midnight (s.worked x f))) :=
  (passes_hourClose _).keeps (e := {}) hI ((passes_midnight _ (midnight_flush _)).keeps (e := {}) hI (worked_keeps hI hs))

/-- What they keep as far as the clock's stages. -/
theorem clocked_keeps (hI : ∀ {e s t}, Pass e false false s t → I s → I t) (hs : I s) : I (s.clocked x f) := by
  unfold State.clocked
  exact (passes_clock _).keeps (e := {}) hI (worked_keeps hI hs)

end

end Sys2Proof.Machine

/-! The flow-event detector: O31. -/

namespace Sys2Proof.Machine

set_option Elab.async false

/-! ### What the blocks' reactions leave of the valve and the Leak Monitor -/

/-- No test can take its grant: the valve is away from OPEN, or no test claims the line, or none waits for its claim. -/
def State.untestable (s : State) : Prop := s.valve.state ≠ .opened ∨ s.line.test = none ∨ s.leak.test.phase ≠ .claiming

/-- The valve's record but for its exercise days, the Leak Monitor's but for its detector, the supply and the pins stay. -/
structure Rests (s t : State) : Prop where
  valve : t.valve = { s.valve with exerciseDays := t.valve.exerciseDays }
  leak : t.leak = { s.leak with detector := t.leak.detector }
  supply : t.supply = s.supply
  pins : t.pins = s.pins
  untestable : t.untestable

section
variable {e : Span} {claims : Bool} {s t u : State}

theorem Rests.refl (h : s.untestable) : Rests s s := ⟨rfl, rfl, rfl, rfl, h⟩

/-- Without the Leak Monitor's own work and without a test to grant, a reaction leaves the valve and the Leak Monitor alone. -/
theorem React.rests (h : React false claims s t) (hu : s.untestable) :
    t.valve = s.valve ∧ t.leak = s.leak ∧ t.supply = s.supply ∧ t.pins = s.pins ∧ t.untestable := by
  cases h with
  | untested => exact ⟨rfl, rfl, rfl, rfl, .inr (.inl rfl)⟩
  | tests _ hg hp ht => exact absurd hu (by
      simp only [State.untestable, not_or, not_not]
      exact ⟨((grantAllowed_iff s).mp hg).2.2, ht, hp⟩)
  | shifts _ ho => cases ho
  | leak _ ho => cases ho
  | claimsTest ho => cases ho
  | supply _ ho => cases ho
  | pods _ ho => cases ho
  | stops ho => cases ho
  | _ => exact ⟨rfl, rfl, rfl, rfl, hu⟩

theorem Pass.rests (h : Pass e false claims s t) (hr : Rests u s) : Rests u t := by
  obtain ⟨valve, leak, supply, pins, untestable⟩ := hr
  cases h with
  | reacts h =>
    obtain ⟨v, l, p, n, still⟩ := h.rests untestable
    exact ⟨by rw [v]; exact valve, by rw [l]; exact leak, p.trans supply, n.trans pins, still⟩
  | steps k _ _ h =>
    rw [h.others]
    exact ⟨valve, leak, supply, pins, untestable⟩
  | beside =>
    refine ⟨?_, ?_, supply, pins, untestable⟩
    · conv_lhs => rw [valve]
    · conv_lhs => rw [leak]
  | hours => exact ⟨valve, leak, supply, pins, untestable⟩
  | dwells => exact ⟨valve, leak, supply, pins, untestable⟩

/-- As far as the clock's stages a second leaves the valve and the Leak Monitor alone, unless a test takes its grant. -/
theorem clocked_rests (x : SecondInputs) (f : Bool) (h : s.untestable) : Rests s (s.clocked x f) :=
  clocked_keeps (fun h => h.rests) (.refl h)

end

/-! ### The detector's second (R122 to R125) -/

section
variable {s : State} {v : Nat} {held : Bool}

/-- The detector after a second of an OPEN valve (R122 to R125). -/
def Detector.second (d : Detector) (c : LeakSettings) (v : Nat) : Detector :=
  match d.active with
  | none =>
    let q := d.quietSecond (thresholdSet c).trickle v
    if 3 ≤ q.rising then { active := some (thresholdSet c), seconds := 3, volume := q.risingVolume } else q
  | some set =>
    let q := d.flowSecond set v
    if c.quietGap ≤ q.gap then {} else q

theorem Detector.second_quiet {d : Detector} (hn : d.active = none) (c : LeakSettings) (v : Nat) : d.second c v =
    if 3 ≤ (d.quietSecond (thresholdSet c).trickle v).rising then
      { active := some (thresholdSet c), seconds := 3, volume := (d.quietSecond (thresholdSet c).trickle v).risingVolume }
    else d.quietSecond (thresholdSet c).trickle v := by
  unfold Detector.second
  rw [hn]

theorem Detector.second_flow {d : Detector} {set : Thresholds} (hs : d.active = some set) (c : LeakSettings) (v : Nat) : d.second c v =
    if c.quietGap ≤ (d.flowSecond set v).gap then {} else d.flowSecond set v := by
  unfold Detector.second
  rw [hs]

theorem Detector.quietSecond_active (d : Detector) (n v : Nat) : (d.quietSecond n v).active = d.active := by
  unfold Detector.quietSecond
  split <;> rfl

theorem Detector.flowSecond_active (d : Detector) (set : Thresholds) (v : Nat) : (d.flowSecond set v).active = d.active := by
  unfold Detector.flowSecond
  dsimp only
  split <;> rfl

theorem flowTrip_gauges (held : Bool) (s : State) : (flowTrip held s).gauges = s.gauges :=
  (reacts_flowTrip (claims := false) (.refl (a := s)) held).gauges

theorem State.gauges_detector {g : Gauges} (h : s.gauges = g) : s.leak.detector = g.detector := congrArg Gauges.detector h

theorem eventEnd_detector (s : State) : (eventEnd s).leak.detector =
    if s.leak.detector.active.isSome = true ∧ s.settings.user.leak.quietGap ≤ s.leak.detector.gap then {} else s.leak.detector := by
  unfold eventEnd
  dsimp only
  split <;> rfl

theorem detectorSecond_away (h : s.valve.state ≠ .opened) : (detectorSecond v held s).leak.detector = s.leak.detector.held := by
  unfold detectorSecond
  dsimp only
  rw [if_pos h]

theorem detectorSecond_open (h : s.valve.state = .opened) :
    (detectorSecond v held s).leak.detector = s.leak.detector.second s.settings.user.leak v := by
  unfold detectorSecond Detector.second
  dsimp only
  rw [if_neg (not_not.mpr h)]
  cases hn : s.leak.detector.active with
  | none =>
    unfold eventBegin
    dsimp only
    by_cases hr : 3 ≤ (s.leak.detector.quietSecond (thresholdSet s.settings.user.leak).trickle v).rising
    · rw [if_pos ⟨(Detector.quietSecond_active _ _ _).trans hn, hr⟩, if_pos hr, State.gauges_detector (flowTrip_gauges _ _)]
      rfl
    · rw [if_neg fun hc => hr hc.2, if_neg hr]
  | some set =>
    have gauges := flowTrip_gauges held { s with leak := { s.leak with detector := s.leak.detector.flowSecond set v } }
    have active := s.leak.detector.flowSecond_active set v
    dsimp only
    rw [eventEnd_detector, State.gauges_detector gauges, State.gauges_settings gauges]
    have some : (s.leak.detector.flowSecond set v).active.isSome = true := by rw [active, hn]; rfl
    by_cases hg : s.settings.user.leak.quietGap ≤ (s.leak.detector.flowSecond set v).gap
    · rw [if_pos ⟨some, hg⟩, if_pos hg]
    · rw [if_neg fun hc => hg hc.2, if_neg hg]
      rfl

end

/-! ### The events of the detector -/

section
variable {s : State} {x : SecondInputs} {f : Bool}

theorem exerciseSecond_resting (h : s.valve.exercise = .none) : exerciseSecond s = s := by
  unfold exerciseSecond
  rw [h]

theorem exerciseSecond_away (h : s.valve.state ≠ .opened) : (exerciseSecond s).valve.state ≠ .opened := by
  unfold exerciseSecond
  split
  · have idle (v : State) (hv : v.valve.state ≠ .opened) : exerciseStart v = v :=
      if_neg fun hc => by
        obtain ⟨-, hr⟩ := hc
        simp only [exerciseReady, Bool.and_eq_true, beq_iff_eq] at hr
        exact hv hr.1.1.1.2
    have expiry (v : State) (hv : v.valve.state ≠ .opened) : (armedExpiry v).valve.state ≠ .opened := by
      unfold armedExpiry
      split
      · exact hv
      · exact hv
    have counted : ({ s with valve := { s.valve with exerciseTime := s.valve.exerciseTime + 1 } } : State).valve.state ≠ .opened := h
    rw [idle _ counted]
    exact expiry _ counted
  · exact h
  · exact h

theorem clocked_detector (x : SecondInputs) (f : Bool) (s : State) : (s.clocked x f).leak.detector = s.leak.detector := by
  obtain ⟨g, worked⟩ := gauges_worked x f s
  have clocked := gauges_clocked x f s
  rw [State.gauges_detector clocked, worked]
  rfl

/-- The detector at the end of a second, while the valve is away from OPEN (R125). -/
theorem afterMetering_detector_away (x : SecondInputs) (f : Bool) (h : s.valve.state ≠ .opened) :
    (afterMetering x f s).leak.detector = s.leak.detector.held := by
  have rests := clocked_rests x f (.inl h : s.untestable)
  have away : (s.clocked x f).valve.state ≠ .opened := by rw [rests.valve]; exact h
  have kept := exercised_reacts (s.clocked x f)
  have before : (s.clocked x f).leak.detector = s.leak.detector := clocked_detector x f s
  rw [State.gauges_detector (gauges_second x f s)]
  dsimp only
  rw [detectorSecond_away (exerciseSecond_away away), State.gauges_detector kept.gauges]
  exact congrArg Detector.held before

/-- The detector at the end of a second of an OPEN valve that has no exercise and no test (R122 to R124). -/
theorem afterMetering_detector_open (x : SecondInputs) (f : Bool) (h : s.valve.state = .opened) (he : s.valve.exercise = .none)
    (ht : s.line.test = none) :
    (afterMetering x f s).leak.detector = s.leak.detector.second s.settings.user.leak s.meter.now.vH := by
  have rests := clocked_rests x f (.inr (.inl ht) : s.untestable)
  have opened : (s.clocked x f).valve.state = .opened := by rw [rests.valve]; exact h
  have resting : (s.clocked x f).valve.exercise = .none := by rw [rests.valve]; exact he
  obtain ⟨w, o, i, y, meter⟩ := afterMetering_meter x f s
  have same : (afterMetering x f s).meter = (s.clocked x f).meter := State.gauges_meter (gauges_second x f s)
  have flow : (s.clocked x f).meter.now = s.meter.now := by rw [← same, meter]
  have settings : (s.clocked x f).settings = s.settings :=
    (State.gauges_settings (gauges_second x f s)).symm.trans (afterMetering_settings x f s)
  rw [State.gauges_detector (gauges_second x f s)]
  dsimp only
  rw [exerciseSecond_resting resting, detectorSecond_open opened, clocked_detector, settings, flow]

end

/-- The tests of a new event (R124). -/
theorem eventBegin_eq {s : State} (ha : s.leak.detector.active = none) (hr : 3 ≤ s.leak.detector.rising) (held : Bool) :
    eventBegin held s = flowTrip held { s with leak := { s.leak with detector :=
      { active := some (thresholdSet s.settings.user.leak), seconds := 3, volume := s.leak.detector.risingVolume } } } := by
  unfold eventBegin
  dsimp only
  rw [if_pos ⟨ha, hr⟩]

theorem eventBegin_idle {s : State} (h : s.leak.detector.active ≠ none ∨ s.leak.detector.rising < 3) (held : Bool) : eventBegin held s = s := by
  unfold eventBegin
  dsimp only
  rw [if_neg fun hc => h.elim (fun hn => hn hc.1) fun hn => Nat.not_le.2 hn hc.2]

/-- R122 to R125: the detector's second and its events. Settles O31, by the detector's stage: the stages before it leave the valve and the
detector alone, and those after it the detector. -/
theorem flowEventsBeginAndEnd : Obligations.FlowEventsBeginAndEnd := by
  refine ⟨fun x s h => ?_, fun s h => ?_⟩
  · obtain ⟨b, e⟩ := exec_second x h
    obtain ⟨w, o, i, y, meter⟩ := afterMetering_meter x (secondFrozen x s) (s.metered x)
    have now : (afterMetering x (secondFrozen x s) (s.metered x)).meter.now = (s.metered x).meter.now := by rw [meter]
    have away := afterMetering_detector_away (s := s.metered x) x (secondFrozen x s)
    have still := afterMetering_detector_open (s := s.metered x) x (secondFrozen x s)
    obtain ⟨n, valve⟩ := advanced_valve x s
    have kept : (s.metered x).valve = { s.valve with travel := n } ∧ (s.metered x).leak = s.leak ∧ (s.metered x).line = s.line
        ∧ (s.metered x).settings = s.settings := by
      rw [(works_metered x s).meter_eq, (works_beforeMetering x s).filter_eq, ← valve]
      exact ⟨rfl, rfl, rfl, rfl⟩
    obtain ⟨valve, leak, line, settings⟩ := kept
    rw [valve, leak] at away still
    rw [line, settings, ← now] at still
    generalize afterMetering x (secondFrozen x s) (s.metered x) = t at e away still
    refine ⟨_, e, away, fun ho he ht => ?_⟩
    have second := still ho he ht
    dsimp only
    rw [second]
    refine ⟨fun hn hv => ?_, fun hn hv hr => ?_, fun hn hv hr => ?_, fun on hon => ⟨fun hv hg => ?_, fun hv => ?_⟩⟩
    · rw [Detector.second_quiet hn, Detector.quietSecond, if_neg (Nat.not_le.2 hv), if_neg (by simp)]
      rfl
    · rw [Detector.second_quiet hn, Detector.quietSecond, if_pos hv, if_neg (by dsimp only; omega)]
      rfl
    · rw [Detector.second_quiet hn, Detector.quietSecond, if_pos hv, if_pos (by dsimp only; omega)]
    · rw [Detector.second_flow hon, Detector.flowSecond]
      rw [if_pos hv, if_neg (by dsimp only; omega)]
      rfl
    · rw [Detector.second_flow hon, Detector.flowSecond]
      rw [if_neg (Nat.not_le.2 hv)]
      rfl
  · have begun (hl : s.meter.cond.lossActive = true ∨ 3 < (thresholdSet s.settings.user.leak).continuous
          ∧ s.leak.detector.risingVolume / 1000 < (thresholdSet s.settings.user.leak).volume
          ∧ 0 < (thresholdSet s.settings.user.leak).burstTime) :
        flowTrip s.meter.cond.lossActive { s with leak := { s.leak with detector :=
          { active := some (thresholdSet s.settings.user.leak), seconds := 3, volume := s.leak.detector.risingVolume } } }
        = { s with leak := { s.leak with detector :=
          { active := some (thresholdSet s.settings.user.leak), seconds := 3, volume := s.leak.detector.risingVolume } } } := by
      unfold flowTrip
      rcases hl with hl | ⟨h1, h2, h3⟩
      · rw [if_pos hl]
      · split
        · rfl
        · exact tripTests_none rfl (Nat.not_le.2 h1) (Nat.not_le.2 h2) (Nat.not_le.2 h3)
    refine ⟨fun hn => ?_, fun ha hr hl => ?_, fun ha hr _ h1 h2 h3 => ?_, fun hn => event_leaves h ?_, fun ha hg => event_leaves h ?_⟩
    · exact event_leaves (f := fun s => eventBegin s.meter.cond.lossActive s) h (eventBegin_idle hn _)
    · exact event_leaves (f := fun s => eventBegin s.meter.cond.lossActive s) h ((eventBegin_eq ha hr _).trans (begun (.inl hl)))
    · exact event_leaves (f := fun s => eventBegin s.meter.cond.lossActive s) h ((eventBegin_eq ha hr _).trans (begun (.inr ⟨h1, h2, h3⟩)))
    · unfold eventEnd
      dsimp only
      rw [if_neg fun hc => hn.elim (fun h0 => by rw [h0] at hc; exact Bool.false_ne_true hc.1) fun h0 => Nat.not_le.2 h0 hc.2]
    · unfold eventEnd
      dsimp only
      rw [if_pos ⟨Option.isSome_iff_ne_none.mpr ha, hg⟩]

end Sys2Proof.Machine

/-! What a change within a second makes of a tank, of the changeover, of the capacity records and of the disc's place. -/

namespace Sys2Proof.Machine

set_option Elab.async false

/-! ### A tank's record and the changeover in one change -/

/-- What one change within a second makes of the record of tank `o`; `timer` allows its step's timer. -/
inductive TankMove (timer : Bool) (s : State) (o : Tank) : TankRecord → Prop
  | marked (r : TankRecord) (h : (s.tank o).Marked r) : TankMove timer s o r
  | hours (n : Nat) : TankMove timer s o { s.tank o with hours := n }
  | begins (c : Recipe) (h : (s.tank o).service = .exhausted) : TankMove timer s o ((s.tank o).begin c)
  | arrives (x : Step) (hs : (s.tank o).service = .regenerating) (hk : (s.tank o).step = some x) (hp : (s.tank o).phase = some .toStep)
      (hd : s.stands (stepPosition o x)) : TankMove timer s o { s.tank o with phase := some .inStep }
  | next (y : Step) (hs : (s.tank o).service = .regenerating) (hp : (s.tank o).phase = some .stepEnded) :
      TankMove timer s o { s.tank o with step := some y, phase := some .toStep, elapsed := 0, elapsedMin := 0 }
  | home (hs : (s.tank o).service = .regenerating) (hp : (s.tank o).phase = some .stepEnded) :
      TankMove timer s o { s.tank o with phase := some .toReady }
  | ends (r : TankRecord) (hs : (s.tank o).service = .regenerating) (hp : (s.tank o).phase = some .toReady)
      (hd : s.stands (readyPosition o)) (hc : s.seq.changeover = none) (hr : r.service = .ready) : TankMove timer s o r
  | swaps (c : Changeover) (hc : s.seq.changeover = some c) (ho : o = c.outgoing.other) (hp : c.phase = .toChange)
      (hd : s.stands (changePosition c.outgoing)) : TankMove timer s o { (s.tank o).undue with service := .inService, hours := 0 }
  | holds (c : Changeover) (hc : s.seq.changeover = some c) (ho : o = c.outgoing) (hp : c.phase = .toHold)
      (hd : s.stands (holdPosition c.outgoing)) : TankMove timer s o { s.tank o with service := .exhausted }
  | steps (t : State) (ht : timer = true) (hr : stepRuns o s = true) (h : Stepped o s t) : TankMove timer s o (t.tank o)

/-- What one change within a second makes of the changeover and of the tank that is due; `dwell` allows the dwell's count. -/
inductive TurnMove (dwell : Bool) (s : State) : Option Changeover → Option Tank → Prop
  | same : TurnMove dwell s s.seq.changeover s.seq.due
  | due (k : Tank) (hs : (s.tank k).service = .inService) (hc : s.seq.changeover = none) (hd : s.seq.due = none) : TurnMove dwell s none (some k)
  | turns (k : Tank) (hd : s.seq.due = some k) (hr : (s.tank k.other).service = .ready) (hc : s.seq.changeover = none)
      (hf : s.discFree = true) (hm : s.supply.state = .mains) :
      TurnMove dwell s (some { outgoing := k, phase := .toChange, dwell := 0 }) none
  | swaps (c : Changeover) (hc : s.seq.changeover = some c) (hp : c.phase = .toChange) (hd : s.stands (changePosition c.outgoing)) :
      TurnMove dwell s (some { outgoing := c.outgoing, phase := .dwell, dwell := 0 }) s.seq.due
  | holds (c : Changeover) (hc : s.seq.changeover = some c) (hp : c.phase = .toHold) (hd : s.stands (holdPosition c.outgoing)) :
      TurnMove dwell s none s.seq.due
  | dwells (c : Changeover) (d : Nat) (p : ChangePhase) (he : dwell = true) (hc : s.seq.changeover = some c) (hp : c.phase = .dwell)
      (hd : p = .dwell ∨ p = .toHold) : TurnMove dwell s (some { c with phase := p, dwell := d }) s.seq.due

theorem TankRecord.Marked.refl (r : TankRecord) : r.Marked r := ⟨rfl, id⟩

section
variable {e : Span} {timer dwell tested own claims : Bool} {s t : State}

theorem TankMove.same (s : State) (o : Tank) : TankMove timer s o (s.tank o) := .marked _ (.refl _)

theorem TankMove.ofTank {k o : Tank} {r : TankRecord} (h : TankMove timer s k r) : TankMove timer s o ((s.withTank k r).tank o) := by
  rw [withTank_tank]
  split
  next ho =>
    subst ho
    exact h
  next => exact .same s o

/-- The Shutoff Controller's changes leave the sequencer, the disc, the capacity records and the brine alone. -/
theorem Shift.beside (h : Shift tested s t) : t.seq = s.seq ∧ t.disc = s.disc ∧ t.cap = s.cap ∧ t.brine = s.brine := by
  cases h <;> exact ⟨rfl, rfl, rfl, rfl⟩

theorem Shifts.beside (h : Shifts tested s t) : t.seq = s.seq ∧ t.disc = s.disc ∧ t.cap = s.cap ∧ t.brine = s.brine := by
  induction h with
  | refl => exact ⟨rfl, rfl, rfl, rfl⟩
  | tail _ last ih =>
    obtain ⟨seq, disc, cap, brine⟩ := last.beside
    exact ⟨seq.trans ih.1, disc.trans ih.2.1, cap.trans ih.2.2.1, brine.trans ih.2.2.2⟩

theorem State.tank_of_seq {o : Tank} (h : t.seq = s.seq) : t.tank o = s.tank o := by rw [State.tank, h]; rfl

theorem TankMove.unmoved {o : Tank} (h : t.seq = s.seq) : TankMove timer s o (t.tank o) := by
  rw [State.tank_of_seq h]
  exact .same s o

theorem React.tank (h : React own claims s t) (o : Tank) : TankMove timer s o (t.tank o) := by
  cases h with
  | marks k r h => exact (TankMove.marked r h).ofTank
  | begins k c h => exact (TankMove.begins c h).ofTank
  | arrives k x b n hs hk hp hd => exact (TankMove.arrives x hs hk hp hd).ofTank
  | next k x y hs hk hp => exact (TankMove.next y hs hp).ofTank
  | home k hs hp => exact (TankMove.home hs hp).ofTank
  | ends k r b c m n hs hp hd hc hr => exact (TankMove.ends r hs hp hd hc hr).ofTank
  | swaps c n hc hp hd => exact (TankMove.swaps c hc rfl hp hd).ofTank
  | holds c n hc hp hd => exact (TankMove.holds c hc rfl hp hd).ofTank
  | tests _ _ _ _ h => exact .unmoved h.beside.1
  | shifts _ _ h => exact .unmoved h.beside.1
  | _ => exact .same s o

theorem Pass.tank (h : Pass e own claims s t) (o : Tank) : TankMove e.timer s o (t.tank o) := by
  cases h with
  | reacts h => exact h.tank o
  | beside => exact .same s o
  | hours g n =>
    cases o with
    | a => exact .hours g
    | b => exact .hours n
  | dwells => exact .same s o
  | steps k ht hr h =>
    by_cases hk : o = k
    · subst hk
      exact .steps t ht hr h
    · have same : t.tank o = s.tank o := by
        rw [h.others]
        exact (withTank_tank s k o _).trans (if_neg hk)
      rw [same]
      exact .same s o

theorem TurnMove.unmoved (h : t.seq = s.seq) : TurnMove dwell s t.seq.changeover t.seq.due := by
  rw [h]
  exact .same

theorem React.turn (h : React own claims s t) : TurnMove dwell s t.seq.changeover t.seq.due := by
  cases h with
  | due k hs hc hd => exact hc ▸ .due k hs hc hd
  | turns k hd hr hf hm hc => exact .turns k hd hr hc hf hm
  | swaps c n hc hp hd => exact .swaps c hc hp hd
  | holds c n hc hp hd => exact .holds c hc hp hd
  | tests _ _ _ _ h => exact .unmoved h.beside.1
  | shifts _ _ h => exact .unmoved h.beside.1
  | _ => exact .same

theorem Pass.turn (h : Pass e own claims s t) : TurnMove e.dwell s t.seq.changeover t.seq.due := by
  cases h with
  | reacts h => exact h.turn
  | steps k _ _ h =>
    have seq : t.seq.changeover = s.seq.changeover ∧ t.seq.due = s.seq.due := by rw [h.others]; exact ⟨rfl, rfl⟩
    rw [seq.1, seq.2]
    exact .same
  | dwells c d p he hc hp hd => exact .dwells c d p he hc hp hd
  | _ => exact .same

/-! ### The disc's place -/

theorem Pass.position (h : Pass e own claims s t) : t.disc.position = s.disc.position := by
  cases h with
  | reacts h => exact congrArg Gauges.position h.gauges
  | steps k _ _ h => rw [h.others]; rfl
  | _ => rfl

theorem Pass.settings (h : Pass e own claims s t) : t.settings = s.settings := by
  cases h with
  | reacts h => exact State.gauges_settings h.gauges
  | steps k _ _ h => rw [h.others]; rfl
  | _ => rfl

theorem Pass.free (h : Pass e own claims s t) : t.discFree = true → s.discFree = true := by
  cases h with
  | reacts h => exact h.onward.free
  | steps k _ _ h => exact h.onward.free
  | _ => exact id

/-- A place that the disc does not hold free it does not come to hold within the second. -/
theorem Pass.stands (h : Pass e own claims s t) {p : Pos} (hn : ¬ s.stands p) : ¬ t.stands p :=
  fun ht => hn ⟨h.free ht.1, h.position ▸ ht.2⟩

/-! ### The capacity records -/

/-- What one change makes of a tank's capacity record and run count, apart from the Capacity Unit's own stage. -/
theorem Pass.unit (h : Pass e own claims s t) (he : e.unit = false) (o : Tank) : (t.record o = s.record o
      ∨ (s.tank o).service = .regenerating ∧ (s.tank o).phase = some .toReady ∧ s.stands (readyPosition o))
    ∧ (t.cap.runs.get o = s.cap.runs.get o
      ∨ (s.tank o).service = .regenerating ∨ ∃ c, s.seq.changeover = some c ∧ c.phase = .toHold ∧ s.stands (holdPosition c.outgoing)) := by
  have kept (hk : t.cap = s.cap) : t.record o = s.record o ∧ t.cap.runs.get o = s.cap.runs.get o := by
    rw [State.record, hk]
    exact ⟨rfl, rfl⟩
  cases h with
  | reacts h =>
    cases h with
    | ends k r b c m n hs hp hd =>
      by_cases ho : o = k
      · subst ho
        exact ⟨.inr ⟨hs, hp, hd⟩, .inr (.inl hs)⟩
      · exact ⟨.inl ((PerTank.get_set _ _ _ _).trans (if_neg ho)), .inl ((PerTank.get_set _ _ _ _).trans (if_neg ho))⟩
    | holds c n hc hp hd => exact ⟨.inl rfl, .inr (.inr ⟨c, hc, hp, hd⟩)⟩
    | tests _ _ _ _ h => exact ⟨.inl (kept h.beside.2.2.1).1, .inl (kept h.beside.2.2.1).2⟩
    | shifts _ _ h => exact ⟨.inl (kept h.beside.2.2.1).1, .inl (kept h.beside.2.2.1).2⟩
    | _ => exact ⟨.inl rfl, .inl rfl⟩
  | beside c m k n w h l b f d v y q g hk =>
    obtain ⟨hk, -⟩ := hk.resolve_left (by rw [he]; exact Bool.false_ne_true)
    subst hk
    exact ⟨.inl rfl, .inl rfl⟩
  | steps k _ _ h =>
    have same : t.cap = s.cap := by rw [h.others]; rfl
    exact ⟨.inl (kept same).1, .inl (kept same).2⟩
  | hours => exact ⟨.inl rfl, .inl rfl⟩
  | dwells => exact ⟨.inl rfl, .inl rfl⟩

/-- What one change makes of the brine measurement, apart from the level probe's stage. -/
theorem Pass.measure (h : Pass e own claims s t) (he : e.unit = false) : t.brine.measure = s.brine.measure
    ∨ (∃ k, (s.tank k).service = .regenerating ∧ (s.tank k).step = some .brine ∧ (s.tank k).phase = some .toStep
      ∧ s.stands (stepPosition k .brine))
    ∨ ∃ k, stepRuns k s = true ∧ (s.tank k).step = some .brine ∧ e.timer = true := by
  cases h with
  | reacts h =>
    cases h with
    | arrives k x b n hs hk hp hd hb hm =>
      by_cases hx : x = .brine
      · subst hx
        exact .inr (.inl ⟨k, hs, hk, hp, hd⟩)
      · exact .inl (hm hx)
    | ends k r b c m n hs hp hd hc hr hb => exact .inl hb.2.2.2
    | tests _ _ _ _ h => exact .inl (congrArg Brine.measure h.beside.2.2.2)
    | shifts _ _ h => exact .inl (congrArg Brine.measure h.beside.2.2.2)
    | _ => exact .inl rfl
  | beside c m k n w h l b f d v y q g hk =>
    obtain ⟨-, hb⟩ := hk.resolve_left (by rw [he]; exact Bool.false_ne_true)
    exact .inl hb
  | steps k ht hr h =>
    by_cases hk : (s.tank k).step = some .brine
    · exact .inr (.inr ⟨k, hr, hk, ht⟩)
    · exact .inl (h.measure hk)
  | hours => exact .inl rfl
  | dwells => exact .inl rfl

end

/-! ### Tanks that a second does not bring home -/

/-- A tank that does not regenerate before the second, or has come no further than its BACKWASH: it does not become READY. -/
def State.barred (o : Tank) (s : State) : Prop :=
  (s.tank o).service ≠ .regenerating ∨ ((s.tank o).step = some .backwash ∧ (s.tank o).phase = some .toStep)
    ∨ (s.disc.position = some (stepPosition o .backwash) ∧ ((s.tank o).phase = some .inStep → (s.tank o).step = some .backwash))

theorem readyPosition_ne_step (j k : Tank) (x : Step) : readyPosition j ≠ stepPosition k x := by
  cases j <;> cases k <;> cases x <;> decide

theorem holdPosition_ne_change (j k : Tank) : holdPosition j ≠ changePosition k := by
  cases j <;> cases k <;> decide

section
variable {e : Span} {timer own claims : Bool} {s t : State} {k o : Tank}

theorem State.barred_home (h : s.barred o) (hs : (s.tank o).service = .regenerating) (hp : (s.tank o).phase = some .toReady) :
    ¬ s.stands (readyPosition o) := by
  rintro ⟨-, position⟩
  rcases h with h | ⟨-, phase⟩ | ⟨place, -⟩
  · exact h hs
  · cases hp.symm.trans phase
  · exact readyPosition_ne_step o o .backwash (Option.some.inj (position.symm.trans place))

theorem TankMove.barred {r : TankRecord} (h : TankMove timer s o r) (hb : s.barred o) : r.service ≠ .regenerating
    ∨ (r.step = some .backwash ∧ r.phase = some .toStep)
    ∨ (s.disc.position = some (stepPosition o .backwash) ∧ (r.phase = some .inStep → r.step = some .backwash)) := by
  cases h with
  | marked _ h =>
    rw [h.others]
    exact hb
  | hours => exact hb
  | begins => exact .inr (.inl ⟨rfl, rfl⟩)
  | arrives x hs hk hp hd =>
    have backwash : x = .backwash ∧ s.disc.position = some (stepPosition o .backwash) := by
      rcases hb with hb | ⟨step, -⟩ | ⟨place, -⟩
      · exact absurd hs hb
      · have hx : x = .backwash := Option.some.inj (hk.symm.trans step)
        exact ⟨hx, hx ▸ hd.2⟩
      · exact ⟨(stepPosition_inj (Option.some.inj (hd.2.symm.trans place))).2, place⟩
    exact .inr (.inr ⟨backwash.2, fun _ => backwash.1 ▸ hk⟩)
  | next y hs hp =>
    rcases hb with hb | ⟨-, phase⟩ | ⟨place, -⟩
    · exact absurd hs hb
    · cases hp.symm.trans phase
    · exact .inr (.inr ⟨place, fun h => by cases h⟩)
  | home hs hp =>
    rcases hb with hb | ⟨-, phase⟩ | ⟨place, -⟩
    · exact absurd hs hb
    · cases hp.symm.trans phase
    · exact .inr (.inr ⟨place, fun h => by cases h⟩)
  | ends _ hs hp hd => exact absurd hd (State.barred_home hb hs hp)
  | swaps => exact .inl Service.noConfusion
  | holds => exact .inl Service.noConfusion
  | steps t _ hr h =>
    obtain ⟨hs, hp, -⟩ := (stepRuns_iff o s).mp hr
    rcases hb with hb | ⟨-, phase⟩ | ⟨place, still⟩
    · exact absurd hs hb
    · cases hp.symm.trans phase
    · exact .inr (.inr ⟨place, fun _ => h.step.trans (still hp)⟩)

theorem Pass.barred (h : Pass e own claims s t) (hb : s.barred o) : t.barred o := by
  rw [State.barred, h.position]
  exact (h.tank o).barred hb

/-- A barred tank that is not READY does not become so, and does not enter service outside a changeover. -/
theorem TankMove.unready {r : TankRecord} (h : TankMove timer s o r) (hb : s.barred o) (hc : s.seq.changeover = none)
    (hr : (s.tank o).service ≠ .ready) (hi : (s.tank o).service ≠ .inService) : r.service ≠ .ready ∧ r.service ≠ .inService := by
  cases h with
  | marked _ h =>
    rw [h.others]
    exact ⟨hr, hi⟩
  | begins => exact ⟨Service.noConfusion, Service.noConfusion⟩
  | ends _ hs hp hd => exact absurd hd (State.barred_home hb hs hp)
  | swaps c hc' => cases hc.symm.trans hc'
  | holds c hc' => cases hc.symm.trans hc'
  | steps t _ _ h =>
    rw [h.record]
    exact ⟨hr, hi⟩
  | _ => exact ⟨hr, hi⟩

/-! ### The tank in service -/

/-- A tank is in service, and no changeover has got beyond its changeover position. -/
def State.serves (k : Tank) (s : State) : Prop :=
  (s.tank k).service = .inService
    ∧ ∀ c, s.seq.changeover = some c → c.phase = .toChange ∨ s.disc.position = some (changePosition c.outgoing)

theorem State.serves_holds (h : s.serves k) {c : Changeover} (hc : s.seq.changeover = some c) (hp : c.phase = .toHold) :
    ¬ s.stands (holdPosition c.outgoing) := by
  rintro ⟨-, position⟩
  rcases h.2 c hc with phase | place
  · cases hp.symm.trans phase
  · exact holdPosition_ne_change _ _ (Option.some.inj (position.symm.trans place))

theorem TankMove.serves {r : TankRecord} (h : TankMove timer s k r) (hs : s.serves k) : r.service = .inService := by
  obtain ⟨service, -⟩ := id hs
  cases h with
  | marked _ h =>
    rw [h.others]
    exact service
  | hours => exact service
  | begins _ h => cases service.symm.trans h
  | arrives _ h => cases service.symm.trans h
  | next _ h => cases service.symm.trans h
  | home h => cases service.symm.trans h
  | ends _ h => cases service.symm.trans h
  | swaps => rfl
  | holds c hc _ hp hd => exact absurd hd (State.serves_holds hs hc hp)
  | steps t _ hr h => cases service.symm.trans ((stepRuns_iff k s).mp hr).1

theorem Pass.serves (h : Pass e own claims s t) (hs : s.serves k) : t.serves k := by
  refine ⟨(h.tank k).serves hs, ?_⟩
  have turn := h.turn
  rw [h.position]
  generalize t.seq.changeover = c at turn
  generalize t.seq.due = d at turn
  intro c' hc'
  cases turn with
  | same => exact hs.2 c' hc'
  | due => cases hc'
  | turns =>
    cases hc'
    exact .inl rfl
  | swaps c hc hp hd =>
    cases hc'
    exact .inr hd.2
  | holds => cases hc'
  | dwells c d p _ hc hp hd =>
    cases hc'
    exact .inr ((hs.2 c hc).resolve_left fun hn => by cases hp.symm.trans hn)

/-! ### A changeover that waits for its tank -/

/-- A tank serves alone while the other cannot become READY: its changeover may become due and does not begin. -/
structure State.Wears (k : Tank) (s : State) : Prop where
  changeover : s.seq.changeover = none
  service : (s.tank k).service = .inService
  other : (s.tank k.other).service ≠ .ready ∧ (s.tank k.other).service ≠ .inService
  barred : s.barred k.other
  due : s.seq.due = none ∨ s.seq.due = some k

theorem Pass.wears (h : Pass e own claims s t) (hw : s.Wears k) : t.Wears k ∧ (s.seq.due = some k → t.seq.due = some k) := by
  obtain ⟨changeover, service, ⟨ready, idle⟩, barred, due⟩ := hw
  have turned : t.seq.changeover = none ∧ (t.seq.due = none ∨ t.seq.due = some k) ∧ (s.seq.due = some k → t.seq.due = some k) := by
    have turn := h.turn
    generalize t.seq.changeover = c at turn
    generalize t.seq.due = d at turn
    cases turn with
    | same => exact ⟨changeover, due, id⟩
    | due j hs hc hd =>
      have hj : j = k := (Tank.eq_or_other j k).resolve_right fun ho => idle (ho ▸ hs)
      exact ⟨rfl, .inr (hj ▸ rfl), fun h => by cases hd.symm.trans h⟩
    | turns j hd hr =>
      rcases due with none | some
      · cases none.symm.trans hd
      · cases some.symm.trans hd
        exact absurd hr ready
    | swaps c hc => cases changeover.symm.trans hc
    | holds c hc => cases changeover.symm.trans hc
    | dwells c d p _ hc => cases changeover.symm.trans hc
  refine ⟨⟨turned.1, (h.tank k).serves ⟨service, fun c hc => by cases changeover.symm.trans hc⟩,
    (h.tank k.other).unready barred changeover ready idle, h.barred barred, turned.2.1⟩, turned.2.2⟩

end

end Sys2Proof.Machine

/-! The answers to an exhaustion, and the projection of an hour. -/

namespace Sys2Proof.Machine

set_option Elab.async false

section
variable {s : State} {k : Tank}

theorem serviceTank_iff : s.serviceTank = some k ↔ (s.tank k).service = .inService ∧ (s.tank k.other).service ≠ .inService := by
  unfold State.serviceTank
  cases ha : (s.tank .a).service == Service.inService <;> cases hb : (s.tank .b).service == Service.inService <;>
    simp only [beq_iff_eq, beq_eq_false_iff_ne] at ha hb <;> cases k <;> simp [Tank.other, ha, hb]

/-! ### An exhaustion (R61, R62, R67) -/

/-- The changeover that a tank's exhaustion has made due waits for the other tank (R61, R67). -/
theorem takeExhaustion_waits (hs : (s.tank k).service = .inService) (hc : s.seq.changeover = none) (hd : s.seq.due = none)
    (hr : (s.tank k.other).service ≠ .ready) : takeExhaustion k s =
      if (s.tank k.other).service = .exhausted then
        (post1 .changeoverPending (.tank k) (serviceCode (s.tank k.other).service) { s with seq := { s.seq with due := some k } }).withTank
          k.other { s.tank k.other with urgent := .forced }
      else post1 .changeoverPending (.tank k) (serviceCode (s.tank k.other).service) { s with seq := { s.seq with due := some k } } := by
  unfold takeExhaustion changeoverPending
  rw [if_pos ⟨hs, hc, hd⟩, if_neg hr]
  rfl

theorem takeExhaustion_begins (hs : (s.tank k).service = .inService) (hc : s.seq.changeover = none) (hd : s.seq.due = none)
    (hr : (s.tank k.other).service = .ready) : takeExhaustion k s = changeoverBegin { s with seq := { s.seq with due := some k } } := by
  unfold takeExhaustion
  rw [if_pos ⟨hs, hc, hd⟩, if_pos hr]

theorem changeArrival_others (k : Tank) (s : State) : ∃ n, changeArrival k s = { s with
    seq := { s.seq with
      tanks := s.seq.tanks.set k.other { (s.tank k.other).undue with service := .inService, hours := 0 }
      changeover := some { outgoing := k, phase := .dwell, dwell := 0 } }
    notices := n } := by
  obtain ⟨n, e⟩ := changeTank_notices k.other { (s.tank k.other).undue with service := .inService, hours := 0 } s
  unfold changeArrival
  dsimp only
  rw [e]
  exact ⟨n, rfl⟩

/-- A changeover whose disc already stands at its position has the incoming tank in service at once (R62, R63). -/
theorem changeoverBegin_due_arrives (hr : (s.tank k.other).service = .ready) (hf : s.discFree = true) (hm : s.supply.state = .mains)
    (hc : s.seq.changeover = none) (hd : s.seq.due = some k) (hp : s.disc.position = some (changePosition k)) : ∃ n,
    changeoverBegin s = { s with
      seq := { s.seq with
        tanks := s.seq.tanks.set k.other { (s.tank k.other).undue with service := .inService, hours := 0 }
        changeover := some { outgoing := k, phase := .dwell, dwell := 0 }, due := none }
      disc := { s.disc with target := none, requester := none }, notices := n } := by
  have free : State.discFree { s with seq := { s.seq with
      changeover := some { outgoing := k, phase := .toChange, dwell := 0 }, due := none } } = true := hf
  have reply : moveReply (changePosition k) { s with seq := { s.seq with
      changeover := some { outgoing := k, phase := .toChange, dwell := 0 }, due := none } } = .arrived := by
    rw [moveReply, free, if_pos rfl, if_pos hp]
  have begun : changeoverBegin s = changeArrival k { s with
      seq := { s.seq with changeover := some { outgoing := k, phase := .toChange, dwell := 0 }, due := none }
      disc := { s.disc with target := none, requester := none } } := by
    unfold changeoverBegin
    rw [hd]
    dsimp only
    rw [if_pos ⟨hr, hf, hm, hc⟩, if_pos reply, discRequest, reply]
  rw [begun]
  exact changeArrival_others k _

theorem tank_ne_other (k : Tank) : k ≠ k.other := by cases k <;> exact Tank.noConfusion

/-- An exhaustion leaves the tank that is exhausted alone. -/
theorem takeExhaustion_tank (k : Tank) (s : State) : (takeExhaustion k s).tank k = s.tank k := by
  by_cases hx : (s.tank k).service = .inService ∧ s.seq.changeover = none ∧ s.seq.due = none
  · obtain ⟨hs, hc, hd⟩ := hx
    by_cases hr : (s.tank k.other).service = .ready
    · rw [takeExhaustion_begins hs hc hd hr]
      by_cases hb : s.discFree = true ∧ s.supply.state = .mains
      · by_cases hp : s.disc.position = some (changePosition k)
        · obtain ⟨n, e⟩ := changeoverBegin_due_arrives (s := { s with seq := { s.seq with due := some k } }) (k := k) hr hb.1 hb.2 hc rfl hp
          rw [e]
          exact (PerTank.get_set _ _ _ _).trans (if_neg (tank_ne_other k))
        · rw [changeoverBegin_due_moves hd hr hb.1 hb.2 hc hp]
          rfl
      · rw [changeoverBegin_waits (s := { s with seq := { s.seq with due := some k } }) fun t _ h => hb ⟨h.2.1, h.2.2.1⟩]
        rfl
    · rw [takeExhaustion_waits hs hc hd hr]
      split
      · exact (withTank_tank _ _ _ _).trans (if_neg (tank_ne_other k))
      · rfl
  · rw [takeExhaustion, if_neg hx]

/-! ### The projection (R39 to R41) -/

/-- The urgency of a tank after the projection's verdict (R41, R67). -/
theorem askProjection_urgent {v : Tank} (hv : s.serviceTank = some v) (k : Tank) : ((askProjection k s).tank k).urgent =
    if s.seq.timing = .immediate ∨ (s.tank k).urgent = .forced then (s.tank k).urgent
    else if projectionUrgent k v s = true then .projected else .none := by
  unfold askProjection
  rw [hv]
  cases s.seq.timing with
  | immediate => rw [if_pos (.inl rfl)]
  | window =>
    dsimp only
    cases hu : (s.tank k).urgent <;> cases hj : projectionUrgent k v s <;> simp [hu]

end

end Sys2Proof.Machine

/-! The calendar and the service days: O17. -/

namespace Sys2Proof.Machine

set_option Elab.async false

section
variable {s : State} {x : SecondInputs}

/-! ### What the metering stage leaves alone -/

/-- What the stages as far as the metering leave of a state, the Metering Unit's own record apart. -/
structure Metered (s t : State) : Prop where
  settings : t.settings = s.settings
  clock : t.clock = s.clock.advance
  seq : t.seq = { s.seq with calendar := t.seq.calendar }
  disc : t.disc = { s.disc with legTime := t.disc.legTime }
  line : t.line = s.line
  brine : t.brine = s.brine
  leak : t.leak = s.leak
  supply : t.supply.state = s.supply.state
  valve : t.valve = { s.valve with travel := t.valve.travel }
  pods : t.pods = s.pods
  cap : t.cap = { s.cap with runs := t.cap.runs }

theorem metered_metered (x : SecondInputs) (s : State) : Metered s (s.metered x) := by
  obtain ⟨n, disc⟩ := advanced_disc x s
  obtain ⟨m, valve⟩ := advanced_valve x s
  have e := (works_metered x s).meter_eq
  rw [(works_beforeMetering x s).filter_eq] at e
  rw [e]
  refine ⟨rfl, rfl, rfl, ?_, rfl, rfl, rfl, rfl, ?_, rfl, rfl⟩
  · show (s.advanced x).disc = { s.disc with legTime := (s.advanced x).disc.legTime }
    rw [disc]
  · show (s.advanced x).valve = { s.valve with travel := (s.advanced x).valve.travel }
    rw [valve]

theorem Metered.tank {t : State} (h : Metered s t) (k : Tank) : t.tank k = s.tank k := by
  rw [State.tank, h.seq]
  rfl

theorem Metered.free {t : State} (h : Metered s t) : t.discFree = s.discFree := by rw [State.discFree, h.disc]; rfl

theorem Metered.position {t : State} (h : Metered s t) : t.disc.position = s.disc.position := by rw [h.disc]

theorem Metered.changeover {t : State} (h : Metered s t) : t.seq.changeover = s.seq.changeover := by rw [h.seq]

theorem Metered.due {t : State} (h : Metered s t) : t.seq.due = s.seq.due := by rw [h.seq]

theorem Metered.record {t : State} (h : Metered s t) (k : Tank) : t.record k = s.record k := by rw [State.record, h.cap]; rfl

theorem meterLossBegin_seq (s : State) : (meterLossBegin s).seq = s.seq := by
  unfold meterLossBegin
  dsimp only
  split <;> rfl

theorem meterLossEnd_calendar (h : (meterLossEnd s).meter.cond.lossActive = true) : (meterLossEnd s).seq.calendar = s.seq.calendar := by
  unfold meterLossEnd at h ⊢
  dsimp only at h ⊢
  by_cases hc : s.meter.cond.lossActive = true ∧ 10 ≤ s.meter.cond.clearCount
  · rw [if_pos hc] at h
    cases h
  · rw [if_neg hc]

/-- The calendar count after the metering stage: METER_LOSS sets it back at its end (R9, R68). -/
theorem metered_count (x : SecondInputs) (s : State) : (s.metered x).seq.calendar =
    if s.meter.cond.lossActive = true ∧ (s.metered x).meter.cond.lossActive = false then 0 else s.seq.calendar := by
  obtain ⟨-, -, -, cond, seq⟩ := pulsed_eq x s
  obtain ⟨-, -, active⟩ := metered_loss x s
  rw [metered_calendar, active, ← seq, ← cond]
  generalize s.pulsed x = w
  by_cases h : w.meter.cond.lossActive = true ∧ (lossSecond w).meter.cond.lossActive = false
  · rw [if_pos h]
    exact lossSecond_calendar h.1 h.2
  · rw [if_neg h]
    by_cases ha : w.meter.cond.lossActive = true
    · have on : (lossSecond w).meter.cond.lossActive = true := by simpa [ha] using h
      unfold lossSecond at on ⊢
      dsimp only at on ⊢
      rw [if_pos ha] at on ⊢
      exact meterLossEnd_calendar on
    · unfold lossSecond
      dsimp only
      rw [if_neg ha, meterLossBegin_seq]

end

end Sys2Proof.Machine

/-! The calendar and the service days, assembled: O17. -/

namespace Sys2Proof.Machine

set_option Elab.async false

section
variable {s : State} {k : Tank} {x : SecondInputs}

/-! ### The calendar (R68) -/

theorem calendarFallback_raises (hl : s.meter.cond.lossActive = true) (hd : s.settings.user.soft.calendarDays ≤ s.seq.calendar)
    (hk : s.serviceTank = some k) : calendarFallback s = takeExhaustion k { s with seq := { s.seq with calendar := 0 } } := by
  unfold calendarFallback
  rw [if_pos ⟨hl, hd⟩, hk]

theorem calendarFallback_none (hl : s.meter.cond.lossActive = true) (hd : s.settings.user.soft.calendarDays ≤ s.seq.calendar)
    (hk : s.serviceTank = none) : calendarFallback s = { s with seq := { s.seq with calendar := 0 } } := by
  unfold calendarFallback
  rw [if_pos ⟨hl, hd⟩, hk]

theorem takeExhaustion_calendar (k : Tank) (s : State) : (takeExhaustion k s).seq.calendar = s.seq.calendar :=
  State.gauges_calendar (reacts_takeExhaustion (own := false) (claims := false) .refl k).gauges

/-- The calendar's stage when the window hour is reached (R68). -/
theorem calendarSecond_counts (hl : s.meter.cond.lossActive = true) (hw : s.clock.second = s.seq.windowHour * 3600)
    (hd : s.seq.calendar + 1 < s.settings.user.soft.calendarDays) :
    calendarSecond s = { s with seq := { s.seq with calendar := s.seq.calendar + 1 } } := by
  unfold calendarSecond
  rw [if_pos ⟨hl, hw⟩, calendarFallback, if_neg fun hc => Nat.not_le.2 hd hc.2]

theorem calendarSecond_raises (hl : s.meter.cond.lossActive = true) (hw : s.clock.second = s.seq.windowHour * 3600)
    (hd : s.settings.user.soft.calendarDays ≤ s.seq.calendar + 1) : (calendarSecond s).seq.calendar = 0
      ∧ ∀ k, s.serviceTank = some k → calendarSecond s = takeExhaustion k { s with seq := { s.seq with calendar := 0 } } := by
  have e : calendarSecond s = calendarFallback { s with seq := { s.seq with calendar := s.seq.calendar + 1 } } := by
    rw [calendarSecond, if_pos ⟨hl, hw⟩]
  rw [e]
  refine ⟨?_, fun k hk => calendarFallback_raises (s := { s with seq := { s.seq with calendar := s.seq.calendar + 1 } }) hl hd hk⟩
  cases hk : s.serviceTank with
  | none => rw [calendarFallback_none (s := { s with seq := { s.seq with calendar := s.seq.calendar + 1 } }) hl hd hk]
  | some k =>
    rw [calendarFallback_raises (s := { s with seq := { s.seq with calendar := s.seq.calendar + 1 } }) hl hd hk, takeExhaustion_calendar]

theorem calendarSecond_away (h : ¬ (s.meter.cond.lossActive = true ∧ s.clock.second = s.seq.windowHour * 3600)) : calendarSecond s = s := by
  rw [calendarSecond, if_neg h]

theorem Metered.wears {t : State} (h : Metered s t) (hk : s.serviceTank = some k) (hc : s.seq.changeover = none)
    (hd : s.seq.due = none ∨ s.seq.due = some k) (hr : (s.tank k.other).service ≠ .ready) (hn : (s.tank k.other).service ≠ .regenerating) :
    t.Wears k := by
  obtain ⟨service, idle⟩ := serviceTank_iff.mp hk
  exact ⟨h.changeover.trans hc, by rw [h.tank]; exact service, by rw [h.tank]; exact ⟨hr, idle⟩, .inl (by rw [h.tank]; exact hn),
    by rw [h.due]; exact hd⟩

/-- An exhaustion of a tank whose other is not ready makes the changeover due. -/
theorem State.Wears.due_takeExhaustion (h : s.Wears k) : (takeExhaustion k s).seq.due = some k := by
  rcases h.due with hd | hd
  · rw [takeExhaustion_waits h.service h.changeover hd h.other.1]
    split <;> rfl
  · rw [takeExhaustion, if_neg fun hc => by cases hd.symm.trans hc.2.2]
    exact hd

theorem State.Wears.serviceTank (h : s.Wears k) : s.serviceTank = some k := serviceTank_iff.mpr ⟨h.service, h.other.2⟩

/-- A changeover made due after the clock's stages stays due. -/
theorem afterMetering_due {f : Bool} (hw : (s.clocked x f).Wears k) (hd : (s.clocked x f).seq.due = some k) :
    (afterMetering x f s).seq.due = some k := by
  have kept : (afterMetering x f s).Wears k ∧ (afterMetering x f s).seq.due = some k :=
    clock_keeps (I := fun t => t.Wears k ∧ t.seq.due = some k) (fun h ⟨hw, hd⟩ => ⟨(h.wears hw).1, (h.wears hw).2 hd⟩) ⟨hw, hd⟩
  exact kept.2

/-- The calendar of a second (R68). -/
theorem second_calendar (x : SecondInputs) (h : s.stopped = false) : ∃ v, exec (.meteringSecond x) s = .next v ∧
    let c := s.settings.user.soft
    let lost := v.meter.cond.lossActive
    let reached : Prop := lost = true ∧ s.clock.advance.second = c.windowHour * 3600
    (¬ reached → v.seq.calendar = if s.meter.cond.lossActive = true ∧ lost = false then 0 else s.seq.calendar)
    ∧ (reached → s.seq.calendar + 1 < c.calendarDays → v.seq.calendar = s.seq.calendar + 1)
    ∧ (reached → c.calendarDays ≤ s.seq.calendar + 1 → v.seq.calendar = 0
      ∧ ∀ k, s.serviceTank = some k → s.seq.changeover = none → s.seq.due = none → (s.tank k.other).service ≠ .ready →
        (s.tank k.other).service ≠ .regenerating → v.seq.due = some k) := by
  obtain ⟨b, e⟩ := exec_second x h
  have kept := metered_metered x s
  have count := metered_count x s
  obtain ⟨w, o, i, y, meter⟩ := afterMetering_meter x (secondFrozen x s) (s.metered x)
  obtain ⟨c, last, calendar, cond, second, hour, settings, hc⟩ := afterMetering_calendar x (secondFrozen x s) (s.metered x)
  have lost : (afterMetering x (secondFrozen x s) (s.metered x)).meter.cond.lossActive = (s.metered x).meter.cond.lossActive := by rw [meter]
  rw [kept.settings] at hour settings
  rw [kept.clock] at second
  refine ⟨_, e, ?_⟩
  dsimp only
  rw [lost, last]
  have stage (hl : (s.metered x).meter.cond.lossActive = true) (hs : s.clock.advance.second = s.settings.user.soft.windowHour * 3600) :
      c.meter.cond.lossActive = true ∧ c.clock.second = c.seq.windowHour * 3600 ∧ c.seq.calendar = s.seq.calendar := by
    rw [if_neg fun hn => by cases hl.symm.trans hn.2] at count
    exact ⟨by rw [cond]; exact hl, by rw [second, hour]; exact hs, calendar.trans count⟩
  refine ⟨fun hn => ?_, fun ⟨hl, hs⟩ hd => ?_, fun ⟨hl, hs⟩ hd => ?_⟩
  · rw [calendarSecond_away (by rw [cond, second, hour]; exact hn), calendar, count]
  · obtain ⟨on, at_, was⟩ := stage hl hs
    rw [calendarSecond_counts on at_ (by rw [was, settings]; exact hd), ← was]
  · obtain ⟨on, at_, was⟩ := stage hl hs
    obtain ⟨zero, raises⟩ := calendarSecond_raises on at_ (by rw [was, settings]; exact hd)
    refine ⟨zero, fun k hk hn hdue hr hg => ?_⟩
    have wears : c.Wears k := by
      rw [hc]
      exact hourly_keeps (I := State.Wears k) (fun h hw => (h.wears hw).1) (kept.wears hk hn (.inl hdue) hr hg)
    have raised := raises k wears.serviceTank
    have clocked : (s.metered x).clocked x (secondFrozen x s) = calendarSecond c := by rw [State.clocked, hc]
    refine afterMetering_due ?_ ?_
    · rw [clocked]
      exact (passes_calendarSecond (e := {}) (own := false) (claims := false) c).keeps (I := State.Wears k) (fun h hw => (h.wears hw).1) wears
    · rw [clocked, raised]
      have wears' : State.Wears k { c with seq := { c.seq with calendar := 0 } } :=
        ⟨wears.changeover, wears.service, wears.other, wears.barred, wears.due⟩
      exact wears'.due_takeExhaustion

/-! ### The hour close (R67, R68) -/

/-- The hour close before the limit of the service days: the hour placed and the hours counted. -/
theorem hourClose_counted (h : s.clock.hourDue = true) : ∃ w : State, hourClose s = projectionHour .b (projectionHour .a (maxServiceDays w))
    ∧ w = { s with
      clock := { s.clock with hourDue := false }, meter := { s.meter with hour := w.meter.hour, history := w.meter.history }
      seq := { s.seq with tanks := ⟨{ s.tank .a with hours := (w.tank .a).hours }, { s.tank .b with hours := (w.tank .b).hours }⟩ }
      notices := w.notices, link := w.link }
    ∧ ∀ j, (w.tank j).hours = if (s.tank j).service = .inService then min 65535 ((s.tank j).hours + 1) else (s.tank j).hours := by
  obtain ⟨y, n, l, e, -⟩ := closeHour_others { s with clock := { s.clock with hourDue := false } }
  obtain ⟨g, first⟩ := serviceHour_others .a (closeHour { s with clock := { s.clock with hourDue := false } })
  obtain ⟨g', second⟩ := serviceHour_others .b (serviceHour .a (closeHour { s with clock := { s.clock with hourDue := false } }))
  have hours := fun j => serviceHours_tank j (closeHour { s with clock := { s.clock with hourDue := false } })
  have closed : hourClose s = projectionHour .b (projectionHour .a (maxServiceDays (serviceHour .b (serviceHour .a
      (closeHour { s with clock := { s.clock with hourDue := false } }))))) := by
    rw [hourClose, if_pos h, sequencerHour]
  refine ⟨_, closed, ?_, fun j => ?_⟩
  · rw [second, first, e]
    rfl
  · rw [hours j, e]
    rfl

theorem projectionHour_idle (h : (s.tank k).service ≠ .exhausted) : projectionHour k s = s := if_neg h

theorem projectionHour_asks (h : (s.tank k).service = .exhausted) : projectionHour k s = askProjection k s := if_pos h

theorem projectionHours_seq (s : State) : (projectionHour .b (projectionHour .a s)).seq.due = s.seq.due
    ∧ (projectionHour .b (projectionHour .a s)).seq.changeover = s.seq.changeover := by
  obtain ⟨a, first⟩ := projectionHour_others .a s
  obtain ⟨b, second⟩ := projectionHour_others .b (projectionHour .a s)
  rw [second, first]
  exact ⟨rfl, rfl⟩

/-- The projections of an hour close ask for the tank that does not serve. -/
theorem projectionHours_urgent {v : Tank} (hv : (s.tank v).service ≠ .exhausted) :
    ((projectionHour .b (projectionHour .a s)).tank v.other).urgent = ((projectionHour v.other s).tank v.other).urgent := by
  cases v with
  | a => rw [projectionHour_idle (k := .a) hv]; rfl
  | b =>
    have same : ((projectionHour .a s).tank .b).service = (s.tank .b).service := by
      obtain ⟨a, e⟩ := projectionHour_others .a s
      rw [e]
      rfl
    rw [projectionHour_idle (k := .b) (by rw [same]; exact hv)]
    rfl

theorem maxServiceDays_worn (hv : s.serviceTank = some k) (hw : s.settings.user.soft.maxServiceDays ≠ 0
    ∧ s.settings.user.soft.maxServiceDays * 24 < (s.tank k).hours) : maxServiceDays s = takeExhaustion k s := by
  unfold maxServiceDays
  rw [hv]
  exact if_pos hw

theorem maxServiceDays_fresh (hv : s.serviceTank = some k) (hw : ¬ (s.settings.user.soft.maxServiceDays ≠ 0
    ∧ s.settings.user.soft.maxServiceDays * 24 < (s.tank k).hours)) : maxServiceDays s = s := by
  unfold maxServiceDays
  rw [hv]
  exact if_neg hw

theorem maxServiceDays_hours (hv : s.serviceTank = some k) : (maxServiceDays s).tank k = s.tank k := by
  by_cases hw : s.settings.user.soft.maxServiceDays ≠ 0 ∧ s.settings.user.soft.maxServiceDays * 24 < (s.tank k).hours
  · rw [maxServiceDays_worn hv hw, takeExhaustion_tank]
  · rw [maxServiceDays_fresh hv hw]

/-- A forced urgency stays in a projection (R67). -/
theorem projectionHour_forced (h : (s.tank k).urgent = .forced) : ((projectionHour k s).tank k).urgent = .forced := by
  unfold projectionHour
  split
  · unfold askProjection
    dsimp only
    split
    · rw [h]
      split
      next hu _ => cases hu
      next hu _ => cases hu
      next => exact h
    · exact h
  · exact h

end

/-- The projection's verdict in numbers (R39 to R41). -/
theorem projectionUrgent_iff (t v : Tank) (s : State) : projectionUrgent t v s = true ↔
    (let c := s.settings.user.soft
    let average := if s.meter.week = [] then c.designUse else s.meter.week.sum / s.meter.week.length
    let w := c.windowHour * 3600
    let toWindow := (if s.clock.second < w then w - s.clock.second else w + 86400 - s.clock.second) / 3600
    let refill := (c.dose * s.resin t * 100 + 359) / 360
    let hours := toWindow + (c.backwash + c.brine + c.rinse + (refill + 7) / 8 + 84 + 3599) / 3600
    let need : Nat := average * s.cap.hEff * hours / 24
    let r := s.record v
    let spare : Int := r.remaining - (r.credited * c.margin / 1000 : Nat)
    spare ≤ (need : Int)) := decide_eq_true_iff

/-- R67 and R68: the calendar, the service days and the projections. Settles O17, by the answers to an exhaustion, and by what the stages of a
second keep of a tank that serves alone. -/
theorem calendarRaisesExhaustion : Obligations.CalendarRaisesExhaustion := by
  refine ⟨fun s h hl hd => ⟨fun hk => event_leaves h (calendarFallback_none hl hd hk), fun t hk hc hdue hr => event_leaves h ?_⟩,
    fun t s h hl hd hk hc hdue hr => ?_, fun x s h => second_calendar x h, fun v s h hd hv hc => ?_⟩
  · obtain ⟨service, -⟩ := serviceTank_iff.mp hk
    exact (calendarFallback_raises hl hd hk).trans (takeExhaustion_waits (s := { s with seq := { s.seq with calendar := 0 } }) service hc hdue hr)
  · obtain ⟨service, -⟩ := serviceTank_iff.mp hk
    have raised : calendarFallback s = changeoverBegin { s with seq := { s.seq with calendar := 0, due := some t } } :=
      (calendarFallback_raises hl hd hk).trans
        (takeExhaustion_begins (s := { s with seq := { s.seq with calendar := 0 } }) service hc hdue hr)
    refine ⟨fun hn => event_leaves h ?_, fun hf hm hp => event_leaves h ?_, fun hf hm hp => ⟨_, event_leaves h raised, ?_⟩⟩
    · exact raised.trans (changeoverBegin_due_waits (s := { s with seq := { s.seq with calendar := 0 } }) hn)
    · exact raised.trans (changeoverBegin_due_moves (s := { s with seq := { s.seq with calendar := 0 } }) hdue hr hf hm hc hp)
    · obtain ⟨n, e⟩ := changeoverBegin_due_arrives (s := { s with seq := { s.seq with calendar := 0, due := some t } }) hr hf hm hc rfl hp
      rw [e]
      refine ⟨rfl, rfl, rfl, ?_, (PerTank.get_set _ _ _ _).trans (if_neg (tank_ne_other t))⟩
      exact congrArg TankRecord.service (PerTank.get_set_same s.seq.tanks t.other _)
  · obtain ⟨w, e, hw, hours⟩ := hourClose_counted hd
    obtain ⟨service, idle⟩ := serviceTank_iff.mp hv
    have tank (j : Tank) : w.tank j = { s.tank j with hours := (w.tank j).hours } := by
      rw [State.tank, hw]
      cases j <;> rfl
    have services (j : Tank) : (w.tank j).service = (s.tank j).service := by rw [tank j]
    have serves : w.serviceTank = some v := serviceTank_iff.mpr ⟨by rw [services]; exact service, by rw [services]; exact idle⟩
    have changeover : w.seq.changeover = none := by rw [hw]; exact hc
    have due : w.seq.due = s.seq.due := by rw [hw]
    have settings : w.settings = s.settings := by rw [hw]
    have hour : (w.tank v).hours = min 65535 ((s.tank v).hours + 1) := by rw [hours, if_pos service]
    refine ⟨_, event_leaves h e, ?_, fun hn => ?_, fun hworn hdue => ⟨fun hr => ?_, fun hr hf hm hp => ?_⟩, fun hx hn => ?_⟩
    · rw [projectionHour_hours, projectionHour_hours, maxServiceDays_hours serves, hour]
    · rw [maxServiceDays_fresh serves (by rw [settings, hour]; exact hn), (projectionHours_seq w).1, (projectionHours_seq w).2]
      exact ⟨due, changeover⟩
    · have worn := maxServiceDays_worn serves (by rw [settings, hour]; exact hworn)
      have same := takeExhaustion_tank v w
      have raised := takeExhaustion_waits (by rw [services]; exact service) changeover (due.trans hdue) (by rw [services]; exact hr)
      rw [worn, (projectionHours_seq _).1, (projectionHours_seq _).2]
      refine ⟨?_, ?_, fun hx => ?_⟩
      · rw [raised]
        split <;> rfl
      · rw [raised]
        split <;> exact changeover
      · rw [projectionHours_urgent (by rw [same, services, service]; exact Service.noConfusion)]
        refine projectionHour_forced ?_
        rw [raised, if_pos (by rw [services]; exact hx)]
        exact congrArg TankRecord.urgent (PerTank.get_set_same w.seq.tanks v.other _)
    · have worn := maxServiceDays_worn serves (by rw [settings, hour]; exact hworn)
      have disc : w.disc = s.disc := by rw [hw]
      have supply : w.supply = s.supply := by rw [hw]
      have raised := (takeExhaustion_begins (by rw [services]; exact service) changeover (due.trans hdue) (by rw [services]; exact hr)).trans
        (changeoverBegin_due_moves (due.trans hdue) (by rw [services]; exact hr) (by rw [State.discFree, disc]; exact hf)
          (by rw [supply]; exact hm) changeover (by rw [disc]; exact hp))
      rw [worn, (projectionHours_seq _).1, (projectionHours_seq _).2, raised]
      exact ⟨due.trans hdue, rfl⟩
    · have verdict : projectionUrgent v.other v w = projectionUrgent v.other v s := by rw [hw]; rfl
      have timing : w.seq.timing = s.seq.timing := by rw [hw]
      have urgency := projectionUrgent_iff v.other v s
      dsimp only at urgency ⊢
      rw [maxServiceDays_fresh serves (by rw [settings, hour]; exact hn),
        projectionHours_urgent (by rw [services, service]; exact Service.noConfusion), projectionHour_asks (by rw [services]; exact hx),
        askProjection_urgent serves, tank v.other]
      rw [timing, verdict]
      simp only [urgency]

end Sys2Proof.Machine

/-! The level probe's second and the brine draw's judgement: O20. -/

namespace Sys2Proof.Machine

set_option Elab.async false

/-! ### What the Capacity Unit's stage leaves alone -/

section
variable {s : State} {k : Tank}

theorem discRequest_others (p : Pos) (s : State) : ∃ d, discRequest p s = { s with disc := d } := by
  unfold discRequest
  split
  · exact ⟨s.disc, rfl⟩
  · exact ⟨_, rfl⟩
  · exact ⟨_, rfl⟩

theorem changeoverBegin_others (s : State) : ∃ q d n, changeoverBegin s = { s with seq := q, disc := d, notices := n } := by
  unfold changeoverBegin
  split
  · exact ⟨s.seq, s.disc, s.notices, rfl⟩
  next k _ =>
    split
    · obtain ⟨d, asked⟩ := discRequest_others (changePosition k) { s with seq := { s.seq with
          changeover := some { outgoing := k, phase := .toChange, dwell := 0 }, due := none } }
      dsimp only
      rw [asked]
      split
      · obtain ⟨n, e⟩ := changeArrival_others k { s with
          seq := { s.seq with changeover := some { outgoing := k, phase := .toChange, dwell := 0 }, due := none }, disc := d }
        exact ⟨_, d, n, e⟩
      · exact ⟨_, d, s.notices, rfl⟩
    · exact ⟨s.seq, s.disc, s.notices, rfl⟩

theorem takeExhaustion_others (k : Tank) (s : State) : ∃ q d n, takeExhaustion k s = { s with seq := q, disc := d, notices := n } := by
  unfold takeExhaustion
  split
  · dsimp only
    split
    · exact changeoverBegin_others _
    · unfold changeoverPending
      dsimp only
      split
      · exact ⟨_, s.disc, _, rfl⟩
      · exact ⟨_, s.disc, _, rfl⟩
  · exact ⟨s.seq, s.disc, s.notices, rfl⟩

/-- The shares and the exhaustion that they raise change the tanks' capacity records and what an exhaustion changes. -/
theorem shared_others (f : Bool) (s : State) : ∃ r q d n,
    s.shared f = { s with cap := { s.cap with recs := r }, seq := q, disc := d, notices := n } := by
  obtain ⟨r, n, depleted⟩ := depleted_others f s
  unfold State.shared raiseExhaustion
  rw [depleted]
  split
  · exact ⟨_, s.seq, s.disc, n, rfl⟩
  next k _ =>
    dsimp only
    split
    · obtain ⟨q, d, m, e⟩ := takeExhaustion_others k (State.withRecord { s with cap := { s.cap with recs := r }, notices := n } k
        { State.record { s with cap := { s.cap with recs := r }, notices := n } k with exhaustionRaised := true })
      exact ⟨_, q, d, m, e⟩
    · exact ⟨_, s.seq, s.disc, n, rfl⟩

/-- The Capacity Unit's stage changes the capacity records, what an exhaustion changes, and the Fault Log. -/
theorem capacitySecond_others (x : SecondInputs) (f : Bool) (s : State) : ∃ c q d n l,
    capacitySecond x f s = { s with cap := c, seq := q, disc := d, notices := n, faults := l } := by
  obtain ⟨c, q, d, m, e⟩ := shared_others f s
  have probed := (probed_capacitySecond x f s).others
  rw [e] at probed
  exact ⟨_, _, _, _, _, probed⟩

end

/-! ### The level's sample (R91, R97) -/

section
variable {s : State} {x : Int}

/-- The level is sampled in a second (R91). -/
def State.levelDue (s : State) : Prop :=
  s.brine.measure ≠ none ∨ s.brine.refill ≠ none ∨ s.clock.second % 60 = 0 ∨ s.brine.restartLevel = true

theorem levelSecond_due (h : s.levelDue) : levelSecond x s = levelSample x { s with brine := { s.brine with restartLevel := false } } := by
  refine if_pos ?_
  simpa only [State.levelDue, Bool.or_eq_true, Option.isSome_iff_ne_none, beq_iff_eq, or_assoc] using h

theorem levelSecond_idle (h : ¬ s.levelDue) : levelSecond x s = s := by
  refine if_neg fun hc => h ?_
  simpa only [State.levelDue, Bool.or_eq_true, Option.isSome_iff_ne_none, beq_iff_eq, or_assoc] using hc

/-- A level within its range (R91). -/
theorem levelSample_good (h : 0 ≤ x ∧ x ≤ 800) : ∃ n, levelSample x s = { s with
    brine := { s.brine with
      level := x.toNat, levelFault := false, measure := s.brine.measure.map fun m => { m with lowest := min m.lowest x.toNat } }
    faults := if s.brine.levelFault then s.faults.gone .levelSensor .none else s.faults, notices := n } := by
  unfold levelSample
  rw [if_pos h]
  dsimp only
  split <;> exact ⟨_, rfl⟩

theorem levelSample_bad (h : ¬ (0 ≤ x ∧ x ≤ 800)) : ∃ n, levelSample x s = { s with
    brine := { s.brine with levelFault := true }
    faults := if s.brine.levelFault then s.faults else s.faults.report .levelSensor .none x s.now, notices := n } := by
  unfold levelSample
  rw [if_neg h]
  split
  next hf => exact ⟨s.notices, by rw [← hf]⟩
  next => exact ⟨_, rfl⟩

/-- The records of a code and a subject after its condition is gone are not active. -/
theorem FaultLog.of_gone_inactive (l : FaultLog) (c : FaultCode) (u : Subject) : ∀ r ∈ (l.gone c u).of c u, r.active = false := by
  intro r hr
  obtain ⟨hm, hf⟩ := List.mem_filter.1 hr
  obtain ⟨code, subject⟩ := (FaultRecord.isFor_iff c u r).mp hf
  exact FaultLog.gone_inactive r hm code subject

/-- A report stands in an active record with its detail, or the log has overflowed (R186). -/
theorem FaultLog.of_report_active (l : FaultLog) (c : FaultCode) (u : Subject) (d : Int) (t : Stamp) :
    (∃ r ∈ (l.report c u d t).of c u, r.active = true ∧ r.detail = d) ∨ (l.report c u d t).overflow = true := by
  unfold FaultLog.report FaultLog.of
  split
  next hany =>
    obtain ⟨r, hr, hf⟩ := List.any_eq_true.1 hany
    refine .inl ⟨{ r with last := t, count := satAdd 255 r.count 1, detail := d, active := true }, List.mem_filter.2 ⟨?_, hf⟩, rfl, rfl⟩
    exact List.mem_map.2 ⟨r, hr, if_pos hf⟩
  next =>
    split
    · refine .inl ⟨_, List.mem_filter.2 ⟨List.mem_append_right _ (List.mem_singleton.2 rfl), ?_⟩, rfl, rfl⟩
      exact (FaultRecord.isFor_iff c u _).mpr ⟨rfl, rfl⟩
    · exact .inr rfl

end

end Sys2Proof.Machine

/-! A step that runs through a second, and the level probe's outcome: O20. -/

namespace Sys2Proof.Machine

set_option Elab.async false

/-! ### The level after a second -/

section
variable {s : State} {x : SecondInputs} {f : Bool}

/-- The level probe's items at the end of a second are those of its sample. -/
theorem afterMetering_level (x : SecondInputs) (f : Bool) (s : State) :
    (afterMetering x f s).brine.level = (levelSecond x.level (capacitySecond x f s)).brine.level
    ∧ (afterMetering x f s).brine.levelFault = (levelSecond x.level (capacitySecond x f s)).brine.levelFault
    ∧ (afterMetering x f s).brine.restartLevel = (levelSecond x.level (capacitySecond x f s)).brine.restartLevel
    ∧ (afterMetering x f s).faults.of .levelSensor = (levelSecond x.level (capacitySecond x f s)).faults.of .levelSensor := by
  have last := gauges_second x f s
  have clocked := gauges_clocked x f s
  have worked : (s.worked x f).gauges = { (filterSecond (brineSecond x (capacitySecond x f s))).gauges with
      timing := (filterSecond (brineSecond x (capacitySecond x f s))).settings.user.soft.timing
      windowHour := (filterSecond (brineSecond x (capacitySecond x f s))).settings.user.soft.windowHour } := by
    unfold State.worked
    exact gauges_sequencerSecond _
  rw [gauges_filterSecond, gauges_brineSecond] at worked
  rw [clocked, worked] at last
  generalize afterMetering x f s = t at last
  exact ⟨congrArg Gauges.level last, congrArg Gauges.levelFault last, congrArg Gauges.restartLevel last, congrArg Gauges.levelRecords last⟩

/-- What the level probe finds of the state before the capacity's stage. -/
theorem capacitySecond_level (x : SecondInputs) (f : Bool) (s : State) : (capacitySecond x f s).brine = s.brine
    ∧ (capacitySecond x f s).clock = s.clock ∧ (capacitySecond x f s).faults.of .levelSensor = s.faults.of .levelSensor := by
  have gauges := gauges_capacitySecond x f s
  obtain ⟨c, q, d, n, l, e⟩ := capacitySecond_others x f s
  generalize capacitySecond x f s = w at e gauges
  exact ⟨by rw [e], by rw [e], congrArg Gauges.levelRecords gauges⟩

/-- The overflow of the Fault Log at the level's sample stays. -/
theorem afterMetering_overflow (h : (levelSecond x.level (capacitySecond x f s)).faults.overflow = true) :
    (afterMetering x f s).faults.overflow = true := by
  obtain ⟨b, l, n, e, -, -, -, -, faults⟩ := brineSecond_others x (capacitySecond x f s)
  refine (onward_afterBrine x f s).overflow ?_
  rw [e]
  exact faults.overflow h

end

/-! ### A step under way (R72) -/

/-- The record `q` is that of the step under way in `r`, marks, tags and the claim's grant apart. -/
structure TankRecord.Runs (r q : TankRecord) : Prop where
  service : q.service = .regenerating
  phase : q.phase = some .inStep
  step : q.step = r.step
  elapsed : q.elapsed = r.elapsed
  elapsedMin : q.elapsedMin = r.elapsedMin
  recipe : q.recipe = r.recipe
  granted : r.claim = .granted → q.claim = .granted

/-- No changeover is under way but one that takes tank `o` out, before its changeover position or at it. -/
def State.spares (o : Tank) (s : State) : Prop := ∀ c, s.seq.changeover = some c →
  c.outgoing = o ∧ (c.phase = .toChange ∨ s.disc.position = some (changePosition c.outgoing))

section
variable {e : Span} {own claims : Bool} {s t : State} {o : Tank} {r : TankRecord}

theorem TankRecord.Runs.refl (hs : r.service = .regenerating) (hp : r.phase = some .inStep) : r.Runs r :=
  ⟨hs, hp, rfl, rfl, rfl, rfl, id⟩

theorem State.spares_swaps (h : s.spares o) {c : Changeover} (hc : s.seq.changeover = some c) : o ≠ c.outgoing.other := by
  rw [(h c hc).1]
  exact tank_ne_other o

theorem State.spares_holds (h : s.spares o) {c : Changeover} (hc : s.seq.changeover = some c) (hp : c.phase = .toHold) :
    ¬ s.stands (holdPosition c.outgoing) := by
  rintro ⟨-, position⟩
  rcases (h c hc).2 with phase | place
  · cases hp.symm.trans phase
  · exact holdPosition_ne_change _ _ (Option.some.inj (position.symm.trans place))

theorem Pass.spares (h : Pass e own claims s t) (hs : s.spares o) (hr : (s.tank o).service = .regenerating) : t.spares o := by
  have turn := h.turn
  rw [State.spares, h.position]
  generalize t.seq.changeover = c at turn
  generalize t.seq.due = d at turn
  intro c' hc'
  cases turn with
  | same => exact hs c' hc'
  | due => cases hc'
  | turns k hd hready =>
    cases hc'
    have hk : k = o := by
      rcases Tank.eq_or_other o k with ho | ho
      · exact ho.symm
      · rw [← ho, hr] at hready
        cases hready
    exact ⟨hk, .inl rfl⟩
  | swaps c hc hp hd =>
    cases hc'
    exact ⟨(hs c hc).1, .inr hd.2⟩
  | holds => cases hc'
  | dwells c d p _ hc hp hd =>
    cases hc'
    exact ⟨(hs c hc).1, .inr ((hs c hc).2.resolve_left fun hn => by cases hp.symm.trans hn)⟩

/-- A step under way stays so through every change but its own timer's. -/
theorem Pass.runs (h : Pass e own claims s t) (he : e.timer = false) (hr : r.Runs (s.tank o)) (hs : s.spares o) : r.Runs (t.tank o) := by
  have move := h.tank o
  rw [he] at move
  generalize t.tank o = q at move
  obtain ⟨service, phase, step, elapsed, elapsedMin, recipe, granted⟩ := hr
  cases move with
  | marked _ h =>
    have others := h.others
    exact ⟨by rw [others]; exact service, by rw [others]; exact phase, by rw [others]; exact step, by rw [others]; exact elapsed,
      by rw [others]; exact elapsedMin, by rw [others]; exact recipe, fun hg => h.granted (granted hg)⟩
  | hours => exact ⟨service, phase, step, elapsed, elapsedMin, recipe, granted⟩
  | begins _ h => cases service.symm.trans h
  | arrives x _ _ hp => cases phase.symm.trans hp
  | next y _ hp => cases phase.symm.trans hp
  | home _ hp => cases phase.symm.trans hp
  | ends _ _ hp => cases phase.symm.trans hp
  | swaps c hc ho => exact absurd ho (State.spares_swaps hs hc)
  | holds c hc ho hp hd => exact absurd hd (State.spares_holds hs hc hp)
  | steps u ht => cases ht

end

/-! ### A step's timer (R72, R73) -/

section
variable {s : State} {k : Tank} {x : Step}

/-- The step timer's count (R72). -/
def State.ticked (k : Tank) (s : State) : State :=
  s.withTank k { s.tank k with elapsed := (s.tank k).elapsed + 1, elapsedMin := ((s.tank k).elapsed + 1) / 60 }

/-- The judgement of a draw marks its measurement, and reports. -/
theorem brine1200_others (k : Tank) (s : State) : ∃ m l n, brine1200 k s = { s with brine := { s.brine with measure := m }, faults := l, notices := n }
    ∧ (m = s.brine.measure ∨ ∃ d, s.brine.measure = some d ∧ m = some { d with judged := true }) := by
  have judged : ∃ m l n, judgeDraw s = { s with brine := { s.brine with measure := m }, faults := l, notices := n }
      ∧ (m = s.brine.measure ∨ ∃ d, s.brine.measure = some d ∧ m = some { d with judged := true }) := by
    unfold judgeDraw
    split
    next => exact ⟨s.brine.measure, s.faults, s.notices, rfl, .inl rfl⟩
    next d hd =>
      dsimp only
      split
      · exact ⟨_, s.faults, s.notices, rfl, .inr ⟨d, hd, rfl⟩⟩
      · split
        · exact ⟨_, _, _, rfl, .inr ⟨d, hd, rfl⟩⟩
        · exact ⟨_, _, _, rfl, .inr ⟨d, hd, rfl⟩⟩
  have when (c : Prop) [Decidable c] : ∃ m l n, (if c then judgeDraw s else s) =
      { s with brine := { s.brine with measure := m }, faults := l, notices := n }
      ∧ (m = s.brine.measure ∨ ∃ d, s.brine.measure = some d ∧ m = some { d with judged := true }) := by
    split
    · exact judged
    · exact ⟨s.brine.measure, s.faults, s.notices, rfl, .inl rfl⟩
  exact when _

/-- A step whose time is not up goes on (R72, R73). -/
theorem stepSecond_goes (hr : stepRuns k s = true) (hx : (s.tank k).step = some x) (hn : x ≠ .refill)
    (hd : (s.tank k).elapsed + 1 < (s.tank k).recipe.duration x) : stepSecond k s = brine1200 k (s.ticked k) := by
  have ticked : (s.ticked k).tank k = { s.tank k with elapsed := (s.tank k).elapsed + 1, elapsedMin := ((s.tank k).elapsed + 1) / 60 } :=
    PerTank.get_set_same _ _ _
  have same : (brine1200 k (s.ticked k)).tank k = (s.ticked k).tank k := by
    obtain ⟨m, l, n, e, -⟩ := brine1200_others k (s.ticked k)
    rw [e]
    rfl
  have under : stepOver k (brine1200 k (s.ticked k)) = false := by
    rw [stepOver, same, ticked]
    dsimp only
    rw [hx]
    dsimp only
    have away : (some x == some Step.refill) = false := beq_eq_false_iff_ne.mpr fun h => hn (Option.some.inj h)
    rw [decide_eq_false (Nat.not_le.2 hd), refillReached, same, ticked]
    dsimp only
    rw [hx, away]
    rfl
  rw [stepSecond, if_pos hr]
  show stepEnd k (brine1200 k (s.ticked k)) = _
  rw [stepEnd, under, Bool.and_false, if_neg Bool.false_ne_true]

end

/-! ### A brine draw under way (R94) -/

/-- Tank `k` draws brine, with the record `r` of its step and the measurement `m`, judged or not, and the other tank stays away from BRINE. -/
structure State.Draws (r : TankRecord) (m : BrineMeasure) (k : Tank) (s : State) : Prop where
  runs : r.Runs (s.tank k)
  spares : s.spares k
  barred : s.barred k.other
  measure : ∃ j, s.brine.measure = some { m with judged := j }

section
variable {e : Span} {own claims : Bool} {s t : State} {k : Tank} {r : TankRecord} {m : BrineMeasure}

theorem State.barred_brine {o : Tank} (h : s.barred o) (hs : (s.tank o).service = .regenerating) (hx : (s.tank o).step = some .brine) :
    ¬ s.stands (stepPosition o .brine) := by
  rintro ⟨-, position⟩
  rcases h with h | ⟨step, -⟩ | ⟨place, -⟩
  · exact h hs
  · cases hx.symm.trans step
  · exact Step.noConfusion (stepPosition_inj (Option.some.inj (position.symm.trans place))).2

theorem State.barred_runs {o : Tank} (h : s.barred o) (hr : stepRuns o s = true) : (s.tank o).step = some .backwash := by
  obtain ⟨hs, hp, -⟩ := (stepRuns_iff o s).mp hr
  rcases h with h | ⟨step, -⟩ | ⟨-, step⟩
  · exact absurd hs h
  · exact step
  · exact step hp

theorem Pass.draws (h : Pass e own claims s t) (he : e.unit = false) (ht : e.timer = false) (hd : s.Draws r m k) : t.Draws r m k := by
  obtain ⟨runs, spares, barred, j, measure⟩ := hd
  refine ⟨h.runs ht runs spares, h.spares spares runs.service, h.barred barred, j, ?_⟩
  rcases h.measure he with same | ⟨o, hs, hx, hp, hd⟩ | ⟨o, -, -, hn⟩
  · rw [same, measure]
  · rcases Tank.eq_or_other o k with rfl | rfl
    · cases runs.phase.symm.trans hp
    · exact absurd hd (State.barred_brine barred hs hx)
  · cases ht.symm.trans hn

theorem State.Draws.toDraws (h : s.Draws r m k) (hx : r.step = some .brine) (hd : r.elapsed + 1 < r.recipe.brine) :
    ∃ r', r'.step = some .brine ∧ (stepSecond k s).Draws r' m k := by
  obtain ⟨runs, spares, barred, j, measure⟩ := h
  cases hr : stepRuns k s with
  | false =>
    rw [stepSecond_idle hr]
    exact ⟨r, hx, runs, spares, barred, j, measure⟩
  | true =>
    have brine : (s.tank k).step = some .brine := runs.step.trans hx
    have pass : Pass { timer := true } false false s (stepSecond k s) := .steps k rfl hr (stepped_stepSecond k s)
    have goes := stepSecond_goes hr brine Step.noConfusion (by
      rw [runs.elapsed, runs.recipe]
      exact hd)
    obtain ⟨d, l, n, e, he⟩ := brine1200_others k (s.ticked k)
    rw [e] at goes
    have tank : (stepSecond k s).tank k = { s.tank k with elapsed := (s.tank k).elapsed + 1, elapsedMin := ((s.tank k).elapsed + 1) / 60 } := by
      rw [goes]
      exact PerTank.get_set_same _ _ _
    refine ⟨_, ?_, .refl ?_ ?_, pass.spares spares runs.service, pass.barred barred, ?_⟩
    · rw [tank]
      exact brine
    · rw [tank]
      exact runs.service
    · rw [tank]
      exact runs.phase
    · rw [goes]
      rcases he with he | ⟨d', hd', he⟩
      · exact ⟨j, he.trans measure⟩
      · have hm : some d' = some { m with judged := j } := hd'.symm.trans measure
        cases hm
        exact ⟨true, he⟩

/-- The other tank's timer leaves the draw alone. -/
theorem State.Draws.aside (h : s.Draws r m k) : (stepSecond k.other s).Draws r m k := by
  obtain ⟨runs, spares, barred, j, measure⟩ := h
  cases hr : stepRuns k.other s with
  | false =>
    rw [stepSecond_idle hr]
    exact ⟨runs, spares, barred, j, measure⟩
  | true =>
    have pass : Pass { timer := true } false false s (stepSecond k.other s) := .steps k.other rfl hr (stepped_stepSecond k.other s)
    have stepped := stepped_stepSecond k.other s
    have tank : (stepSecond k.other s).tank k = s.tank k := by
      rw [stepped.others]
      exact (withTank_tank _ _ _ _).trans (if_neg (tank_ne_other k))
    refine ⟨by rw [tank]; exact runs, pass.spares spares runs.service, pass.barred barred, j, ?_⟩
    rw [stepped.measure (by rw [State.barred_runs barred hr]; exact fun h => by cases h)]
    exact measure

/-- A draw that has not reached its time goes on to the end of the second. -/
theorem afterMetering_draws {x : SecondInputs} {f : Bool} (h : (brineSecond x (capacitySecond x f s)).Draws r m k)
    (hx : r.step = some .brine) (hd : r.elapsed + 1 < r.recipe.brine) : ∃ j, (afterMetering x f s).brine.measure = some { m with judged := j } := by
  have untimed : (s.untimed x f).Draws r m k := late_untimed_keeps (I := State.Draws r m k) (fun hu ht _ h hd => h.draws hu ht hd) h
  have timed : ∃ r', (stepSecond .b (stepSecond .a (s.untimed x f))).Draws r' m k := by
    cases k with
    | a =>
      obtain ⟨r', -, first⟩ := untimed.toDraws hx hd
      exact ⟨r', first.aside⟩
    | b =>
      obtain ⟨r', -, second⟩ := State.Draws.toDraws (k := .b) untimed.aside hx hd
      exact ⟨r', second⟩
  obtain ⟨r', timed⟩ := timed
  have dwelt : (s.untimed x f).timers.Draws r' m k := by
    unfold State.timers
    exact (passes_dwellSecond (e := { dwell := true }) (own := false) (claims := false) _ rfl).keeps (fun h hd => h.draws rfl rfl hd) timed
  exact (timers_keep (I := State.Draws r' m k) (fun h hd => h.draws rfl rfl hd) dwelt).measure

end

end Sys2Proof.Machine

/-! The brine draw and the level, assembled: O20. -/

namespace Sys2Proof.Machine

set_option Elab.async false

section
variable {s : State} {x : SecondInputs} {k : Tank} {m : BrineMeasure}

/-! ### The judgement at 1200 seconds (R95) -/

theorem brine1200_idle (h : stepRuns k s = false) : brine1200 k s = s := by
  unfold brine1200
  dsimp only
  rw [h]
  rfl

/-- The judgement of a draw under way (R95). -/
theorem brine1200_eq (hr : stepRuns k s = true) (hx : (s.tank k).step = some .brine) (hm : s.brine.measure = some m) :
    brine1200 k s = if (s.tank k).elapsed = 1200 ∧ m.judged = false then judgeDraw s else s := by
  unfold brine1200
  dsimp only
  rw [hr, hx, hm]
  by_cases h : (s.tank k).elapsed = 1200 ∧ m.judged = false
  · rw [if_pos h, if_pos (by rw [h.1]; dsimp only; rw [h.2]; rfl)]
  · rw [if_neg h, if_neg]
    simpa using h

/-- The stages as far as the metering leave the level probe's and the bed probes' records alone. -/
theorem metered_faults (x : SecondInputs) (s : State) : s.faults.KeepsProbes (s.metered x).faults := by
  have before : (s.advanced x).faults = s.faults := rfl
  have first := (works_beforeMetering x s).faults
  rw [before] at first
  exact first.trans (works_metered x s).faults

/-- Only the tank that draws is judged. -/
theorem brine1200_both (hr : stepRuns k s = true) (ho : (s.tank k.other).service ≠ .regenerating) :
    brine1200 .b (brine1200 .a s) = brine1200 k s := by
  have idle (v : State) (hv : v.seq = s.seq) : stepRuns k.other v = false :=
    Bool.eq_false_iff.mpr fun h => ho (by
      have same : v.tank k.other = s.tank k.other := State.tank_of_seq hv
      rw [← same]
      exact ((stepRuns_iff _ _).mp h).1)
  obtain ⟨d, l, n, e, -⟩ := brine1200_others k s
  cases k with
  | a => exact brine1200_idle (idle _ (by rw [e]))
  | b =>
    have first : brine1200 .a s = s := brine1200_idle (idle s rfl)
    rw [first]

theorem levelSecond_restart (v : Int) (s : State) : (levelSecond v s).brine.restartLevel = false := by
  by_cases hd : s.levelDue
  · rw [levelSecond_due hd]
    by_cases hg : 0 ≤ v ∧ v ≤ 800
    · obtain ⟨n, e⟩ := levelSample_good (s := { s with brine := { s.brine with restartLevel := false } }) hg
      rw [e]
    · obtain ⟨n, e⟩ := levelSample_bad (s := { s with brine := { s.brine with restartLevel := false } }) hg
      rw [e]
  · rw [levelSecond_idle hd]
    exact Bool.eq_false_iff.mpr fun hr => hd (.inr (.inr (.inr hr)))

theorem levelSecond_measure {v : Int} (hd : s.levelDue) : (levelSecond v s).brine.measure =
    if 0 ≤ v ∧ v ≤ 800 then s.brine.measure.map fun m => { m with lowest := min m.lowest v.toNat } else s.brine.measure := by
  rw [levelSecond_due hd]
  by_cases hg : 0 ≤ v ∧ v ≤ 800
  · obtain ⟨n, e⟩ := levelSample_good (s := { s with brine := { s.brine with restartLevel := false } }) hg
    rw [e, if_pos hg]
  · obtain ⟨n, e⟩ := levelSample_bad (s := { s with brine := { s.brine with restartLevel := false } }) hg
    rw [e, if_neg hg]

theorem brineSecond_measure (x : SecondInputs) (s : State) : (brineSecond x s).brine.measure = (levelSecond x.level s).brine.measure := by
  obtain ⟨b, l, n, e, -, -, -, measure, -⟩ := brineSecond_others x s
  rw [e]
  exact measure

/-- A draw under way before the second, not at its time, goes on with the level's sample (R94). -/
theorem metered_draws (x : SecondInputs) (f : Bool) (s : State) (k : Tank) (m : BrineMeasure) (hc : s.seq.changeover = none)
    (hs : (s.tank k).service = .regenerating) (ho : (s.tank k.other).service ≠ .regenerating) (hx : (s.tank k).step = some .brine)
    (hp : (s.tank k).phase = some .inStep) (hd : (s.tank k).elapsed + 1 < (s.tank k).recipe.brine) (hm : s.brine.measure = some m) :
    (0 ≤ x.level ∧ x.level ≤ 800 → ∃ j, (afterMetering x f (s.metered x)).brine.measure =
      some { m with lowest := min m.lowest x.level.toNat, judged := j })
    ∧ (¬ (0 ≤ x.level ∧ x.level ≤ 800) → ∃ j, (afterMetering x f (s.metered x)).brine.measure = some { m with judged := j }) := by
  have kept := metered_metered x s
  have runs : (s.tank k).Runs ((s.metered x).tank k) := by
    rw [kept.tank]
    exact .refl hs hp
  have spares : (s.metered x).spares k := fun c hn => by cases (kept.changeover.trans hc).symm.trans hn
  have barred : (s.metered x).barred k.other := .inl (by rw [kept.tank]; exact ho)
  have capacity := passes_capacitySecond (e := { unit := true }) (own := false) (claims := false) x f (s.metered x) rfl
  have levels := capacity.trans (passes_brineSecond x (capacitySecond x f (s.metered x)) rfl)
  have stage : (s.tank k).Runs ((brineSecond x (capacitySecond x f (s.metered x))).tank k)
      ∧ (brineSecond x (capacitySecond x f (s.metered x))).spares k ∧ (brineSecond x (capacitySecond x f (s.metered x))).barred k.other :=
    Passes.keeps levels (I := fun t => (s.tank k).Runs (t.tank k) ∧ t.spares k ∧ t.barred k.other)
      (fun h ⟨hr, hq, hb⟩ => ⟨h.runs rfl hr hq, h.spares hq hr.service, h.barred hb⟩) ⟨runs, spares, barred⟩
  obtain ⟨runs, spares, barred⟩ := stage
  have measured := brineSecond_measure x (capacitySecond x f (s.metered x))
  obtain ⟨brine, -, -⟩ := capacitySecond_level x f (s.metered x)
  have due : State.levelDue (capacitySecond x f (s.metered x)) := .inl (by rw [brine, kept.brine, hm]; exact Option.some_ne_none _)
  have draws (m' : BrineMeasure) (h : (brineSecond x (capacitySecond x f (s.metered x))).brine.measure = some m') :
      ∃ j, (afterMetering x f (s.metered x)).brine.measure = some { m' with judged := j } :=
    afterMetering_draws (r := s.tank k) ⟨runs, spares, barred, m'.judged, h⟩ hx hd
  rw [levelSecond_measure due, brine, kept.brine, hm] at measured
  refine ⟨fun hg => draws { m with lowest := min m.lowest x.level.toNat } ?_, fun hg => draws m ?_⟩
  · rw [measured, if_pos hg]
    rfl
  · rw [measured, if_neg hg]

end

/-- R91 and R95: the level's sample and the draw's judgement. Settles O20, by the sample's outcome, which the later stages keep, and by the
changes of a second that leave a draw under way alone. -/
theorem brineDrawIsJudged : Obligations.BrineDrawIsJudged := by
  refine ⟨fun t m s h hr ho hx hm => ?_, fun x s h => ?_⟩
  · have both := brine1200_both hr ho
    have judged := brine1200_eq hr hx hm
    have drawn : judgeDraw s = if m.planned = 0 then { s with brine := { s.brine with measure := some { m with judged := true } } }
        else if 4 * m.drawn < m.planned then
          faultReport .brineDrawFail (.tank m.tank) m.drawn { s with brine := { s.brine with measure := some { m with judged := true } } }
        else faultGone .brineDrawFail (.tank m.tank) { s with brine := { s.brine with measure := some { m with judged := true } } } := by
      unfold judgeDraw
      rw [hm]
    have leaves {u : State} (hu : brine1200 t s = u) : exec .brine1200 s = commit s (follow u) :=
      event_leaves (f := fun s => brine1200 .b (brine1200 .a s)) h (both.trans hu)
    refine ⟨fun hn => leaves ?_, fun he hj => ?_⟩
    · rw [judged, if_neg]
      rintro ⟨he, hj⟩
      rcases hn with hn | hn
      · exact hn he
      · cases hn.symm.trans hj
    · rw [if_pos ⟨he, hj⟩] at judged
      have pos {v p : Nat} (h : 4 * v < p) : p ≠ 0 := by omega
      refine ⟨fun hp => leaves ?_, fun hp => leaves ?_, fun hp hv => leaves ?_⟩
      · rw [judged, drawn, if_pos hp]
      · rw [judged, drawn, if_neg (pos hp)]
        exact if_pos hp
      · rw [judged, drawn, if_neg hp]
        exact if_neg (Nat.not_lt.2 hv)
  · obtain ⟨b, e⟩ := exec_second x h
    have kept := metered_metered x s
    have faults := (metered_faults x s).level .none
    obtain ⟨level, fault, restart, records⟩ := afterMetering_level x (secondFrozen x s) (s.metered x)
    obtain ⟨brine, clock, before⟩ := capacitySecond_level x (secondFrozen x s) (s.metered x)
    have records := congrFun records .none
    have before := (congrFun before .none).trans faults
    have overflows := afterMetering_overflow (s := s.metered x) (x := x) (f := secondFrozen x s)
    have drawing := metered_draws x (secondFrozen x s) s
    rw [kept.brine] at brine
    rw [kept.clock] at clock
    have due : State.levelDue (capacitySecond x (secondFrozen x s) (s.metered x)) ↔ s.brine.measure ≠ none ∨ s.brine.refill ≠ none
        ∨ s.clock.advance.second % 60 = 0 ∨ s.brine.restartLevel = true := by rw [State.levelDue, brine, clock]
    generalize capacitySecond x (secondFrozen x s) (s.metered x) = c at level fault restart records brine clock before overflows due
    generalize afterMetering x (secondFrozen x s) (s.metered x) = t at e level fault restart records overflows drawing
    refine ⟨_, e, ?_⟩
    dsimp only
    show _ ∧ (_ → _ ∧ _ ∧ t.faults.of .levelSensor .none = s.faults.of .levelSensor .none)
      ∧ (_ → _ → _ ∧ _ ∧ (_ → ∀ f ∈ t.faults.of .levelSensor .none, f.active = false))
      ∧ (_ → _ → _ ∧ _ ∧ (_ → t.faults.of .levelSensor .none = s.faults.of .levelSensor .none)
        ∧ (_ → (∃ f ∈ t.faults.of .levelSensor .none, f.active = true ∧ f.detail = x.level) ∨ t.faults.overflow = true)) ∧ _
    rw [level, fault, restart, records, ← due]
    refine ⟨levelSecond_restart x.level c, fun hn => ?_, fun hd hg => ?_, fun hd hg => ?_, fun k m hc _ hs ho hx hp hd hm =>
      drawing k m hc hs ho hx hp hd hm⟩
    · rw [levelSecond_idle hn, brine, before]
      exact ⟨rfl, rfl, rfl⟩
    · obtain ⟨n, sampled⟩ := levelSample_good (s := { c with brine := { c.brine with restartLevel := false } }) hg
      rw [levelSecond_due hd, sampled]
      refine ⟨rfl, rfl, fun hf f hm => ?_⟩
      dsimp only at hm
      rw [brine, if_pos hf] at hm
      exact FaultLog.of_gone_inactive _ _ _ f hm
    · obtain ⟨n, sampled⟩ := levelSample_bad (s := { c with brine := { c.brine with restartLevel := false } }) hg
      rw [levelSecond_due hd, sampled] at overflows ⊢
      dsimp only at overflows ⊢
      rw [brine] at overflows ⊢
      refine ⟨rfl, rfl, fun hf => ?_, fun hf => ?_⟩
      · rw [if_pos hf]
        exact before
      · rw [if_neg (by rw [hf]; exact Bool.false_ne_true)] at overflows ⊢
        exact (FaultLog.of_report_active _ _ _ _ _).imp_right overflows

end Sys2Proof.Machine

/-! The sequencer's arrivals, and a changeover through its dwell: O16. -/

namespace Sys2Proof.Machine

set_option Elab.async false

/-! ### An arrival of the sequencer's move (R46, R47, R49, R51) -/

section
variable {s u : State} {code : BitVec 4} {p : Pos} {k : Tank}

/-- The disc arrives where the sequencer's move led: its arrival is what the command brings. -/
theorem arriving_arrival (h : Arriving code p s) (hu : sequencerArrival p { s with disc := s.disc.arrived code p } = u)
    (hd : u.disc.mode = s.disc.mode) (hs : u.settings = s.settings) : inPlaceSet code s = u := by
  have check := (Disc.check_known h.named h.target h.position).trans (checkPosition_arrival (Pos.pred_succ _) rfl)
  rw [inPlaceSet_arrival h.outOfPlace (Disc.driven_notObserving h.driven) h.driven h.named check, ← hu]
  subst hu
  refine discArrival_sequencer (s := { s with disc := { s.disc with inPlace := true, code := code, legTime := 0 } }) p h.requester
    h.noRetry.1 h.noRetry.2 ?_ ?_
  · exact hd.trans h.auto.1
  · exact (congrArg (fun x : Settings => x.user.soft.discMode) hs).trans h.auto.2

/-- A changeover's arrival at its position (R63). -/
theorem sequencerArrival_change {c : Changeover} (hc : s.seq.changeover = some c) (hp : c.phase = .toChange) :
    sequencerArrival (changePosition c.outgoing) s = changeArrival c.outgoing s := by
  simp only [sequencerArrival, hc, hp, if_true]

/-- A changeover's arrival at HOLD (R64). -/
theorem sequencerArrival_hold {c : Changeover} (hc : s.seq.changeover = some c) (hp : c.phase = .toHold) :
    sequencerArrival (holdPosition c.outgoing) s = holdArrival c.outgoing c.dwell s := by
  simp only [sequencerArrival, hc, hp, if_true]

/-- The end of a changeover: the outgoing tank EXHAUSTED, its tag answered, its run count back at 0 (R64). -/
theorem holdArrival_others (k : Tank) (d : Nat) (s : State) : ∃ q n, holdArrival k d s = { s with
    seq := { s.seq with
      tanks := s.seq.tanks.set k { s.tank k with service := .exhausted, changeTag := none, urgent := q }, changeover := none }
    cap := { s.cap with runs := s.cap.runs.set k 0 }, notices := n } := by
  obtain ⟨n, reached⟩ := changeTank_notices k { s.tank k with service := .exhausted } (clearRun k s)
  have held : s.holdReached k = { s with
      seq := { s.seq with tanks := s.seq.tanks.set k { s.tank k with service := .exhausted }, changeover := none }
      cap := { s.cap with runs := s.cap.runs.set k 0 }, notices := n } := by
    unfold State.holdReached
    dsimp only
    rw [reached]
    rfl
  have tank : (s.holdReached k).tank k = { s.tank k with service := .exhausted } := by
    rw [held]
    exact PerTank.get_set_same _ _ _
  have told : ∃ m, (s.holdReached k).holdTold k d = { s.holdReached k with
      seq := { (s.holdReached k).seq with tanks := (s.holdReached k).seq.tanks.set k { (s.holdReached k).tank k with changeTag := none } }
      notices := m } := by
    unfold State.holdTold
    dsimp only
    exact ⟨_, requestDoneIf_others _ _ _ _ _ _⟩
  obtain ⟨m, told⟩ := told
  obtain ⟨q, asked⟩ := askProjection_others k ((s.holdReached k).holdTold k d)
  refine ⟨q, m, ?_⟩
  rw [holdArrival_eq, asked, told, tank, held]
  cases k <;> rfl

theorem askMove_waits (hf : s.discFree = false) : askMove p s = s := by
  have reply : moveReply p s = .refused := by rw [moveReply, hf, if_neg Bool.false_ne_true]
  simp only [askMove, discRequest, reply, reduceCtorEq, if_false]

theorem TankRecord.own_urgent {r q : TankRecord} {n : Urgent} (h : q = { r with service := .exhausted, changeTag := none, urgent := n }) :
    q = { r with service := .exhausted, changeTag := none, urgent := q.urgent } := by
  subst h
  rfl

/-- The sequencer's move starts: CREEP to the next position or from an unknown one, and RUN otherwise (R45, R46). -/
theorem Disc.start_toward (d : Disc) (p : Pos) : ({ d with target := some (.pos p), requester := some .sequencer } : Disc).start = { d with
    target := some (.pos p), requester := some .sequencer, legTime := 0, overcurrent := 0
    state := if d.position = some (p - 1) ∨ d.position = none then .creeping else .running } := by
  have creeps : ({ d with target := some (.pos p), requester := some .sequencer } : Disc).creeps = true ↔
      d.position = some (p - 1) ∨ d.position = none := by
    unfold Disc.creeps
    dsimp only
    cases d.position with
    | none => exact ⟨fun _ => .inr rfl, fun _ => rfl⟩
    | some q => simp only [beq_iff_eq, Option.some.injEq, reduceCtorEq, or_false, eq_sub_iff_add_eq]
  unfold Disc.start Disc.moving
  simp only [creeps]

end

/-! ### A changeover's dwell through a second (R63) -/

section
variable {e : Span} {own claims : Bool} {s t : State} {c : Changeover}

/-- The Supply Monitor's record is its own to change. -/
theorem Pass.supply (h : Pass e false claims s t) : t.supply = s.supply := by
  have shifted {tested : Bool} {s t : State} (h : Shift tested s t) : t.supply = s.supply := by cases h <;> rfl
  have shifts {tested : Bool} {s t : State} (h : Shifts tested s t) : t.supply = s.supply := by
    induction h with
    | refl => rfl
    | tail _ last ih => exact (shifted last).trans ih
  cases h with
  | reacts h =>
    cases h with
    | tests _ _ _ _ h => exact (shifts (s := s.testing) h).trans rfl
    | shifts _ ho => cases ho
    | leak _ ho => cases ho
    | claimsTest ho => cases ho
    | supply _ ho => cases ho
    | pods _ ho => cases ho
    | stops ho => cases ho
    | _ => rfl
  | steps k _ _ h => rw [h.others]; rfl
  | _ => rfl

/-- A changeover is in its dwell, or on its way to HOLD with the disc not free there. -/
def State.dwells (c : Changeover) (s : State) : Prop :=
  s.seq.changeover = some c ∧ (c.phase = .dwell ∨ c.phase = .toHold ∧ ¬ s.stands (holdPosition c.outgoing))

theorem Pass.dwells_on (h : Pass e own claims s t) (he : e.dwell = false) (hd : s.dwells c) : t.dwells c := by
  obtain ⟨changeover, phase⟩ := hd
  refine ⟨?_, phase.imp_right fun ⟨hp, hs⟩ => ⟨hp, h.stands hs⟩⟩
  have turn := h.turn
  rw [he] at turn
  generalize t.seq.changeover = c' at turn
  generalize t.seq.due = d' at turn
  have away (p : ChangePhase) (c₀ : Changeover) (h₀ : s.seq.changeover = some c₀) (hp : c₀.phase = p) : c.phase = p := by
    cases changeover.symm.trans h₀
    exact hp
  cases turn with
  | same => exact changeover
  | due k hs hc => cases changeover.symm.trans hc
  | turns k hd hr hc => cases changeover.symm.trans hc
  | swaps c₀ hc hp =>
    have toChange := away _ c₀ hc hp
    rcases phase with phase | ⟨phase, -⟩
    · cases phase.symm.trans toChange
    · cases phase.symm.trans toChange
  | holds c₀ hc hp hd =>
    have toHold := away _ c₀ hc hp
    rcases phase with phase | ⟨-, hn⟩
    · cases phase.symm.trans toHold
    · cases changeover.symm.trans hc
      exact absurd hd hn
  | dwells _ _ _ hn => cases hn

/-- A dwell's second (R63). -/
theorem second_dwells (x : SecondInputs) (f : Bool) {m : State} (hc : m.seq.changeover = some c) (hp : c.phase = .dwell) :
    (m.supply.state ≠ .mains → (afterMetering x f m).seq.changeover = some c)
    ∧ (m.supply.state = .mains → c.dwell + 1 < m.settings.inst.overlap →
      (afterMetering x f m).seq.changeover = some { c with dwell := c.dwell + 1 })
    ∧ (m.supply.state = .mains → m.settings.inst.overlap ≤ c.dwell + 1 → ¬ m.stands (holdPosition c.outgoing) →
      (afterMetering x f m).seq.changeover = some { c with phase := .toHold, dwell := c.dwell + 1 }) := by
  have untimed : (m.untimed x f).dwells c ∧ (m.untimed x f).supply = m.supply
      ∧ (¬ m.stands (holdPosition c.outgoing) → ¬ (m.untimed x f).stands (holdPosition c.outgoing)) :=
    untimed_keeps (I := fun t => t.dwells c ∧ t.supply = m.supply
      ∧ (¬ m.stands (holdPosition c.outgoing) → ¬ t.stands (holdPosition c.outgoing)))
      (fun _ he h ⟨hd, hm, hs⟩ => ⟨h.dwells_on he hd, h.supply.trans hm, fun hn => h.stands (hs hn)⟩) ⟨⟨hc, .inl hp⟩, rfl, id⟩
  have settings : (m.untimed x f).settings = m.settings := untimed_keeps (I := fun t => t.settings = m.settings)
    (fun _ _ h hs => h.settings.trans hs) rfl
  have timers : (m.untimed x f).timers = dwellSecond (stepSecond .b (stepSecond .a (m.untimed x f))) := by rw [State.timers]
  have steps := (passes_stepSecond (e := { timer := true }) (own := false) (claims := false) .a (m.untimed x f) rfl).trans
    (passes_stepSecond .b _ rfl)
  have stepped : (stepSecond .b (stepSecond .a (m.untimed x f))).dwells c
      ∧ (stepSecond .b (stepSecond .a (m.untimed x f))).supply = m.supply
      ∧ (¬ m.stands (holdPosition c.outgoing) → ¬ (stepSecond .b (stepSecond .a (m.untimed x f))).stands (holdPosition c.outgoing))
      ∧ (stepSecond .b (stepSecond .a (m.untimed x f))).settings = m.settings :=
    Passes.keeps steps (I := fun t => t.dwells c ∧ t.supply = m.supply
      ∧ (¬ m.stands (holdPosition c.outgoing) → ¬ t.stands (holdPosition c.outgoing)) ∧ t.settings = m.settings)
      (fun h ⟨hd, hm, hs, ht⟩ => ⟨h.dwells_on rfl hd, h.supply.trans hm, fun hn => h.stands (hs hn), h.settings.trans ht⟩)
      ⟨untimed.1, untimed.2.1, untimed.2.2, settings⟩
  generalize stepSecond .b (stepSecond .a (m.untimed x f)) = w at timers stepped
  obtain ⟨⟨changeover, -⟩, supply, away, settings⟩ := stepped
  have on {c' : Changeover} (h : (m.untimed x f).timers.dwells c') : (afterMetering x f m).seq.changeover = some c' :=
    (timers_keep (I := State.dwells c') (fun h hd => h.dwells_on rfl hd) h).1
  refine ⟨fun hm => on ?_, fun hm hd => on ?_, fun hm hd hn => on ?_⟩
  · rw [timers, dwellSecond_idle fun c' hc' => .inr (by rw [supply]; exact hm)]
    exact ⟨changeover, .inl hp⟩
  · rw [timers, dwellSecond_counts changeover hp (by rw [supply]; exact hm) (by rw [settings]; exact hd)]
    exact ⟨rfl, .inl hp⟩
  · rw [timers, dwellSecond_ends changeover hp (by rw [supply]; exact hm) (by rw [settings]; exact hd)]
    have ended : State.dwells { c with phase := .toHold, dwell := c.dwell + 1 }
        { w with seq := { w.seq with changeover := some { c with phase := .toHold, dwell := c.dwell + 1 } } } :=
      ⟨rfl, .inr ⟨rfl, away hn⟩⟩
    have asked : Reacts false false _ (askMove (holdPosition c.outgoing)
        { w with seq := { w.seq with changeover := some { c with phase := .toHold, dwell := c.dwell + 1 } } }) :=
      reacts_askMove .refl (State.awaits_changeover (Option.some_ne_none _))
    exact asked.passes.keeps (e := {}) (fun h hd => h.dwells_on rfl hd) ended

end

/-- R62 to R64: a changeover's begin, its arrivals, its dwell and its end. Settles O16, by the arrivals' outcome, and by what the changes of a
second leave of a changeover in its dwell. -/
theorem changeoverBeginsAndDwells : Obligations.ChangeoverBeginsAndDwells := by
  refine ⟨fun c s h hc => ⟨fun hn => event_leaves h ?_, fun hp hm hd => ⟨fun hf => event_leaves h ?_, fun hf ha => event_leaves h ?_⟩⟩,
    fun c code s h hc => ⟨fun hp ha => ?_, fun hp ha => ?_⟩, fun c x s h hc hp => ?_,
    fun t s h hd => ⟨fun hn => event_leaves h ?_, fun hr hf hm hc => ⟨fun hp => event_leaves h ?_, fun hp => ?_⟩⟩⟩
  · rw [dwellEnd, hc]
    exact if_neg fun ⟨h1, h2, h3⟩ => hn.elim (fun h => h h1) fun hn => hn.elim (fun h => h h2) fun hn => Nat.not_le.2 hn h3
  · rw [dwellEnd, hc]
    dsimp only
    rw [if_pos ⟨hp, hm, hd⟩]
    exact askMove_waits hf
  · rw [dwellEnd, hc]
    dsimp only
    rw [if_pos ⟨hp, hm, hd⟩]
    exact askMove_moves (s := { s with seq := { s.seq with changeover := some { c with phase := .toHold } } }) hf ha
  · obtain ⟨n, e⟩ := changeArrival_others c.outgoing { s with disc := s.disc.arrived code (changePosition c.outgoing) }
    have arrived := arriving_arrival ha ((sequencerArrival_change (s := { s with disc := s.disc.arrived code (changePosition c.outgoing) })
      hc hp).trans e) rfl rfl
    have out : c = { outgoing := c.outgoing, phase := .toChange, dwell := c.dwell } := by rw [← hp]
    refine ⟨_, event_leaves h arrived, rfl, ?_, PerTank.get_set_same _ _ _,
      (PerTank.get_set _ _ _ _).trans (if_neg (tank_ne_other c.outgoing)), rfl⟩
    rw [out]
  · obtain ⟨q, n, e⟩ := holdArrival_others c.outgoing c.dwell { s with disc := s.disc.arrived code (holdPosition c.outgoing) }
    have arrived := arriving_arrival ha ((sequencerArrival_hold (s := { s with disc := s.disc.arrived code (holdPosition c.outgoing) })
      hc hp).trans e) rfl rfl
    exact ⟨_, event_leaves h arrived, rfl, rfl, TankRecord.own_urgent (PerTank.get_set_same _ _ _), PerTank.get_set_other _ _ _, rfl, rfl⟩
  · obtain ⟨b, e⟩ := exec_second x h
    have kept := metered_metered x s
    obtain ⟨waits, counts, ends⟩ := second_dwells x (secondFrozen x s) (kept.changeover.trans hc) hp
    rw [kept.supply, kept.settings] at counts ends
    rw [kept.supply] at waits
    generalize afterMetering x (secondFrozen x s) (s.metered x) = t at e waits counts ends
    refine ⟨_, e, waits, counts, fun hm hd hn => ends hm hd ?_⟩
    rintro ⟨hf, ha⟩
    rw [kept.free] at hf
    rw [kept.position] at ha
    rcases hn with hn | hn
    · exact Bool.false_ne_true (hn.symm.trans hf)
    · exact hn ha
  · refine changeoverBegin_waits fun k hk hx => ?_
    cases hd.symm.trans hk
    obtain ⟨h1, h2, h3, h4⟩ := hx
    rcases hn with hn | hn | hn | hn
    · exact hn h1
    · exact Bool.false_ne_true (hn.symm.trans h2)
    · exact hn h3
    · exact hn h4
  · have moves := changeoverBegin_moves hd hr hf hm hc hp
    have begun : ({ s.disc with target := some (.pos (changePosition t)), requester := some .sequencer } : Disc).start = { s.disc with
        target := some (.pos (changePosition t)), requester := some .sequencer, legTime := 0, overcurrent := 0
        state := if s.disc.position = some (changePosition t - 1) ∨ s.disc.position = none then .creeping else .running } :=
      Disc.start_toward s.disc _
    rwa [begun] at moves
  · obtain ⟨n, e⟩ := changeoverBegin_due_arrives hr hf hm hc hd hp
    exact ⟨_, event_leaves h e, rfl, rfl, PerTank.get_set_same _ _ _,
      (PerTank.get_set _ _ _ _).trans (if_neg (tank_ne_other t)), rfl, rfl⟩

end Sys2Proof.Machine

/-! A regeneration's step: its arrival, its seconds and its end: O19. -/

namespace Sys2Proof.Machine

set_option Elab.async false

/-! ### What a second leaves of the line, the disc, the supply and the valve before the step timers -/

/-- The disc, the claim table, the supply and the valve stay. -/
structure Undisturbed (s t : State) : Prop where
  disc : t.disc = s.disc
  line : t.line = s.line
  supply : t.supply = s.supply
  valve : t.valve = s.valve

section
variable {s t u : State} {k : Tank}

theorem Undisturbed.trans (h : Undisturbed s t) (h' : Undisturbed t u) : Undisturbed s u :=
  ⟨h'.disc.trans h.disc, h'.line.trans h.line, h'.supply.trans h.supply, h'.valve.trans h.valve⟩

theorem Undisturbed.free (h : Undisturbed s t) : t.discFree = s.discFree := by rw [State.discFree, h.disc]; rfl

/-- An exhaustion with the other tank not READY waits: the disc stays. -/
theorem takeExhaustion_undisturbed (k : Tank) (hr : (s.tank k.other).service ≠ .ready) : Undisturbed s (takeExhaustion k s) := by
  by_cases hc : (s.tank k).service = .inService ∧ s.seq.changeover = none ∧ s.seq.due = none
  · rw [takeExhaustion_waits hc.1 hc.2.1 hc.2.2 hr]
    split
    · exact ⟨rfl, rfl, rfl, rfl⟩
    · exact ⟨rfl, rfl, rfl, rfl⟩
  · rw [takeExhaustion, if_neg hc]
    exact ⟨rfl, rfl, rfl, rfl⟩

/-- Without a READY tank beside the one in service the Capacity Unit's stage leaves the disc alone. -/
theorem capacitySecond_undisturbed (x : SecondInputs) (f : Bool) (h : ∀ k, s.serviceTank = some k → (s.tank k.other).service ≠ .ready) :
    Undisturbed s (capacitySecond x f s) := by
  obtain ⟨r, n, depleted⟩ := depleted_others f s
  have shared : Undisturbed s (s.shared f) := by
    unfold State.shared raiseExhaustion
    rw [depleted]
    split
    · exact ⟨rfl, rfl, rfl, rfl⟩
    next k hk =>
      dsimp only
      split
      · have waits := takeExhaustion_undisturbed (s := State.withRecord { s with cap := { s.cap with recs := r }, notices := n } k
          { State.record { s with cap := { s.cap with recs := r }, notices := n } k with exhaustionRaised := true }) k (h k hk)
        exact ⟨waits.disc, waits.line, waits.supply, waits.valve⟩
      · exact ⟨rfl, rfl, rfl, rfl⟩
  have probed := (probed_capacitySecond x f s).others
  generalize capacitySecond x f s = t at probed
  rw [probed]
  exact ⟨shared.disc, shared.line, shared.supply, shared.valve⟩

theorem brineSecond_undisturbed (x : SecondInputs) (s : State) : Undisturbed s (brineSecond x s) := by
  obtain ⟨b, l, n, e, -⟩ := brineSecond_others x s
  have sampled := (levelled_levelSecond x.level s).others
  rw [sampled] at e
  rw [e]
  exact ⟨rfl, rfl, rfl, rfl⟩

theorem Works.undisturbed (h : Works .filter s t) : Undisturbed s t := by
  rw [h.filter_eq]
  exact ⟨rfl, rfl, rfl, rfl⟩

/-- A flush that has no grant to release ends without a decision. -/
theorem flushEnd_undisturbed (h : s.line.flushGranted = false) : Undisturbed s (flushEnd s) := by
  unfold flushEnd
  split
  · have work : Works .filter s (flushOutcome { s with filter := { s.filter with solenoid := false } }) :=
      works_flushOutcome ((Works.refl s).same)
    generalize flushOutcome { s with filter := { s.filter with solenoid := false } } = w at work
    have kept := work.undisturbed
    have still : releaseFlush w = w := by
      rw [releaseFlush, kept.line, h, if_neg Bool.false_ne_true]
    dsimp only
    rw [still]
    obtain ⟨n, e⟩ := answerFlush_others (decide (1000 ≤ s.filter.flush.volume)) (post .flushDone .none
      (if decide (1000 ≤ s.filter.flush.volume) then 0 else 1) s.filter.flush.volume s.filter.flush.startIndex w)
    rw [e]
    exact ⟨kept.disc, kept.line, kept.supply, kept.valve⟩
  · exact ⟨rfl, rfl, rfl, rfl⟩

theorem filterSecond_undisturbed (h : s.line.flushGranted = false) : Undisturbed s (filterSecond s) := by
  have screened := (works_screened s).undisturbed
  rw [filterSecond_eq]
  exact screened.trans (flushEnd_undisturbed (by rw [screened.line]; exact h))

theorem timed_undisturbed (s : State) : Undisturbed s s.timed := by
  have busy (k : Tank) (s : State) : Undisturbed s (lineBusy k s) := by
    unfold lineBusy
    split
    · obtain ⟨n, e⟩ := defer_others k .lineBusy s
      rw [e]
      exact ⟨rfl, rfl, rfl, rfl⟩
    · exact ⟨rfl, rfl, rfl, rfl⟩
  have set : Undisturbed s { s with seq := { s.seq with
      timing := s.settings.user.soft.timing, windowHour := s.settings.user.soft.windowHour } } := ⟨rfl, rfl, rfl, rfl⟩
  unfold State.timed
  exact (set.trans (busy .a _)).trans (busy .b _)

/-- Without a READY tank beside the one in service, and without a flush's grant, nothing disturbs a step before its timer. -/
theorem untimed_undisturbed (x : SecondInputs) (f : Bool) (h : ∀ k, s.serviceTank = some k → (s.tank k.other).service ≠ .ready)
    (hf : s.line.flushGranted = false) : Undisturbed s (s.untimed x f) := by
  have capacity := capacitySecond_undisturbed x f h
  have brine := capacity.trans (brineSecond_undisturbed x (capacitySecond x f s))
  have filter := brine.trans (filterSecond_undisturbed (by rw [brine.line]; exact hf))
  unfold State.untimed
  exact filter.trans (timed_undisturbed _)

end

/-! ### A step through a second (R72) -/

/-- A tank regenerates, is not taken into service, and the disc is not at its READY position. -/
structure State.Regenerates (o : Tank) (s : State) : Prop where
  service : (s.tank o).service = .regenerating
  spares : s.spares o
  away : ¬ s.stands (readyPosition o)

section
variable {e : Span} {own claims : Bool} {s t : State} {o : Tank} {r : TankRecord} {k : Step} {x : SecondInputs} {f : Bool}

theorem Pass.regenerates (h : Pass e own claims s t) (hr : s.Regenerates o) : t.Regenerates o := by
  obtain ⟨service, spares, away⟩ := hr
  refine ⟨?_, h.spares spares service, h.stands away⟩
  have move := h.tank o
  generalize t.tank o = q at move
  cases move with
  | marked _ h => rw [h.others]; exact service
  | hours => exact service
  | begins _ h => cases service.symm.trans h
  | arrives => exact service
  | next => exact service
  | home => exact service
  | ends _ _ _ hd => exact absurd hd away
  | swaps c hc ho => exact absurd ho (State.spares_swaps spares hc)
  | holds c hc ho hp hd => exact absurd hd (State.spares_holds spares hc hp)
  | steps u _ _ h => rw [h.record]; exact service

/-- The other tank's step timer leaves a step under way alone. -/
theorem runs_aside (hr : r.Runs (s.tank o)) (hs : s.spares o) :
    r.Runs ((stepSecond o.other s).tank o) ∧ (stepSecond o.other s).spares o ∧ Undisturbed s (stepSecond o.other s) := by
  cases hx : stepRuns o.other s with
  | false =>
    rw [stepSecond_idle hx]
    exact ⟨hr, hs, rfl, rfl, rfl, rfl⟩
  | true =>
    have stepped := stepped_stepSecond o.other s
    have pass : Pass { timer := true } false false s (stepSecond o.other s) := .steps o.other rfl hx stepped
    have tank : (stepSecond o.other s).tank o = s.tank o := by
      rw [stepped.others]
      exact (withTank_tank _ _ _ _).trans (if_neg (tank_ne_other o))
    refine ⟨by rw [tank]; exact hr, pass.spares hs hr.service, ?_⟩
    rw [stepped.others]
    exact ⟨rfl, rfl, rfl, rfl⟩

/-- A step under way after the step timers stays so to the end of the second. -/
theorem timers_run (h : r.Runs ((stepSecond .b (stepSecond .a (s.untimed x f))).tank o))
    (hs : (stepSecond .b (stepSecond .a (s.untimed x f))).spares o) : r.Runs ((afterMetering x f s).tank o) := by
  have dwelt : r.Runs ((s.untimed x f).timers.tank o) ∧ (s.untimed x f).timers.spares o := by
    unfold State.timers
    exact (passes_dwellSecond (e := { dwell := true }) (own := false) (claims := false) _ rfl).keeps
      (I := fun t => r.Runs (t.tank o) ∧ t.spares o) (fun h ⟨hr, hs⟩ => ⟨h.runs rfl hr hs, h.spares hs hr.service⟩) ⟨h, hs⟩
  exact (timers_keep (I := fun t => r.Runs (t.tank o) ∧ t.spares o)
    (fun h ⟨hr, hs⟩ => ⟨h.runs rfl hr hs, h.spares hs hr.service⟩) dwelt).1

/-- A tank's own timer, in whichever turn, decides what the step timers make of its step. -/
theorem stepTimers_run {q : TankRecord} {w : State} (hr : r.Runs (w.tank o)) (hs : w.spares o)
    (own : ∀ v, r.Runs (v.tank o) → v.spares o → Undisturbed w v → q.Runs ((stepSecond o v).tank o) ∧ (stepSecond o v).spares o) :
    q.Runs ((stepSecond .b (stepSecond .a w)).tank o) ∧ (stepSecond .b (stepSecond .a w)).spares o := by
  cases o with
  | a =>
    obtain ⟨runs, spares⟩ := own w hr hs ⟨rfl, rfl, rfl, rfl⟩
    obtain ⟨runs, spares, -⟩ := runs_aside (o := .a) runs spares
    exact ⟨runs, spares⟩
  | b =>
    obtain ⟨runs, spares, still⟩ := runs_aside (o := .b) hr hs
    exact own _ runs spares still

theorem spares_none (h : s.seq.changeover = none) : s.spares o := fun c hc => by cases h.symm.trans hc

theorem untimed_runs (hs : (s.tank o).service = .regenerating) (hp : (s.tank o).phase = some .inStep) (hc : s.seq.changeover = none) :
    (s.tank o).Runs ((s.untimed x f).tank o) ∧ (s.untimed x f).spares o :=
  untimed_keeps (I := fun t => (s.tank o).Runs (t.tank o) ∧ t.spares o)
    (fun ht _ h ⟨hr, hs⟩ => ⟨h.runs ht hr hs, h.spares hs hr.service⟩) ⟨.refl hs hp, spares_none hc⟩

/-- A step of which a condition fails is held (R72). -/
theorem second_holds (hs : (s.tank o).service = .regenerating) (hp : (s.tank o).phase = some .inStep) (hc : s.seq.changeover = none)
    (hn : s.supply.state ≠ .mains ∨ s.valve.state ≠ .opened ∨ s.discFree = false) : (s.tank o).Runs ((afterMetering x f s).tank o) := by
  obtain ⟨runs, spares⟩ := untimed_runs (x := x) (f := f) hs hp hc
  have fails : (s.untimed x f).supply.state ≠ .mains ∨ (s.untimed x f).valve.state ≠ .opened ∨ (s.untimed x f).discFree = false := by
    rcases hn with hn | hn | hn
    · exact .inl (untimed_keeps (I := fun t => t.supply.state ≠ .mains) (fun _ _ h ht => by rw [h.supply]; exact ht) hn)
    · have rests := untimed_keeps (x := x) (f := f) (I := Rests s) (fun _ _ h hr => h.rests hr) (.refl (.inl hn))
      exact .inr (.inl (by rw [rests.valve]; exact hn))
    · exact .inr (.inr (untimed_keeps (I := fun t => t.discFree = false) (fun _ _ h ht =>
        Bool.eq_false_iff.2 fun hf => Bool.false_ne_true (ht.symm.trans (h.free hf))) hn))
  obtain ⟨runs, spares⟩ := stepTimers_run runs spares (fun v hr hs still => by
    have idle : stepRuns o v = false := by
      refine Bool.eq_false_iff.2 fun hr => ?_
      obtain ⟨-, -, -, mains, opened, free⟩ := (stepRuns_iff o v).mp hr
      rw [still.supply] at mains
      rw [still.valve] at opened
      rw [still.free] at free
      rcases fails with fails | fails | fails
      · exact fails mains
      · exact fails opened
      · exact Bool.false_ne_true (fails.symm.trans free)
    rw [stepSecond_idle idle]
    exact ⟨hr, hs⟩)
  exact timers_run runs spares

/-- The record of a step that a second counts (R72). -/
def TankRecord.counted (r : TankRecord) : TankRecord := { r with elapsed := r.elapsed + 1, elapsedMin := (r.elapsed + 1) / 60 }

/-- The timer of a step whose time is not up (R72, R73). -/
theorem counted_stepSecond (hr : r.Runs (s.tank o)) (hs : s.spares o) (hg : r.claim = .granted) (hm : s.supply.state = .mains)
    (hv : s.valve.state = .opened) (hf : s.discFree = true) (hk : r.step = some k) (hn : k ≠ .refill)
    (hd : r.elapsed + 1 < r.recipe.duration k) : r.counted.Runs ((stepSecond o s).tank o) ∧ (stepSecond o s).spares o := by
  have runs : stepRuns o s = true := (stepRuns_iff o s).mpr ⟨hr.service, hr.phase, hr.granted hg, hm, hv, hf⟩
  have pass : Pass { timer := true } false false s (stepSecond o s) := .steps o rfl runs (stepped_stepSecond o s)
  have goes := stepSecond_goes runs (hr.step.trans hk) hn (by rw [hr.elapsed, hr.recipe]; exact hd)
  obtain ⟨m, l, n, e, -⟩ := brine1200_others o (s.ticked o)
  rw [e] at goes
  have tank : (stepSecond o s).tank o = { s.tank o with elapsed := (s.tank o).elapsed + 1, elapsedMin := ((s.tank o).elapsed + 1) / 60 } := by
    rw [goes]
    exact PerTank.get_set_same _ _ _
  refine ⟨?_, pass.spares hs hr.service⟩
  rw [tank, hr.elapsed]
  exact ⟨hr.service, hr.phase, hr.step, rfl, rfl, hr.recipe, hr.granted⟩

/-- A step whose conditions stand is counted (R72). -/
theorem second_counts (hs : (s.tank o).service = .regenerating) (hp : (s.tank o).phase = some .inStep) (hc : s.seq.changeover = none)
    (hg : (s.tank o).claim = .granted) (hl : s.line.flushGranted = false) (hm : s.supply.state = .mains) (hv : s.valve.state = .opened)
    (hf : s.discFree = true) (hk : (s.tank o).step = some k) (hn : k ≠ .refill)
    (hd : (s.tank o).elapsed + 1 < (s.tank o).recipe.duration k) : (s.tank o).counted.Runs ((afterMetering x f s).tank o) := by
  have unready : ∀ j, s.serviceTank = some j → (s.tank j.other).service ≠ .ready := by
    intro j hj hr
    have inService := (serviceTank_iff.mp hj).1
    rcases Tank.eq_or_other o j with ho | ho
    · rw [← ho, hs] at inService
      cases inService
    · rw [← ho, hs] at hr
      cases hr
  have still := untimed_undisturbed x f unready hl
  obtain ⟨runs, spares⟩ := untimed_runs (x := x) (f := f) hs hp hc
  obtain ⟨runs, spares⟩ := stepTimers_run runs spares (fun v hr hs same =>
    have kept := still.trans same
    counted_stepSecond hr hs hg (by rw [kept.supply]; exact hm) (by rw [kept.valve]; exact hv) (by rw [kept.free]; exact hf) hk hn hd)
  exact timers_run runs spares

end

/-! ### The arrival at a step's position (R71) -/

section
variable {s : State} {t : Tank} {k : Step}

/-- The disc at the position of the step that the tank waits for (R71). -/
theorem sequencerArrival_step (hc : s.seq.changeover = none) (hs : (s.tank t).service = .regenerating)
    (ho : (s.tank t.other).service ≠ .regenerating) (hp : (s.tank t).phase = some .toStep) (hk : (s.tank t).step = some k) :
    sequencerArrival (stepPosition t k) s = stepStarted t k (changeTank t { s.tank t with phase := some .inStep } s) := by
  have place : positionStep t (stepPosition t k) = some k := positionStep_iff.mpr rfl
  have phase : (s.tank t).phase ≠ some .toReady := by rw [hp]; exact fun h => by cases h
  simp only [sequencerArrival, hc, regenerating_only hs ho, if_neg phase, place, stepArrival, if_pos hk, if_pos hp]

/-- What the Brine Monitor takes of a step's start (R94, R97). -/
def State.brineStarted (s : State) (t : Tank) : Step → Brine
  | .refill => { s.brine with refill := some { tank := t, volume := 0 } }
  | .brine => { s.brine with
      refill := none
      measure := some { tank := t, start := s.brine.level, lowest := s.brine.level, planned := s.brine.lastRefill
                        area := s.settings.inst.brineArea, saturation := startSaturation s } }
  | _ => s.brine

theorem stepStarted_brine (t : Tank) (k : Step) (s : State) : stepStarted t k s = { s with brine := s.brineStarted t k } := by
  cases k <;> rfl

theorem sequencerArrival_started (hc : s.seq.changeover = none) (hs : (s.tank t).service = .regenerating)
    (ho : (s.tank t.other).service ≠ .regenerating) (hp : (s.tank t).phase = some .toStep) (hk : (s.tank t).step = some k) :
    ∃ n, sequencerArrival (stepPosition t k) s =
      { s.withTank t { s.tank t with phase := some .inStep } with brine := s.brineStarted t k, notices := n } := by
  obtain ⟨n, told⟩ := changeTank_notices t { s.tank t with phase := some .inStep } s
  refine ⟨n, ?_⟩
  rw [sequencerArrival_step hc hs ho hp hk, stepStarted_brine, told]
  cases k <;> rfl

/-! ### The step's end (R73, R74, R79) -/

/-- Only the tank whose step runs can end it. -/
theorem stepEnd_pair (ho : (s.tank t.other).service ≠ .regenerating) : stepEnd .b (stepEnd .a s) = stepEnd t s := by
  have idle {o : Tank} {v : State} (h : (v.tank o).service ≠ .regenerating) : stepEnd o v = v := by
    rw [stepEnd, stepRuns, beq_eq_false_iff_ne.mpr h]
    rfl
  cases t with
  | a =>
    have same : ((stepEnd .a s).tank .b) = s.tank .b := by
      unfold stepEnd
      split
      · rw [(stepped_endStep (Stepped.refl .a s)).others]
        exact (withTank_tank _ _ _ _).trans (if_neg Tank.noConfusion)
      · rfl
    exact idle (by rw [same]; exact ho)
  | b => rw [idle (o := .a) ho]

theorem stepOver_time (hk : (s.tank t).step = some k) (hd : (s.tank t).recipe.duration k ≤ (s.tank t).elapsed) : stepOver t s = true := by
  simp only [stepOver, hk, decide_eq_true hd, Bool.true_or]

theorem stepEnd_over (hr : stepRuns t s = true) (h : stepOver t s = true) : stepEnd t s = endStep t s := by
  rw [stepEnd, hr, h]
  rfl

/-- A step but REFILL that has run its time is ended as it stands (R73). -/
theorem stepEnd_time (hr : stepRuns t s = true) (hk : (s.tank t).step = some k) (hn : k ≠ .refill)
    (hd : (s.tank t).recipe.duration k ≤ (s.tank t).elapsed) : stepEnd t s = phaseAfter t (stepReported (some k) s) := by
  have other : (s.tank t).step ≠ some .refill := fun h => hn (Option.some.inj (hk.symm.trans h))
  rw [stepEnd_over hr (stepOver_time hk hd), endStep, if_neg other, skipStep, hk]

theorem phaseAfter_ends (hh : (s.tank t).halt = false) : phaseAfter t s = changeTank t { s.tank t with phase := some .stepEnded } s := by
  simp only [phaseAfter, hh, Bool.false_eq_true, if_false]

theorem phaseAfter_halts (hh : (s.tank t).halt = true) : phaseAfter t s = requestDoneIf (.tank t) (s.tank t).haltTag kindTankCmd .done 0
    (changeTank t { s.tank t with phase := some .halted, haltTag := none } s) := by
  simp only [phaseAfter, hh, if_true]

/-- A REFILL that ends is judged, and the Brine Monitor takes its volume and its end time (R73, R97). -/
theorem skipStep_refill {c : RefillCount} (hk : (s.tank t).step = some .refill) (hh : (s.tank t).halt = false)
    (hc : s.brine.refill = some c) : skipStep t s = changeTank t { s.tank t with phase := some .stepEnded }
      { s with brine := { s.brine with lastRefill := c.volume, refillEnd := s.now, refill := none } } := by
  have reported : stepReported (some .refill) s = { s with brine := { s.brine with lastRefill := c.volume, refillEnd := s.now, refill := none } } := by
    simp only [stepReported, refillEnd, hc]
  rw [skipStep, hk, reported]
  exact phaseAfter_ends hh

theorem refillVolume_count {c : RefillCount} (hc : s.brine.refill = some c) : refillVolume s = c.volume := by rw [refillVolume, hc]

theorem refillReached_iff (hk : (s.tank t).step = some .refill) : refillReached t s = true ↔ (s.tank t).recipe.refillML ≤ refillVolume s := by
  rw [refillReached, hk]
  exact ⟨fun h => of_decide_eq_true h, fun h => decide_eq_true h⟩

theorem stepEnd_filled {c : RefillCount} (hr : stepRuns t s = true) (hk : (s.tank t).step = some .refill)
    (hc : s.brine.refill = some c) (hv : (s.tank t).recipe.refillML ≤ c.volume) :
    stepEnd t s = skipStep t (faultGone .refillShort (.tank t) s) := by
  have reached : refillReached t s = true := (refillReached_iff hk).mpr (by rw [refillVolume_count hc]; exact hv)
  have ends : stepOver t s = true := by simp only [stepOver, hk, reached, Bool.or_true]
  rw [stepEnd_over hr ends, endStep, if_pos hk, if_pos reached]

theorem stepEnd_short {c : RefillCount} (hr : stepRuns t s = true) (hk : (s.tank t).step = some .refill)
    (hc : s.brine.refill = some c) (hv : c.volume < (s.tank t).recipe.refillML) (hd : (s.tank t).recipe.refillLimit ≤ (s.tank t).elapsed) :
    stepEnd t s = skipStep t (faultReport .refillShort (.tank t) (c.volume : Int) s) := by
  have short : ¬ refillReached t s = true := fun h => by
    have reached := (refillReached_iff hk).mp h
    rw [refillVolume_count hc] at reached
    exact Nat.not_le.2 hv reached
  rw [stepEnd_over hr (stepOver_time hk hd), endStep, if_pos hk, if_neg short, refillVolume_count hc]

theorem brineEnd_draw {m : BrineMeasure} (hm : s.brine.measure = some m) : brineEnd s = { s with brine := { s.brine with
    measure := none, draw := some { drawn := m.drawn, completeness := m.completeness, saturation := m.saturation } } } := by
  rw [brineEnd, hm]

end

/-- R71 to R74, R79, R94 and R97: a step's arrival, its seconds and its end. Settles O19: the step's record is the same through every change
of a second but its own timer's. -/
theorem stepsEnd : Obligations.StepsEnd := by
  refine ⟨fun t k code s h ha hc hs ho hp hk => ?_, fun t k x s h hc hs ho hk hp hd => ?_, fun t s h hr ho hk => ?_⟩
  · obtain ⟨n, e⟩ := sequencerArrival_started (s := { s with disc := s.disc.arrived code (stepPosition t k) }) hc hs ho hp hk
    refine ⟨_, event_leaves h (arriving_arrival ha e rfl rfl), PerTank.get_set_same _ _ _, PerTank.get_set_other _ _ _, rfl, ?_, rfl⟩
    cases k <;> rfl
  · obtain ⟨b, e⟩ := exec_second x h
    have kept := metered_metered x s
    have service : ((s.metered x).tank t).service = .regenerating := by rw [kept.tank]; exact hs
    have phase : ((s.metered x).tank t).phase = some .inStep := by rw [kept.tank]; exact hp
    have changeover : (s.metered x).seq.changeover = none := kept.changeover.trans hc
    have away : ¬ (s.metered x).stands (readyPosition t) := by
      rintro ⟨free, position⟩
      rw [kept.free] at free
      rw [kept.position] at position
      obtain ⟨rest, auto⟩ := (State.discFree_iff s).mp free
      exact readyPosition_ne_step t t k (Option.some.inj (position.symm.trans (hd auto rest)))
    have regenerates : (afterMetering x (secondFrozen x s) (s.metered x)).Regenerates t :=
      second_keeps (I := State.Regenerates t) (fun h hr => h.regenerates hr) ⟨service, spares_none changeover, away⟩
    have holds := second_holds (x := x) (f := secondFrozen x s) service phase changeover
    have counts := second_counts (x := x) (f := secondFrozen x s) (k := k) service phase changeover
    rw [kept.tank, kept.supply, kept.valve, kept.free] at holds counts
    rw [kept.line] at counts
    generalize afterMetering x (secondFrozen x s) (s.metered x) = v at e regenerates holds counts
    refine ⟨_, e, regenerates.service, fun hg hl hm hv hf hn ht => ?_, fun hn => ?_⟩
    · have runs := counts hg (by rw [hl]; rfl) hm hv hf hk hn ht
      exact ⟨runs.step.trans hk, runs.phase, runs.elapsed, runs.elapsedMin⟩
    · have runs := holds hn
      exact ⟨runs.step.trans hk, runs.phase, runs.elapsed, runs.elapsedMin⟩
  · have ends {u : State} (hu : stepEnd t s = u) : exec .stepEnd s = commit s (follow u) :=
      event_leaves (f := fun s => stepEnd .b (stepEnd .a s)) h ((stepEnd_pair ho).trans hu)
    refine ⟨fun hn => ends ?_, fun k hk hx hd => ⟨fun hh => ends ?_, fun hh ht => ends ?_, fun tag hh ht => ends ?_⟩,
      fun c hk hh hc => ⟨fun hv => ends ?_, fun hv hd => ends ?_⟩, fun m hk hh hd hm => ends ?_⟩
    · rw [stepEnd, hn, Bool.and_false]
      exact if_neg Bool.false_ne_true
    · rw [stepEnd_time hr hk (by rintro rfl; exact hx.elim Step.noConfusion Step.noConfusion) hd]
      exact phaseAfter_quiet (hx.imp (congrArg some) (congrArg some)) hh
    · have unreported : stepReported (some k) s = s := by rcases hx with rfl | rfl <;> rfl
      rw [stepEnd_time hr hk (by rintro rfl; exact hx.elim Step.noConfusion Step.noConfusion) hd, unreported, phaseAfter_halts hh, ht]
      exact (congrArg (fun r => changeTank t r s) (by rw [← ht]))
    · have unreported : stepReported (some k) s = s := by rcases hx with rfl | rfl <;> rfl
      rw [stepEnd_time hr hk (by rintro rfl; exact hx.elim Step.noConfusion Step.noConfusion) hd, unreported, phaseAfter_halts hh, ht]
      rfl
    · rw [stepEnd_filled hr hk hc hv]
      exact skipStep_refill (s := faultGone .refillShort (.tank t) s) hk hh hc
    · rw [stepEnd_short hr hk hc hv hd]
      exact skipStep_refill (s := faultReport .refillShort (.tank t) (c.volume : Int) s) hk hh hc
    · rw [stepEnd_time hr hk Step.noConfusion hd, stepReported, brineEnd_draw hm]
      exact phaseAfter_ends hh

end Sys2Proof.Machine

/-! The Capacity Unit's second, tank by tank: its share, its exhaustion and its bed probe. -/

namespace Sys2Proof.Machine

set_option Elab.async false

section
variable {s t u : State} {k : Tank} {f : Bool} {v : Int}

/-! ### A tank's share and HARD_WATER (R29, R30) -/

theorem withRecord_self (k : Tank) (s : State) : s.withRecord k (s.record k) = s := by cases k <;> rfl

theorem withRecord_record (k : Tank) (r : CapacityRecord) (s : State) : (s.withRecord k r).record k = r := PerTank.get_set_same _ _ _

theorem withRecord_other (k : Tank) (r : CapacityRecord) (s : State) : (s.withRecord k r).record k.other = s.record k.other :=
  PerTank.get_set_other _ _ _

/-- HARD_WATER is marked where the remaining capacity is below 0 (R30). -/
theorem hardWater_own (k : Tank) (s : State) : ∃ n, hardWater k s = { s.withRecord k { s.record k with
    hardPosted := (s.record k).hardPosted || decide ((s.record k).remaining < 0) } with notices := n } := by
  unfold hardWater
  dsimp only
  by_cases hc : (s.record k).remaining < 0 ∧ (s.record k).hardPosted = false
  · rw [if_pos hc, decide_eq_true hc.1, Bool.or_true]
    exact ⟨_, rfl⟩
  · have same : ((s.record k).hardPosted || decide ((s.record k).remaining < 0)) = (s.record k).hardPosted := by
      cases hp : (s.record k).hardPosted with
      | true => rfl
      | false =>
        rw [decide_eq_false fun hr => hc ⟨hr, hp⟩]
        rfl
    rw [if_neg hc, same]
    exact ⟨s.notices, congrArg (fun w : State => { w with notices := s.notices }) (withRecord_self k s).symm⟩

theorem hardWater_idle (h : 0 ≤ (s.record k).remaining) : hardWater k s = s := if_neg fun hc => Int.not_le.2 hc.1 h

/-- A record after its share, HARD_WATER marked as the share passes below 0 (R29, R30). -/
def CapacityRecord.served (r : CapacityRecord) (hEff v : Nat) : CapacityRecord :=
  { r.deplete hEff v with hardPosted := r.hardPosted || decide (0 ≤ r.remaining ∧ (r.deplete hEff v).remaining < 0) }

theorem depleteTank_own (k : Tank) (v : Nat) (s : State) :
    ∃ n, depleteTank k v s = { s.withRecord k ((s.record k).served s.cap.hEff v) with notices := n } := by
  unfold depleteTank CapacityRecord.served
  dsimp only
  by_cases hr : 0 ≤ (s.record k).remaining
  · obtain ⟨n, e⟩ := hardWater_own k (s.withRecord k ((s.record k).deplete s.cap.hEff v))
    rw [if_pos hr, e, withRecord_record]
    simp only [hr, true_and]
    exact ⟨n, by cases k <;> rfl⟩
  · simp only [hr, if_false, false_and, decide_false, Bool.or_false]
    exact ⟨s.notices, rfl⟩

/-- A tank's record after the shares of a second. -/
def State.taken (f : Bool) (s : State) (k : Tank) : CapacityRecord :=
  if receives k s && !f then (s.record k).served s.cap.hEff (s.meter.now.shares.get k) else s.record k

theorem depleteShare_own (k : Tank) (f : Bool) (s : State) : ∃ n, depleteShare k f s = { s.withRecord k (s.taken f k) with notices := n } := by
  unfold depleteShare State.taken
  split
  · exact depleteTank_own k _ s
  · exact ⟨s.notices, congrArg (fun w : State => { w with notices := s.notices }) (withRecord_self k s).symm⟩

theorem depleted_taken (f : Bool) (s : State) : ∃ n, s.depleted f =
    { s with cap := { s.cap with recs := ⟨s.taken f .a, s.taken f .b⟩ }, notices := n } := by
  obtain ⟨n, first⟩ := depleteShare_own .a f s
  obtain ⟨m, second⟩ := depleteShare_own .b f (depleteShare .a f s)
  refine ⟨m, ?_⟩
  rw [State.depleted, second, first]
  rfl

theorem taken_marks (f : Bool) (s : State) (k : Tank) : (s.taken f k).frontSeen = (s.record k).frontSeen
    ∧ (s.taken f k).credited = (s.record k).credited ∧ (s.taken f k).exhaustionRaised = (s.record k).exhaustionRaised := by
  unfold State.taken
  split <;> exact ⟨rfl, rfl, rfl⟩

/-! ### The exhaustion (R31) -/

/-- A tank's record after its exhaustion is judged. -/
def CapacityRecord.raised (r : CapacityRecord) (margin : Nat) : CapacityRecord :=
  { r with exhaustionRaised := r.exhaustionRaised || decide (r.remaining ≤ (switchPoint r margin : Int)) }

theorem CapacityRecord.raised_due {r : CapacityRecord} {n : Nat} (h : exhaustionDue r n = true) : r.raised n = { r with exhaustionRaised := true } := by
  obtain ⟨low, -⟩ := Bool.and_eq_true_iff.mp h
  rw [CapacityRecord.raised, low, Bool.or_true]

theorem CapacityRecord.raised_idle {r : CapacityRecord} {n : Nat} (h : exhaustionDue r n = false) : r.raised n = r := by
  have same : (r.exhaustionRaised || decide (r.remaining ≤ (switchPoint r n : Int))) = r.exhaustionRaised := by
    unfold exhaustionDue at h
    generalize decide (r.remaining ≤ (switchPoint r n : Int)) = low at h
    cases low <;> cases he : r.exhaustionRaised <;> simp [he] at h ⊢
  rw [CapacityRecord.raised, same]

/-- The state that a raised exhaustion is handed on from: the shares taken, and the tank in service marked. -/
def State.raises (f : Bool) (k : Tank) (n : NoticeQueue) (s : State) : State :=
  { s with
    cap := { s.cap with recs := (⟨s.taken f .a, s.taken f .b⟩ : PerTank CapacityRecord).set k ((s.taken f k).raised s.settings.user.soft.margin) }
    notices := n }

/-- The shares and the exhaustion of a second with one tank in service (R29 to R31). -/
theorem shared_serves (hk : s.serviceTank = some k) (f : Bool) : ∃ n, s.shared f =
    if exhaustionDue (s.taken f k) s.settings.user.soft.margin then takeExhaustion k (s.raises f k n) else s.raises f k n := by
  obtain ⟨n, e⟩ := depleted_taken f s
  refine ⟨n, ?_⟩
  have own : (s.depleted f).record k = s.taken f k := by
    rw [e]
    cases k <;> rfl
  have tank : (s.depleted f).serviceTank = some k := by
    rw [e]
    exact hk
  have margin : (s.depleted f).settings = s.settings := by rw [e]
  unfold State.shared raiseExhaustion
  rw [tank]
  dsimp only
  rw [own, margin]
  cases hd : exhaustionDue (s.taken f k) s.settings.user.soft.margin with
  | true =>
    unfold State.raises
    rw [CapacityRecord.raised_due hd, e]
    rfl
  | false =>
    unfold State.raises
    rw [CapacityRecord.raised_idle hd, e]
    cases k <;> rfl

theorem shared_idle (hk : s.serviceTank = none) (f : Bool) : s.shared f = s.depleted f := by
  obtain ⟨n, e⟩ := depleted_taken f s
  have tank : (s.depleted f).serviceTank = none := by
    rw [e]
    exact hk
  unfold State.shared raiseExhaustion
  rw [tank]

theorem takeExhaustion_record (k j : Tank) (s : State) : (takeExhaustion k s).record j = s.record j := by
  obtain ⟨q, d, n, e⟩ := takeExhaustion_others k s
  rw [e]
  rfl

theorem shared_record (f : Bool) (s : State) (j : Tank) : (s.shared f).record j =
    if s.serviceTank = some j then (s.taken f j).raised s.settings.user.soft.margin else s.taken f j := by
  cases hk : s.serviceTank with
  | none =>
    obtain ⟨n, e⟩ := depleted_taken f s
    rw [shared_idle hk, e, if_neg (Option.some_ne_none j).symm]
    cases j <;> rfl
  | some k =>
    obtain ⟨n, e⟩ := shared_serves hk f
    have raised : (s.raises f k n).record j =
        if some k = some j then (s.taken f j).raised s.settings.user.soft.margin else s.taken f j := by
      cases k <;> cases j <;> rfl
    rw [e, ← raised]
    split
    · exact takeExhaustion_record k j _
    · rfl

/-- A second's shares leave the marks of learning alone. -/
theorem shared_marks (f : Bool) (s : State) (j : Tank) : ((s.shared f).record j).frontSeen = (s.record j).frontSeen
    ∧ ((s.shared f).record j).credited = (s.record j).credited := by
  obtain ⟨seen, credited, -⟩ := taken_marks f s j
  rw [shared_record]
  split
  · exact ⟨seen, credited⟩
  · exact ⟨seen, credited⟩

end

end Sys2Proof.Machine

/-! The bed probe's front and its sample: O10. -/

namespace Sys2Proof.Machine

set_option Elab.async false

/-! ### A front (R35, R36, R38) -/

section
variable {s t u : State} {k : Tank} {f : Bool} {v : Int}

/-- A front learns: the record as the front makes it, HARD_WATER marked with it, and the run count back at 0. -/
theorem frontDetected_own (hr : 31 ≤ s.cap.runs.get k) (hp : s.settings.inst.probeDepth ≠ 0) (hc : (s.record k).credited ≠ 0) :
    ∃ b n, frontDetected k s = { s with
        cap := { s.cap with
          recs := s.cap.recs.set k { (s.record k).front s.settings.inst.probeDepth with hardPosted := b }
          runs := s.cap.runs.set k 0 }
        notices := n }
      ∧ (0 ≤ ((s.record k).front s.settings.inst.probeDepth).remaining → frontDetected k s =
        post .frontSeen (.tank k) ((s.record k).front s.settings.inst.probeDepth).learned (frontError (s.record k) s.settings.inst.probeDepth)
          (trueCapacity (s.record k) s.settings.inst.probeDepth) { s with cap := (frontDetected k s).cap }) := by
  have e : frontDetected k s = hardWater k (post .frontSeen (.tank k) ((s.record k).front s.settings.inst.probeDepth).learned
      (frontError (s.record k) s.settings.inst.probeDepth) (trueCapacity (s.record k) s.settings.inst.probeDepth)
      ((clearRun k s).withRecord k ((s.record k).front s.settings.inst.probeDepth))) := if_pos ⟨hr, hp, hc⟩
  have record : (post .frontSeen (.tank k) ((s.record k).front s.settings.inst.probeDepth).learned
      (frontError (s.record k) s.settings.inst.probeDepth) (trueCapacity (s.record k) s.settings.inst.probeDepth)
      ((clearRun k s).withRecord k ((s.record k).front s.settings.inst.probeDepth))).record k =
      (s.record k).front s.settings.inst.probeDepth := PerTank.get_set_same _ _ _
  obtain ⟨n, told⟩ := hardWater_own k (post .frontSeen (.tank k) ((s.record k).front s.settings.inst.probeDepth).learned
      (frontError (s.record k) s.settings.inst.probeDepth) (trueCapacity (s.record k) s.settings.inst.probeDepth)
      ((clearRun k s).withRecord k ((s.record k).front s.settings.inst.probeDepth)))
  rw [record] at told
  refine ⟨((s.record k).front s.settings.inst.probeDepth).hardPosted || decide (((s.record k).front s.settings.inst.probeDepth).remaining < 0),
    n, ?_, fun h0 => ?_⟩
  · rw [e, told]
    cases k <;> rfl
  · rw [e, hardWater_idle (by rw [record]; exact h0)]
    rfl

theorem frontDetected_idle (h : ¬ (31 ≤ s.cap.runs.get k ∧ s.settings.inst.probeDepth ≠ 0 ∧ (s.record k).credited ≠ 0)) :
    frontDetected k s = s := if_neg h

theorem learnFactor_eq (l : Nat) (m : LearnMode) (e : Int) :
    ((learnFactor l m e : Nat) : Int) = max 600 (min 1100 (l + e.tdiv (if m = .acquisition then 2 else 8))) := by
  have positive : 0 ≤ clampInt 600 1100 (l + e.tdiv (if m = .acquisition then 2 else 8)) := by
    unfold clampInt
    omega
  cases m
  · exact Int.toNat_of_nonneg positive
  · exact Int.toNat_of_nonneg positive

/-- The learning mode and the count of small errors after an error (R36). -/
theorem learnMode_cases (m : LearnMode) (n : Nat) (e : Int) :
    (m = .acquisition → e.natAbs ≤ 30 → n = 0 → learnMode m n e = (.acquisition, 1))
    ∧ (m = .acquisition → e.natAbs ≤ 30 → n = 1 → learnMode m n e = (.tracking, 0))
    ∧ (m = .acquisition → 30 < e.natAbs → learnMode m n e = (.acquisition, 0))
    ∧ (m = .tracking → e.natAbs ≤ 80 → learnMode m n e = (.tracking, 0))
    ∧ (m = .tracking → 80 < e.natAbs → learnMode m n e = (.acquisition, 0)) := by
  refine ⟨fun hm he hn => ?_, fun hm he hn => ?_, fun hm he => ?_, fun hm he => ?_, fun hm he => ?_⟩
  · subst hm hn
    rw [learnMode, if_pos he]
    rfl
  · subst hm hn
    rw [learnMode, if_pos he]
    rfl
  · subst hm
    rw [learnMode, if_neg (Nat.not_le.2 he)]
  · subst hm
    rw [learnMode, if_pos he]
  · subst hm
    rw [learnMode, if_neg (Nat.not_le.2 he)]

/-! ### One probe's second beside the other tank -/

/-- What the second of one tank's probe leaves of tank `k`. -/
structure Aside (k : Tank) (s t : State) : Prop where
  probed : Probed s t
  runs : t.cap.runs.get k = s.cap.runs.get k
  fault : t.cap.probeFault.get k = s.cap.probeFault.get k
  record : t.record k = s.record k
  faults : t.faults.of .bedProbe (.tank k) = s.faults.of .bedProbe (.tank k)

theorem Aside.refl (k : Tank) (s : State) : Aside k s s := ⟨.refl s, rfl, rfl, rfl, rfl⟩

theorem Aside.trans (h : Aside k s t) (h' : Aside k t u) : Aside k s u :=
  ⟨h.probed.trans h'.probed, h'.runs.trans h.runs, h'.fault.trans h.fault, h'.record.trans h.record, h'.faults.trans h.faults⟩

theorem other_ne_tank (k : Tank) : k.other ≠ k := (tank_ne_other k).symm

theorem aside_runs (k : Tank) (n : Nat) (s : State) : Aside k s { s with cap := { s.cap with runs := s.cap.runs.set k.other n } } :=
  ⟨⟨rfl, rfl, fun _ => rfl, id⟩, (PerTank.get_set _ _ _ _).trans (if_neg (tank_ne_other k)), rfl, rfl, rfl⟩

theorem aside_frontDetected (k : Tank) (s : State) : Aside k s (frontDetected k.other s) := by
  by_cases h : 31 ≤ s.cap.runs.get k.other ∧ s.settings.inst.probeDepth ≠ 0 ∧ (s.record k.other).credited ≠ 0
  · have probed := probed_frontDetected k.other s
    obtain ⟨b, n, e, -⟩ := frontDetected_own h.1 h.2.1 h.2.2
    rw [e] at probed ⊢
    exact ⟨probed, (PerTank.get_set _ _ _ _).trans (if_neg (tank_ne_other k)), rfl,
      (PerTank.get_set _ _ _ _).trans (if_neg (tank_ne_other k)), rfl⟩
  · rw [frontDetected_idle h]
    exact .refl k s

theorem aside_probeCount (k : Tank) (v : Int) (s : State) : Aside k s (probeCount k.other v s) :=
  (aside_runs k _ s).trans (aside_frontDetected k _)

theorem aside_probeSecond (k : Tank) (v : Int) (s : State) : Aside k s (probeSecond k.other v s) := by
  have subject : (.tank k.other : Subject) ≠ .tank k := fun h => other_ne_tank k (Subject.tank.inj h)
  unfold probeSecond probeSample
  split
  · split
    · dsimp only
      split
      · exact aside_runs k 0 s
      · exact (aside_runs k 0 s).trans ⟨⟨rfl, rfl, fun u => FaultLog.of_report _ _ _ (.inl (by decide)), FaultLog.report_overflow _ _ _ _ _⟩,
          rfl, (PerTank.get_set _ _ _ _).trans (if_neg (tank_ne_other k)), rfl, FaultLog.of_report _ _ _ (.inr subject)⟩
    · split
      · have gone : Aside k s (faultGone .bedProbe (.tank k.other) { s with cap := { s.cap with
            probeFault := s.cap.probeFault.set k.other false } }) :=
          ⟨⟨rfl, rfl, fun u => FaultLog.of_gone _ (.inl (by decide)), id⟩, rfl,
            (PerTank.get_set _ _ _ _).trans (if_neg (tank_ne_other k)), rfl, FaultLog.of_gone _ (.inr subject)⟩
        exact gone.trans (aside_probeCount k v _)
      · exact aside_probeCount k v s
  · exact .refl k s

theorem Aside.held (h : Aside k s t) : runHeld k t = runHeld k s := by
  have meter : t.meter = s.meter := by rw [h.probed.others]
  rw [runHeld, runHeld, h.record, meter]

/-! ### A tank's own sample (R33, R34, R37) -/

/-- What the sample `v` of tank `k`'s probe makes of the probe's fault mark, its records and its run count. -/
structure Sampled (k : Tank) (v : Int) (s t : State) : Prop where
  bad : v < 200 ∨ 1800 < v → t.cap.runs.get k = 0 ∧ t.cap.probeFault.get k = true
    ∧ (s.cap.probeFault.get k = true → t.faults.of .bedProbe (.tank k) = s.faults.of .bedProbe (.tank k))
    ∧ (s.cap.probeFault.get k = false →
      (∃ f ∈ t.faults.of .bedProbe (.tank k), f.active = true ∧ f.detail = v) ∨ t.faults.overflow = true)
  good : 200 ≤ v → v ≤ 1800 → t.cap.probeFault.get k = false
    ∧ (s.cap.probeFault.get k = true → ∀ f ∈ t.faults.of .bedProbe (.tank k), f.active = false)
    ∧ (runHeld k s = true ∨ 940 ≤ v ∧ v ≤ 1060 → t.cap.runs.get k = 0)
    ∧ (runHeld k s = false → v < 940 ∨ 1060 < v → s.cap.runs.get k < 30 → t.cap.runs.get k = s.cap.runs.get k + 1)
    ∧ (runHeld k s = false → v < 940 ∨ 1060 < v → s.cap.runs.get k = 30 → t.cap.runs.get k = 0 ∧ (t.record k).frontSeen = true)

theorem Sampled.before (hs : Sampled k v t u) (runs : t.cap.runs.get k = s.cap.runs.get k) (fault : t.cap.probeFault.get k = s.cap.probeFault.get k)
    (faults : t.faults.of .bedProbe (.tank k) = s.faults.of .bedProbe (.tank k)) (held : runHeld k t = runHeld k s) : Sampled k v s u := by
  obtain ⟨bad, good⟩ := hs
  rw [fault, faults] at bad
  rw [fault, held, runs] at good
  exact ⟨bad, good⟩

theorem Sampled.after (hs : Sampled k v s t) (h : Aside k t u) : Sampled k v s u := by
  obtain ⟨bad, good⟩ := hs
  rw [← h.fault, ← h.faults, ← h.runs] at bad
  rw [← h.fault, ← h.faults, ← h.runs, ← h.record] at good
  refine ⟨fun hv => ?_, good⟩
  obtain ⟨runs, fault, same, reported⟩ := bad hv
  exact ⟨runs, fault, same, fun hf => (reported hf).imp_right h.probed.overflow⟩

/-- The run count after a good sample (R33). -/
def State.runsAfter (k : Tank) (v : Int) (s : State) : Nat :=
  if runHeld k s then 0 else if v < 940 ∨ 1060 < v then s.cap.runs.get k + 1 else 0

theorem runsAfter_zero (h : runHeld k s = true ∨ 940 ≤ v ∧ v ≤ 1060) : s.runsAfter k v = 0 := by
  rw [State.runsAfter]
  rcases h with h | ⟨low, high⟩
  · rw [if_pos h]
  · rw [if_neg fun hv : v < 940 ∨ 1060 < v => by omega, ite_self]

theorem runsAfter_next (h : runHeld k s = false) (hv : v < 940 ∨ 1060 < v) : s.runsAfter k v = s.cap.runs.get k + 1 := by
  rw [State.runsAfter, h, if_neg Bool.false_ne_true, if_pos hv]

/-- A run that has not come to 31 seconds is no front. -/
theorem probeCount_runs (h : s.runsAfter k v < 31) :
    probeCount k v s = { s with cap := { s.cap with runs := s.cap.runs.set k (s.runsAfter k v) } } :=
  frontDetected_idle fun hc => Nat.not_le.2 h (by
    have runs := hc.1
    rwa [PerTank.get_set_same] at runs)

/-- The 31st second of a run is a front (R33). -/
theorem probeCount_front (hr : s.runsAfter k v = 31) (hp : s.settings.inst.probeDepth ≠ 0) (hc : (s.record k).credited ≠ 0) :
    ∃ r n, probeCount k v s = { s with cap := { s.cap with recs := s.cap.recs.set k r, runs := s.cap.runs.set k 0 }, notices := n }
      ∧ r.frontSeen = true := by
  obtain ⟨b, n, e, -⟩ := frontDetected_own (k := k) (s := { s with cap := { s.cap with runs := s.cap.runs.set k (s.runsAfter k v) } })
    (by rw [PerTank.get_set_same, hr]) hp hc
  refine ⟨{ (s.record k).front s.settings.inst.probeDepth with hardPosted := b }, n, ?_, rfl⟩
  show frontDetected k { s with cap := { s.cap with runs := s.cap.runs.set k (s.runsAfter k v) } } = _
  rw [e]
  cases k <;> rfl

theorem runHeld_false (h : runHeld k s = false) : (s.record k).credited ≠ 0 := by
  rw [runHeld, Bool.or_eq_false_iff, Bool.or_eq_false_iff, beq_eq_false_iff_ne] at h
  exact h.1.2

theorem frontDetected_kept (k : Tank) (s : State) : (frontDetected k s).cap.probeFault = s.cap.probeFault
    ∧ (frontDetected k s).faults = s.faults := by
  by_cases h : 31 ≤ s.cap.runs.get k ∧ s.settings.inst.probeDepth ≠ 0 ∧ (s.record k).credited ≠ 0
  · obtain ⟨b, n, e, -⟩ := frontDetected_own h.1 h.2.1 h.2.2
    rw [e]
    exact ⟨rfl, rfl⟩
  · rw [frontDetected_idle h]
    exact ⟨rfl, rfl⟩

theorem probeCount_kept (k : Tank) (v : Int) (s : State) : (probeCount k v s).cap.probeFault = s.cap.probeFault
    ∧ (probeCount k v s).faults = s.faults :=
  frontDetected_kept k { s with cap := { s.cap with runs := s.cap.runs.set k (s.runsAfter k v) } }

/-- A due sample (R33, R34, R37). -/
theorem probeSecond_sampled (hc : s.clock.second % 10 = 0) (hs : (s.tank k).service = .inService)
    (hp : s.settings.inst.probeDepth ≠ 0) : Sampled k v s (probeSecond k v s) := by
  have due : probeSecond k v s = probeSample k v s := if_pos ⟨hc, hs, hp⟩
  rw [due]
  refine ⟨fun hv => ?_, fun low high => ?_⟩
  · unfold probeSample
    rw [if_pos hv]
    dsimp only
    cases hf : s.cap.probeFault.get k with
    | true =>
      rw [if_pos rfl]
      exact ⟨PerTank.get_set_same _ _ _, hf, fun _ => rfl, (fun h => by cases h)⟩
    | false =>
      rw [if_neg Bool.false_ne_true]
      exact ⟨PerTank.get_set_same _ _ _, PerTank.get_set_same _ _ _, (fun h => by cases h), fun _ => FaultLog.of_report_active _ _ _ _ _⟩
  · have good : ¬ (v < 200 ∨ 1800 < v) := by omega
    have counted : ∀ w : State, w.settings = s.settings → w.cap.runs = s.cap.runs → w.record k = s.record k → runHeld k w = runHeld k s →
        (runHeld k s = true ∨ 940 ≤ v ∧ v ≤ 1060 → (probeCount k v w).cap.runs.get k = 0)
        ∧ (runHeld k s = false → v < 940 ∨ 1060 < v → s.cap.runs.get k < 30 → (probeCount k v w).cap.runs.get k = s.cap.runs.get k + 1)
        ∧ (runHeld k s = false → v < 940 ∨ 1060 < v → s.cap.runs.get k = 30 →
          (probeCount k v w).cap.runs.get k = 0 ∧ ((probeCount k v w).record k).frontSeen = true) := by
      intro w settings runs record held
      rw [← settings] at hp
      rw [← held, ← runs]
      refine ⟨fun h => ?_, fun h hv hn => ?_, fun h hv hn => ?_⟩
      · have zero := runsAfter_zero h
        rw [probeCount_runs (by rw [zero]; decide), zero]
        exact PerTank.get_set_same _ _ _
      · have next := runsAfter_next h hv
        rw [probeCount_runs (by rw [next]; omega), next]
        exact PerTank.get_set_same _ _ _
      · obtain ⟨r, n, e, seen⟩ := probeCount_front (by rw [runsAfter_next h hv, hn]) hp (runHeld_false h)
        rw [e]
        exact ⟨PerTank.get_set_same _ _ _, (congrArg CapacityRecord.frontSeen (PerTank.get_set_same _ _ _)).trans seen⟩
    unfold probeSample
    rw [if_neg good]
    cases hf : s.cap.probeFault.get k with
    | true =>
      rw [if_pos rfl]
      obtain ⟨fault, faults⟩ := probeCount_kept k v (faultGone .bedProbe (.tank k)
        { s with cap := { s.cap with probeFault := s.cap.probeFault.set k false } })
      rw [fault, faults]
      exact ⟨PerTank.get_set_same _ _ _, fun _ => FaultLog.of_gone_inactive _ _ _, counted _ rfl rfl rfl rfl⟩
    | false =>
      rw [if_neg Bool.false_ne_true]
      obtain ⟨fault, -⟩ := probeCount_kept k v s
      rw [fault]
      exact ⟨hf, (fun h => by cases h), counted s rfl rfl rfl rfl⟩

/-- The sample of a second, of either tank's probe. -/
def probeOf (x : SecondInputs) : Tank → Int
  | .a => x.probeA
  | .b => x.probeB

theorem capacitySecond_pair (x : SecondInputs) (f : Bool) (s : State) (k : Tank) :
    ∃ w z, Aside k (s.shared f) w ∧ z = probeSecond k (probeOf x k) w ∧ Aside k z (capacitySecond x f s) := by
  cases k with
  | a => exact ⟨_, _, .refl .a _, rfl, aside_probeSecond .a x.probeB _⟩
  | b => exact ⟨_, _, aside_probeSecond .b x.probeA _, rfl, .refl .b _⟩

theorem shared_tank (hs : (s.tank k).service = .inService) (f : Bool) : ((s.shared f).tank k).service = .inService := by
  obtain ⟨n, e⟩ := depleted_taken f s
  have taken : (s.depleted f).tank k = s.tank k := by
    rw [e]
    rfl
  cases hj : s.serviceTank with
  | none => rw [shared_idle hj, taken, hs]
  | some j =>
    have same : j = k := by
      rcases Tank.eq_or_other k j with ho | ho
      · exact ho.symm
      · exact absurd (ho ▸ hs) (serviceTank_iff.mp hj).2
    subst same
    obtain ⟨m, e⟩ := shared_serves hj f
    rw [e]
    split
    · rw [takeExhaustion_tank]
      exact hs
    · exact hs

/-- The sample of a second, through the Capacity Unit's stage (R33). -/
theorem capacitySecond_sampled (x : SecondInputs) (f : Bool) (hc : s.clock.second % 10 = 0) (hs : (s.tank k).service = .inService)
    (hp : s.settings.inst.probeDepth ≠ 0) : Sampled k (probeOf x k) s (capacitySecond x f s) := by
  obtain ⟨w, z, before, rfl, after⟩ := capacitySecond_pair x f s k
  have service := shared_tank hs f
  obtain ⟨seen, credited⟩ := shared_marks f s k
  obtain ⟨r, q, d, n, e⟩ := shared_others f s
  have held : runHeld k (s.shared f) = runHeld k s := by
    have meter : (s.shared f).meter = s.meter := by rw [e]
    rw [runHeld, runHeld, seen, credited, meter]
  have others := before.probed.others
  have sampled : Sampled k (probeOf x k) w (probeSecond k (probeOf x k) w) := probeSecond_sampled
    (by rw [others, e]; exact hc) (by rw [others]; exact service) (by rw [others, e]; exact hp)
  exact ((sampled.before before.runs before.fault before.faults before.held).before (by rw [e]) (by rw [e]) (by rw [e]) held).after after

end

/-! ### The sample through a second (R33) -/

section
variable {s t : State} {k : Tank} {e : Span} {own claims : Bool}

/-- What the rest of a second leaves of the tank in service: its capacity record and its run count. -/
theorem Pass.sampled (h : Pass e own claims s t) (he : e.unit = false) (hs : s.serves k) :
    t.record k = s.record k ∧ t.cap.runs.get k = s.cap.runs.get k := by
  obtain ⟨record, runs⟩ := h.unit he k
  have away : (s.tank k).service ≠ .regenerating := fun h => by cases hs.1.symm.trans h
  refine ⟨record.resolve_right fun hr => away hr.1, runs.resolve_right ?_⟩
  rintro (hr | ⟨c, hc, hp, hd⟩)
  · exact away hr
  · exact absurd hd (State.serves_holds hs hc hp)

/-- The record and the run count of the tank in service are those that the Capacity Unit's stage has left. -/
theorem afterMetering_unit {x : SecondInputs} {f : Bool} (hs : s.serves k) :
    (afterMetering x f s).record k = (capacitySecond x f s).record k
    ∧ (afterMetering x f s).cap.runs.get k = (capacitySecond x f s).cap.runs.get k := by
  have serves : (capacitySecond x f s).serves k := (passes_capacitySecond (e := { unit := true }) (own := false) (claims := false) x f s rfl).keeps
    (I := State.serves k) (fun h hs => h.serves hs) hs
  obtain ⟨b, l, n, e, -⟩ := brineSecond_others x (capacitySecond x f s)
  rw [(levelled_levelSecond x.level _).others] at e
  have kept := late_keeps (x := x) (f := f) (s := s) (I := fun t => t.serves k ∧ t.record k = (capacitySecond x f s).record k
      ∧ t.cap.runs.get k = (capacitySecond x f s).cap.runs.get k)
    (fun he h ⟨hs, hr, hn⟩ => ⟨h.serves hs, (h.sampled he hs).1.trans hr, (h.sampled he hs).2.trans hn⟩)
    (by rw [e]; exact ⟨serves, rfl, rfl⟩)
  exact kept.2

theorem afterMetering_probe (x : SecondInputs) (f : Bool) (s : State) :
    (afterMetering x f s).cap.probeFault = (capacitySecond x f s).cap.probeFault
    ∧ (afterMetering x f s).faults.of .bedProbe = (capacitySecond x f s).faults.of .bedProbe := by
  have last := gauges_second x f s
  have clocked := gauges_clocked x f s
  have worked : (s.worked x f).gauges = { (filterSecond (brineSecond x (capacitySecond x f s))).gauges with
      timing := (filterSecond (brineSecond x (capacitySecond x f s))).settings.user.soft.timing
      windowHour := (filterSecond (brineSecond x (capacitySecond x f s))).settings.user.soft.windowHour } := by
    unfold State.worked
    exact gauges_sequencerSecond _
  rw [gauges_filterSecond, gauges_brineSecond] at worked
  rw [clocked, worked] at last
  generalize afterMetering x f s = t at last
  exact ⟨congrArg Gauges.probeFault last, congrArg Gauges.bedRecords last⟩

theorem afterMetering_sampled {x : SecondInputs} {f : Bool} {v : Int} (hs : s.serves k) (h : Sampled k v s (capacitySecond x f s)) :
    Sampled k v s (afterMetering x f s) := by
  obtain ⟨record, runs⟩ := afterMetering_unit (x := x) (f := f) hs
  obtain ⟨fault, faults⟩ := afterMetering_probe x f s
  have overflows := (onward_afterCapacity x f s).overflow
  obtain ⟨bad, good⟩ := h
  rw [← fault, ← faults, ← runs] at bad
  rw [← fault, ← faults, ← runs, ← record] at good
  refine ⟨fun hv => ?_, good⟩
  obtain ⟨runs, fault, same, reported⟩ := bad hv
  exact ⟨runs, fault, same, fun hf => (reported hf).imp_right overflows⟩

/-- METER_LOSS puts the run counts back as it begins (R33). -/
theorem meterLossBegin_cap (h : (meterLossBegin s).meter.cond.lossActive = false) : (meterLossBegin s).cap = s.cap := by
  by_cases hc : s.meter.cond.lossActive = false ∧ 60 ≤ s.meter.cond.lossCount
  · rw [meterLossBegin, if_pos hc] at h
    cases h
  · rw [meterLossBegin, if_neg hc]

theorem meterLossEnd_cap (s : State) : (meterLossEnd s).cap = s.cap := by
  unfold meterLossEnd
  dsimp only
  split <;> rfl

theorem lossSecond_cap (h : (lossSecond s).meter.cond.lossActive = false) : (lossSecond s).cap = s.cap := by
  unfold lossSecond at h ⊢
  dsimp only at h ⊢
  by_cases ha : s.meter.cond.lossActive = true
  · rw [if_pos ha, meterLossEnd_cap]
  · rw [if_neg ha] at h ⊢
    rw [meterLossBegin_cap h]

theorem metered_cap {x : SecondInputs} (h : (s.metered x).meter.cond.lossActive = false) : (s.metered x).cap = s.cap := by
  have unowned (w : State) : (unownedSecond w).cap = w.cap := by
    unfold unownedSecond unownedEnd unownedBegin
    dsimp only
    repeat' split
    all_goals rfl
  have passing (w : State) : (passingSecond w).cap = w.cap := by
    unfold passingSecond
    dsimp only
    repeat' split
    all_goals rfl
  have before : (s.pulsed x).cap = s.cap := by
    show (beforeMetering x s).cap = _
    rw [(works_beforeMetering x s).filter_eq]
    rfl
  have metered : (s.metered x).cap = (passingSecond (unownedSecond (lossSecond (s.pulsed x)))).cap := by rw [metered_eq]; rfl
  rw [metered, passing, unowned, lossSecond_cap ((metered_loss x s).2.2.symm.trans h), before]

end

/-- R33 to R38: the front and the probe's sample. Settles O10: a second's sample stands until its end, since nothing after it takes the tank out
of service. -/
theorem frontTeachesTheFactor : Obligations.FrontTeachesTheFactor := by
  refine ⟨fun k s h hr hp hc => ?_, fun k x s h hc hp hs hn hr => ?_⟩
  · obtain ⟨b, n, e, quiet⟩ := frontDetected_own hr hp hc
    have record : ({ s with
        cap := { s.cap with
          recs := s.cap.recs.set k { (s.record k).front s.settings.inst.probeDepth with hardPosted := b }
          runs := s.cap.runs.set k 0 }
        notices := n } : State).record k = { (s.record k).front s.settings.inst.probeDepth with hardPosted := b } :=
      PerTank.get_set_same _ _ _
    refine ⟨_, event_leaves (f := frontDetected k) h e, ?_⟩
    obtain ⟨first, second, large, tracks, strays⟩ := learnMode_cases (s.record k).mode (s.record k).smallErrors
      (frontError (s.record k) s.settings.inst.probeDepth)
    have learned {m : LearnMode} {i : Nat}
        (hl : learnMode (s.record k).mode (s.record k).smallErrors (frontError (s.record k) s.settings.inst.probeDepth) = (m, i)) :
        ((s.record k).front s.settings.inst.probeDepth).mode = m ∧ ((s.record k).front s.settings.inst.probeDepth).smallErrors = i :=
      ⟨congrArg Prod.fst hl, congrArg Prod.snd hl⟩
    rw [e] at quiet
    dsimp only
    rw [record]
    exact ⟨learnFactor_eq _ _ _, rfl, rfl, rfl, rfl,
      ⟨fun hm he hn => learned (first hm he hn), fun hm he hn => learned (second hm he hn), fun hm he => learned (large hm he),
        fun hm he => learned (tracks hm he), fun hm he => learned (strays hm he)⟩,
      PerTank.get_set_same _ _ _, PerTank.get_set_other _ _ _, quiet, rfl, rfl, rfl⟩
  · obtain ⟨b, e⟩ := exec_second x h
    have kept := metered_metered x s
    have faults := (metered_faults x s).bed (.tank k)
    have serves : (s.metered x).serves k := ⟨by rw [kept.tank]; exact hs, fun c h => by cases (kept.changeover.trans hn).symm.trans h⟩
    have sampled := afterMetering_sampled (f := secondFrozen x s) serves (capacitySecond_sampled x (secondFrozen x s)
      (by rw [kept.clock]; exact hc) serves.1 (by rw [kept.settings]; exact hp))
    obtain ⟨w, o, i, y, meter⟩ := afterMetering_meter x (secondFrozen x s) (s.metered x)
    have lost : (afterMetering x (secondFrozen x s) (s.metered x)).meter.cond.lossActive = (s.metered x).meter.cond.lossActive := by
      rw [meter]
    have fault : (s.metered x).cap.probeFault = s.cap.probeFault := by rw [kept.cap]
    have runs : (s.metered x).meter.cond.lossActive = false → (s.metered x).cap.runs.get k = s.cap.runs.get k :=
      fun hl => by rw [metered_cap hl]
    have held : runHeld k (s.metered x) = true ↔ (s.record k).frontSeen = true ∨ (s.record k).credited = 0
        ∨ (s.metered x).meter.cond.lossActive = true := by
      rw [runHeld, kept.record, Bool.or_eq_true, Bool.or_eq_true, beq_iff_eq, or_assoc]
    generalize s.metered x = m at e sampled meter lost fault runs held faults
    generalize afterMetering x (secondFrozen x s) m = t at e sampled meter lost
    obtain ⟨bad, good⟩ := sampled
    rw [fault, faults] at bad
    rw [fault] at good
    refine ⟨_, e, ?_⟩
    have counts (hn : ¬ ((s.record k).frontSeen = true ∨ (s.record k).credited = 0 ∨ t.meter.cond.lossActive = true)) :
        runHeld k m = false ∧ m.cap.runs.get k = s.cap.runs.get k := by
      rw [lost, ← held, Bool.not_eq_true] at hn
      refine ⟨hn, runs ?_⟩
      rw [runHeld, Bool.or_eq_false_iff] at hn
      exact hn.2
    refine ⟨bad, fun low high => ?_⟩
    obtain ⟨cleared, gone, zero, next, front⟩ := good low high
    refine ⟨cleared, gone, fun hz => zero ?_, fun hn hv hr => ?_, fun hn hv hr => ?_⟩
    · rw [held, ← lost]
      exact hz
    · obtain ⟨off, same⟩ := counts hn
      exact (next off hv (by rw [same]; exact hr)).trans (by rw [same])
    · obtain ⟨off, same⟩ := counts hn
      exact front off hv (by rw [same]; exact hr)

end Sys2Proof.Machine

/-! The figures of a metering second: O7. -/

namespace Sys2Proof.Machine

set_option Elab.async false

section
variable {s t : State} {k : Tank} {x : SecondInputs} {f : Bool}

/-! ### The figures (R2 to R7) -/

/-- The inlet and the process volume of a second (R2). -/
def State.inletVolume (x : SecondInputs) (s : State) : Nat :=
  (min 65535 (s.meter.meters.pulsesIn + x.pulsesIn) * 100000 + (if s.meter.meters.kInChanged then 0 else s.meter.meters.remIn)) / s.settings.inst.kIn

def State.processVolume (x : SecondInputs) (s : State) : Nat :=
  (min 65535 (s.meter.meters.pulsesProc + x.pulsesProc) * 100000
    + (if s.meter.meters.kProcChanged then 0 else s.meter.meters.remProc)) / s.settings.inst.kProc

/-- The figures of a second are attributed by the line and the tanks as the second finds them (R3, R4). -/
theorem metered_figures (x : SecondInputs) (s : State) :
    (s.metered x).meter.now = secondFigures (s.inletVolume x) (s.processVolume x) s
    ∧ (s.metered x).meter.totals = s.meter.totals.add (secondFigures (s.inletVolume x) (s.processVolume x) s)
      (hardShares (secondFigures (s.inletVolume x) (s.processVolume x) s) s) := by
  have e := (works_beforeMetering x s).filter_eq
  obtain ⟨c, meter⟩ := conditions_meter (s.pulsed x)
  have totals : (s.metered x).meter.totals = (s.pulsed x).meter.totals := by
    rw [metered_eq]
    show (passingSecond (unownedSecond (lossSecond (s.pulsed x)))).meter.totals = _
    rw [meter]
  rw [metered_now, totals]
  unfold State.pulsed
  rw [e]
  exact ⟨rfl, rfl⟩

theorem flushShare_le (o : Owner) (n m : Nat) : flushShare o n m ≤ n := by
  unfold flushShare
  split
  · exact Nat.min_le_right _ _
  · exact Nat.zero_le _

/-- The treated volume is shared among the tanks (R4). -/
theorem tankShare_sum (v : Nat) (s : State) : tankShare .a v s + tankShare .b v s = v := by
  unfold tankShare
  cases splitting s with
  | some o => cases o <;> simp [ceilDiv] <;> omega
  | none => cases soleReceiver s <;> simp

theorem splitting_overlap {c : Changeover} (hc : s.seq.changeover = some c) (hp : c.phase ≠ .toChange) : splitting s = some c.outgoing := by
  rw [splitting, hc]
  exact if_neg hp

theorem splitting_none (h : ∀ c, s.seq.changeover = some c → c.phase = .toChange) : splitting s = none := by
  unfold splitting
  split
  next c hc => exact if_pos (h c hc)
  next => rfl

theorem soleReceiver_serves (hs : (s.tank k).service = .inService) (ho : (s.tank k.other).service ≠ .inService) : soleReceiver s = k := by
  cases k with
  | a => exact if_pos hs
  | b =>
    have first : (s.tank .a).service ≠ .inService := ho
    rw [soleReceiver, if_neg first, if_pos hs]

theorem soleReceiver_chosen (h : ∀ k : Tank, (s.tank k).service ≠ .inService) : soleReceiver s = s.seq.chosen := by
  rw [soleReceiver, if_neg (h .a), if_neg (h .b)]

theorem figures_share (n m : Nat) (s : State) (k : Tank) :
    (secondFigures n m s).shares.get k = tankShare k (secondFigures n m s).vTr s := by cases k <;> rfl

/-- The figures of a second, of its inlet volume `n` and its process volume `m` (R3, R4). -/
theorem figures_volumes (n m : Nat) (s : State) : (secondFigures n m s).vIn = n ∧ (secondFigures n m s).vProc = m
    ∧ (secondFigures n m s).vFl = (if s.line.owner = .flush then min m n else 0)
    ∧ (secondFigures n m s).vFl + (secondFigures n m s).vTr = n ∧ (secondFigures n m s).vH = n - m
    ∧ (secondFigures n m s).shares.a + (secondFigures n m s).shares.b = (secondFigures n m s).vTr :=
  ⟨rfl, rfl, rfl, Nat.add_sub_of_le (flushShare_le _ _ _), rfl, tankShare_sum _ s⟩

/-- The shares of a second in an overlap, with one tank in service, and in commissioning (R4). -/
theorem figures_shares (n m : Nat) (s : State) :
    (∀ c, s.seq.changeover = some c → c.phase ≠ .toChange →
      (secondFigures n m s).shares.get c.outgoing = (secondFigures n m s).vTr / 2)
    ∧ ((∀ c, s.seq.changeover = some c → c.phase = .toChange) →
      (∀ k : Tank, (s.tank k).service = .inService → (s.tank k.other).service ≠ .inService →
        (secondFigures n m s).shares.get k = (secondFigures n m s).vTr)
      ∧ ((∀ k : Tank, (s.tank k).service ≠ .inService) → (secondFigures n m s).shares.get s.seq.chosen = (secondFigures n m s).vTr)) := by
  refine ⟨fun c hc hp => ?_, fun hc => ⟨fun k hk ho => ?_, fun hn => ?_⟩⟩
  · rw [figures_share, tankShare, splitting_overlap hc hp]
    exact if_pos rfl
  · rw [figures_share, tankShare, splitting_none hc, soleReceiver_serves hk ho]
    exact if_pos rfl
  · rw [figures_share, tankShare, splitting_none hc, soleReceiver_chosen hn]
    exact if_pos rfl

/-! ### The tank in service (R29 to R31) -/

/-- A tank's record after a second in which it takes `v` mL (R29 to R31). -/
def CapacityRecord.second (r : CapacityRecord) (frozen : Bool) (hEff margin v : Nat) : CapacityRecord :=
  (if frozen then r else r.served hEff v).raised margin

theorem receives_sole (hs : (s.tank k).service = .inService) (ho : (s.tank k.other).service ≠ .inService) (hc : s.seq.changeover = none) :
    receives k s = true ∧ receives k.other s = false := by
  have whole : splitting s = none := splitting_none fun c h => by cases hc.symm.trans h
  rw [receives, receives, whole, soleReceiver_serves hs ho]
  exact ⟨beq_self_eq_true k, beq_eq_false_iff_ne.mpr (tank_ne_other k)⟩

theorem taken_sole (hs : (s.tank k).service = .inService) (ho : (s.tank k.other).service ≠ .inService) (hc : s.seq.changeover = none) (f : Bool) :
    s.taken f k = (if f then s.record k else (s.record k).served s.cap.hEff (s.meter.now.shares.get k))
    ∧ s.taken f k.other = s.record k.other := by
  obtain ⟨own, other⟩ := receives_sole hs ho hc
  rw [State.taken, State.taken, own, other]
  refine ⟨?_, rfl⟩
  cases f <;> rfl

/-- Without a sample due the Capacity Unit's stage is the shares and the exhaustion. -/
theorem capacitySecond_shared (h : s.settings.inst.probeDepth = 0 ∨ s.clock.second % 10 ≠ 0) : capacitySecond x f s = s.shared f := by
  obtain ⟨r, q, d, n, e⟩ := shared_others f s
  have idle {j : Tank} {v : Int} : probeSecond j v (s.shared f) = s.shared f := if_neg fun hc => by
    rw [e] at hc
    exact h.elim hc.2.2 fun hn => hn hc.1
  rw [capacitySecond_eq, idle, idle]

end

/-! ### What the rest of a second leaves of the exhaustion -/

section
variable {e : Span} {own claims : Bool} {s t : State} {k : Tank} {x : SecondInputs} {f : Bool}

theorem Pass.slots (h : Pass e own claims s t) : t.pods.slots = s.pods.slots := by
  have shifted {tested : Bool} {s t : State} (h : Shift tested s t) : t.pods.slots = s.pods.slots := by cases h <;> rfl
  have shifts {tested : Bool} {s t : State} (h : Shifts tested s t) : t.pods.slots = s.pods.slots := by
    induction h with
    | refl => rfl
    | tail _ last ih => exact (shifted last).trans ih
  cases h with
  | reacts h =>
    cases h with
    | tests _ _ _ _ h => exact (shifts (s := s.testing) h).trans rfl
    | shifts _ _ h => exact shifted h
    | pods _ _ h => exact h
    | _ => rfl
  | steps k _ _ h => rw [h.others]; rfl
  | _ => rfl

/-- A tank that is not on its way home keeps its record through every change but the Capacity Unit's own stage. -/
theorem Pass.aside (h : Pass e own claims s t) (he : e.unit = false) (hb : s.barred k) : t.record k = s.record k :=
  (h.unit he k).1.resolve_right fun ⟨hs, hp, hd⟩ => State.barred_home hb hs hp hd

/-- A changeover on its way to its changeover position, with the disc elsewhere. -/
def State.turning (k : Tank) (s : State) : Prop :=
  s.seq.changeover = some { outgoing := k, phase := .toChange, dwell := 0 } ∧ s.seq.due = none ∧ ¬ s.stands (changePosition k)

theorem Pass.turning (h : Pass e own claims s t) (ht : s.turning k) : t.turning k := by
  obtain ⟨changeover, due, away⟩ := ht
  suffices kept : t.seq.changeover = some { outgoing := k, phase := .toChange, dwell := 0 } ∧ t.seq.due = none from
    ⟨kept.1, kept.2, h.stands away⟩
  have turn := h.turn
  generalize t.seq.changeover = c at turn
  generalize t.seq.due = d at turn
  cases turn with
  | same => exact ⟨changeover, due⟩
  | due _ _ hc => cases changeover.symm.trans hc
  | turns _ hd => cases due.symm.trans hd
  | swaps c hc hp hd =>
    cases changeover.symm.trans hc
    exact absurd hd away
  | holds c hc hp =>
    cases changeover.symm.trans hc
    cases hp
  | dwells c _ _ _ hc hp =>
    cases changeover.symm.trans hc
    cases hp

/-- What every change keeps of the state that the Capacity Unit's stage leaves, the brine's stage and the rest of the second keep. -/
theorem capacity_keeps {I : State → Prop} (hI : ∀ {e own claims s t}, e.unit = false → Pass e own claims s t → I s → I t)
    (hb : ∀ b l n, I { capacitySecond x f s with brine := b, faults := l, notices := n }) : I (afterMetering x f s) := by
  refine late_keeps hI ?_
  obtain ⟨b, l, n, e, -⟩ := brineSecond_others x (capacitySecond x f s)
  rw [(levelled_levelSecond x.level _).others] at e
  rw [e]
  exact hb b l n

/-- The other tank's record at the end of a second. -/
theorem afterMetering_other (hk : (s.tank k).service = .inService) (ho : (s.tank k.other).service ≠ .inService) (hc : s.seq.changeover = none)
    (hp : s.settings.inst.probeDepth = 0 ∨ s.clock.second % 10 ≠ 0) (hr : (s.tank k.other).service ≠ .regenerating) :
    (afterMetering x f s).record k.other = s.record k.other := by
  have barred : (capacitySecond x f s).barred k.other :=
    (passes_capacitySecond (e := { unit := true }) (own := false) (claims := false) x f s rfl).keeps (I := State.barred k.other)
      (fun h hb => h.barred hb) (.inl hr)
  have record : (capacitySecond x f s).record k.other = s.record k.other := by
    rw [capacitySecond_shared hp, shared_record, if_neg fun h => ho (serviceTank_iff.mp h).1]
    exact (taken_sole hk ho hc f).2
  have kept : (afterMetering x f s).barred k.other ∧ (afterMetering x f s).record k.other = s.record k.other :=
    capacity_keeps (I := fun t => t.barred k.other ∧ t.record k.other = s.record k.other)
      (fun he h ⟨hb, hs⟩ => ⟨h.barred hb, (h.aside he hb).trans hs⟩) fun _ _ _ => ⟨barred, record⟩
  exact kept.2

/-- The record of the tank in service at the end of a second (R29 to R31). -/
theorem afterMetering_served (hk : (s.tank k).service = .inService) (ho : (s.tank k.other).service ≠ .inService) (hc : s.seq.changeover = none)
    (hp : s.settings.inst.probeDepth = 0 ∨ s.clock.second % 10 ≠ 0) : (afterMetering x f s).record k =
      (s.record k).second f s.cap.hEff s.settings.user.soft.margin (s.meter.now.shares.get k) := by
  have serves : s.serves k := ⟨hk, fun c h => by cases hc.symm.trans h⟩
  rw [(afterMetering_unit serves).1, capacitySecond_shared hp, shared_record, if_pos (serviceTank_iff.mpr ⟨hk, ho⟩), (taken_sole hk ho hc f).1]
  rfl

/-- An exhaustion that the second raises makes the changeover due (R61, R67). -/
theorem afterMetering_raises_due (hw : s.Wears k) (hp : s.settings.inst.probeDepth = 0 ∨ s.clock.second % 10 ≠ 0)
    (hd : exhaustionDue (s.taken f k) s.settings.user.soft.margin = true) : (afterMetering x f s).seq.due = some k := by
  obtain ⟨n, e⟩ := shared_serves hw.serviceTank f
  rw [if_pos hd] at e
  have raised : (s.raises f k n).Wears k := ⟨hw.changeover, hw.service, hw.other, hw.barred, hw.due⟩
  have due : (capacitySecond x f s).seq.due = some k := by
    rw [capacitySecond_shared hp, e]
    exact raised.due_takeExhaustion
  have wears : (capacitySecond x f s).Wears k :=
    (passes_capacitySecond (e := { unit := true }) (own := false) (claims := false) x f s rfl).keeps (I := State.Wears k)
      (fun h hw => (h.wears hw).1) hw
  have kept : (afterMetering x f s).Wears k ∧ (afterMetering x f s).seq.due = some k :=
    capacity_keeps (I := fun t => t.Wears k ∧ t.seq.due = some k) (fun _ h ⟨hw, hd⟩ => ⟨(h.wears hw).1, (h.wears hw).2 hd⟩)
      fun _ _ _ => ⟨⟨wears.changeover, wears.service, wears.other, wears.barred, wears.due⟩, due⟩
  exact kept.2

/-- An exhaustion that the second raises begins the changeover, with the other tank READY and the disc free elsewhere (R61, R62). -/
theorem afterMetering_raises_turns (hk : s.serviceTank = some k) (hp : s.settings.inst.probeDepth = 0 ∨ s.clock.second % 10 ≠ 0)
    (hd : exhaustionDue (s.taken f k) s.settings.user.soft.margin = true) (hc : s.seq.changeover = none) (hn : s.seq.due = none)
    (hr : (s.tank k.other).service = .ready) (hf : s.discFree = true) (hm : s.supply.state = .mains)
    (ha : s.disc.position ≠ some (changePosition k)) : (afterMetering x f s).turning k := by
  obtain ⟨n, e⟩ := shared_serves hk f
  have begins := takeExhaustion_begins (s := s.raises f k n) (serviceTank_iff.mp hk).1 hc hn hr
  have moves := changeoverBegin_moves (s := { s.raises f k n with seq := { (s.raises f k n).seq with due := some k } }) rfl hr hf hm hc ha
  rw [if_pos hd, begins, moves] at e
  refine capacity_keeps (I := State.turning k) (fun _ h ht => h.turning ht) fun _ _ _ => ?_
  rw [capacitySecond_shared hp, e]
  refine ⟨rfl, rfl, fun hs => ha ?_⟩
  have same : ({ s.disc with target := some (.pos (changePosition k)), requester := some .sequencer } : Disc).start.position = s.disc.position := by
    rw [Disc.start_toward]
  exact same.symm.trans hs.2

end

section
variable {s : State} {k : Tank}

theorem CapacityRecord.second_eq (r : CapacityRecord) (frozen : Bool) (hEff margin v : Nat) : r.second frozen hEff margin v =
    let load := v * hEff + r.carry
    let used : CapacityRecord := if frozen then r else { r with
      consumed := min 2147483647 (r.consumed + load / 1000), carry := load % 1000
      remaining := max (-10000000) (r.remaining - (load / 1000 : Nat)) }
    { used with
      hardPosted := r.hardPosted || decide (0 ≤ r.remaining ∧ used.remaining < 0)
      exhaustionRaised := r.exhaustionRaised || decide (used.remaining ≤ (used.credited * margin / 1000 : Nat)) } := by
  have carry : v * hEff + r.carry - (v * hEff + r.carry) / 1000 * 1000 = (v * hEff + r.carry) % 1000 := by omega
  cases frozen with
  | true =>
    have still : decide (0 ≤ r.remaining ∧ r.remaining < 0) = false := decide_eq_false fun h => Int.not_le.2 h.2 h.1
    simp only [CapacityRecord.second, CapacityRecord.raised, switchPoint, if_true, still, Bool.or_false]
  | false =>
    simp only [CapacityRecord.second, CapacityRecord.raised, CapacityRecord.served, CapacityRecord.deplete, switchPoint, satAdd, carry,
      Bool.false_eq_true, if_false]

/-- A tank at or below its switch point has its exhaustion due, unless it is raised (R31). -/
theorem exhaustionDue_low {r : CapacityRecord} {frozen : Bool} {hEff margin v : Nat} (hn : r.exhaustionRaised = false)
    (hl : let load := v * hEff + r.carry
      let used : CapacityRecord := if frozen then r else { r with
        consumed := min 2147483647 (r.consumed + load / 1000), carry := load % 1000
        remaining := max (-10000000) (r.remaining - (load / 1000 : Nat)) }
      used.remaining ≤ (used.credited * margin / 1000 : Nat)) :
    exhaustionDue (if frozen then r else r.served hEff v) margin = true := by
  refine Bool.and_eq_true_iff.mpr ?_
  cases frozen with
  | true => exact ⟨decide_eq_true hl, congrArg (!·) hn⟩
  | false => exact ⟨decide_eq_true hl, congrArg (!·) hn⟩

end

/-- R2 to R7 and R29 to R31: the figures of a second, the totals, and the tank in service. Settles O7: the figures are those of the metering
stage, and the changes after the Capacity Unit's stage keep the record of a tank in service and a changeover that waits or is on its way. -/
theorem secondConvertsAndAttributes : Obligations.SecondConvertsAndAttributes := by
  intro x s h
  obtain ⟨b, e⟩ := exec_second x h
  have kept := metered_metered x s
  obtain ⟨now, totals⟩ := metered_figures x s
  have served (k : Tank) := afterMetering_served (x := x) (f := secondFrozen x s) (s := s.metered x) (k := k)
  have other (k : Tank) := afterMetering_other (x := x) (f := secondFrozen x s) (s := s.metered x) (k := k)
  have waits (k : Tank) := afterMetering_raises_due (x := x) (f := secondFrozen x s) (s := s.metered x) (k := k)
  have turns (k : Tank) := afterMetering_raises_turns (x := x) (f := secondFrozen x s) (s := s.metered x) (k := k)
  have taken (k : Tank) (hk : (s.tank k).service = .inService) (ho : (s.tank k.other).service ≠ .inService) (hc : s.seq.changeover = none) :=
    (taken_sole (s := s.metered x) (k := k) (by rw [kept.tank]; exact hk) (by rw [kept.tank]; exact ho) (kept.changeover.trans hc)
      (secondFrozen x s)).1
  have slots : (afterMetering x (secondFrozen x s) (s.metered x)).pods.slots = s.pods.slots :=
    second_keeps (I := fun t => t.pods.slots = s.pods.slots) (fun h hs => h.slots.trans hs) (by rw [kept.pods])
  have settings := afterMetering_settings x (secondFrozen x s) (s.metered x)
  obtain ⟨w, o, i, y, meter⟩ := afterMetering_meter x (secondFrozen x s) (s.metered x)
  have frozen : secondFrozen x s = (s.meter.cond.lossActive || (afterMetering x (secondFrozen x s) (s.metered x)).meter.cond.lossActive) := by
    rw [meter]
    rfl
  have hEff : (s.metered x).cap.hEff = s.cap.hEff := by rw [kept.cap]
  have wears (k : Tank) := kept.wears (k := k)
  have serviceTank : (s.metered x).serviceTank = s.serviceTank := by rw [State.serviceTank, kept.tank, kept.tank]; rfl
  rw [kept.settings] at settings
  simp only [kept.tank, kept.changeover, kept.settings, kept.clock, kept.record, kept.supply, kept.free, kept.position, kept.due, hEff,
    serviceTank] at served other waits turns taken
  generalize secondFrozen x s = f at *
  generalize s.metered x = m at *
  generalize afterMetering x f m = t at *
  have figures : t.meter.now = m.meter.now := by rw [meter]
  have sums : t.meter.totals = m.meter.totals := by rw [meter]
  rw [← figures] at served taken now
  rw [← sums] at totals
  refine ⟨_, e, ?_⟩
  dsimp only
  rw [← frozen, totals, settings, slots]
  refine ⟨?_, ?_, ?_, fun k hk ho hc hp => ⟨?_, fun hr => ?_, fun hl hn hd => ⟨fun hr hg => ?_, fun hr hf hm ha => ?_⟩⟩, rfl, rfl⟩
  · rw [now]
    exact figures_volumes _ _ s
  · rw [now]
    exact figures_shares _ _ s
  · rw [now]
    rfl
  · exact (served k hk ho hc hp).trans (CapacityRecord.second_eq _ _ _ _ _)
  · exact other k hk ho hc hp hr
  · exact waits k (wears k (serviceTank_iff.mpr ⟨hk, ho⟩) hc (.inl hd) hr hg) hp (by rw [taken k hk ho hc]; exact exhaustionDue_low hn hl)
  · obtain ⟨changeover, due, -⟩ := turns k (serviceTank_iff.mpr ⟨hk, ho⟩) hp (by rw [taken k hk ho hc]; exact exhaustionDue_low hn hl)
      hc hd hr hf hm ha
    exact ⟨due, changeover⟩

end Sys2Proof.Machine

/-! The Filter Monitor's state and its flush through a second. -/

namespace Sys2Proof.Machine

set_option Elab.async false

/-! ### A flush under way (R115, R117) -/

/-- The flush has its record, and holds the line, or has been cut by a valve that closes of the unit's own. -/
def State.flushes (r : FlushRecord) (s : State) : Prop :=
  s.filter.flush = r ∧ (s.line.flushGranted = true ∨ s.valve.state ≠ .opened ∧ s.valve.reasons.ownClosing)

section
variable {tested : Bool} {e : Span} {own claims : Bool} {s t : State} {r : FlushRecord}

theorem owner_granted (h : s.line.flushGranted = true) : s.line.owner ≠ .none := by
  unfold Line.owner
  rw [h]
  split
  · exact Owner.noConfusion
  · exact Owner.noConfusion

theorem State.flushes_grantless (h : s.flushes r) : grantAllowed s = false := by
  refine Bool.eq_false_iff.2 fun hg => ?_
  obtain ⟨owner, -, opened⟩ := (grantAllowed_iff s).mp hg
  rcases h.2 with granted | ⟨away, -⟩
  · exact owner_granted granted owner
  · exact away opened

theorem Reasons.ownClosing_dropTest {q : Reasons} (h : q.ownClosing) : (q.put .test false).ownClosing := by
  rcases h with trip | low | none
  · exact .inl trip
  · exact .inr (.inl low)
  · refine .inr (.inr ?_)
    simp only [Reasons.any, Bool.or_eq_false_iff] at none ⊢
    exact ⟨⟨none.1.1, rfl⟩, none.2⟩

/-- A valve that the unit closes of its own does not open again as its test ends. -/
theorem Reasons.ownClosing_stays {q : Reasons} (h : q.ownClosing) (ha : q.any = true) : (q.put .test false).any = true := by
  rcases h with trip | low | none
  · have stays : (q.put .test false).trip = true := trip
    simp only [Reasons.any, stays, Bool.true_or]
  · have stays : (q.put .test false).lowBattery = true := low
    simp only [Reasons.any, stays, Bool.or_true]
  · cases none.symm.trans ha

theorem Shift.flushes (h : Shift false s t) (hs : s.flushes r) : t.flushes r := by
  obtain ⟨flush, held⟩ := hs
  cases h with
  | told => exact ⟨flush, held⟩
  | faults => exact ⟨flush, held⟩
  | valve w hr hs =>
    refine ⟨flush, held.imp_right fun ⟨away, closing⟩ => ⟨fun ho => ?_, ?_⟩⟩
    · exact hs.elim (fun h => away (h ▸ ho)) fun h => h ho
    · show w.reasons.ownClosing
      rw [hr]
      exact closing
  | put n hn => exact ⟨flush, held.imp_right fun ⟨away, _⟩ => ⟨away, Reasons.ownClosing_put _ hn⟩⟩
  | dropTest => exact ⟨flush, held.imp_right fun ⟨away, closing⟩ => ⟨away, Reasons.ownClosing_dropTest closing⟩⟩
  | reopen w hs ha hw hn =>
    refine ⟨flush, held.imp_right fun ⟨_, closing⟩ => ?_⟩
    have still := Reasons.ownClosing_stays closing ha
    rw [← hw, hn] at still
    cases still
  | cut f l n hv hr hf hn hd hl =>
    refine ⟨?_, .inr ⟨hv, hr.resolve_left Bool.false_ne_true⟩⟩
    show f.flush = r
    rw [hd]
    exact flush

theorem Pass.flushes (h : Pass e own claims s t) (he : e.screen = false) (hs : s.flushes r) : t.flushes r := by
  have grantless : grantAllowed s ≠ true := by rw [State.flushes_grantless hs]; exact Bool.false_ne_true
  obtain ⟨flush, held⟩ := id hs
  cases h with
  | reacts h =>
    cases h with
    | flushes _ _ hg => exact absurd hg grantless
    | tests _ hg => exact absurd hg grantless
    | shifts _ _ h => exact h.flushes hs
    | claimsFlush _ _ hg => exact ⟨flush, .inr (held.resolve_left fun h => by cases h.symm.trans hg)⟩
    | _ => exact ⟨flush, held⟩
  | beside c m k n w h l b f d v y q g hk hf =>
    obtain ⟨-, same, -, line⟩ := hf.resolve_left (by rw [he]; exact Bool.false_ne_true)
    subst line
    exact ⟨same.trans flush, held⟩
  | steps k _ _ h =>
    rw [h.others]
    exact ⟨flush, held⟩
  | hours => exact ⟨flush, held⟩
  | dwells => exact ⟨flush, held⟩

end

/-! ### No flush under way (R109, R111, R115) -/

/-- No flush runs or waits; the filter's state and the flow-hold count are these. -/
structure State.Unflushed (n : FilterState) (i : Nat) (s : State) : Prop where
  line : s.line.flush = none
  state : s.filter.state = n
  quiet : n ≠ .flushing
  hold : s.filter.flowHold = i

/-- The filter's state and the flow-hold count are these, or a flush has begun. -/
def State.begun (n : FilterState) (i : Nat) (s : State) : Prop :=
  (s.line.flushGranted = false ∧ s.filter.state = n ∧ s.filter.flowHold = i) ∨ (s.line.flushGranted = true ∧ s.filter.state = .flushing)

section
variable {tested : Bool} {e : Span} {own claims : Bool} {s t : State} {n : FilterState} {i : Nat}

/-- Outside a flush the Shutoff Controller's changes leave the filter and the line alone. -/
theorem Shift.filter (h : Shift tested s t) (hn : s.filter.state ≠ .flushing) : t.filter = s.filter ∧ t.line = s.line := by
  cases h with
  | cut f l n hv hr hf => exact absurd hf hn
  | _ => exact ⟨rfl, rfl⟩

theorem Shifts.filter (h : Shifts tested s t) (hn : s.filter.state ≠ .flushing) : t.filter = s.filter ∧ t.line = s.line := by
  induction h with
  | refl => exact ⟨rfl, rfl⟩
  | tail _ last ih =>
    obtain ⟨filter, line⟩ := last.filter (by rw [ih.1]; exact hn)
    exact ⟨filter.trans ih.1, line.trans ih.2⟩

theorem Pass.unflushed (h : Pass e own false s t) (he : e.screen = false) (hs : s.Unflushed n i) : t.Unflushed n i := by
  obtain ⟨line, state, quiet, hold⟩ := hs
  have idle : s.filter.state ≠ .flushing := by rw [state]; exact quiet
  cases h with
  | reacts h =>
    cases h with
    | flushes e n hg hl => cases line.symm.trans hl
    | tests _ hg hp ht h =>
      obtain ⟨filter, still⟩ := h.filter (s := s.testing) idle
      exact ⟨by rw [still]; exact line, by rw [filter]; exact state, quiet, by rw [filter]; exact hold⟩
    | shifts _ _ h =>
      obtain ⟨filter, still⟩ := h.filter idle
      exact ⟨by rw [still]; exact line, by rw [filter]; exact state, quiet, by rw [filter]; exact hold⟩
    | claimsFlush _ hc => cases hc
    | _ => exact ⟨line, state, quiet, hold⟩
  | beside c m k n w h l b f d v y q g hk hf =>
    obtain ⟨same, -, held, still⟩ := hf.resolve_left (by rw [he]; exact Bool.false_ne_true)
    exact ⟨still.trans line, same.trans state, quiet, held.trans hold⟩
  | steps k _ _ h =>
    rw [h.others]
    exact ⟨line, state, quiet, hold⟩
  | hours => exact ⟨line, state, quiet, hold⟩
  | dwells => exact ⟨line, state, quiet, hold⟩

theorem React.begun (h : React false claims s t) (hn : n ≠ .flushing) (hs : s.begun n i) : t.begun n i := by
  cases h with
  | flushes e q hg hl => exact .inr ⟨rfl, rfl⟩
  | tests _ hg hp ht h =>
    obtain ⟨owner, -⟩ := (grantAllowed_iff s).mp hg
    rcases hs with ⟨waits, state, hold⟩ | ⟨granted, -⟩
    · obtain ⟨filter, line⟩ := h.filter (s := s.testing) (by rw [← state] at hn; exact hn)
      refine .inl ⟨?_, by rw [filter]; exact state, by rw [filter]; exact hold⟩
      rw [line]
      exact waits
    · exact absurd owner (owner_granted granted)
  | claimsFlush _ _ hg => exact .inl ⟨rfl, (hs.resolve_right fun h => by cases h.1.symm.trans hg).2⟩
  | shifts _ ho => cases ho
  | stops ho => cases ho
  | _ => exact hs

/-- What follows a second may begin a flush, and leaves the filter's state and the flow-hold count alone otherwise. -/
theorem follow_begun (h : s.Unflushed n i) : (follow s).begun n i := by
  have start : s.begun n i := .inl ⟨by rw [Line.flushGranted, h.line], h.state, h.hold⟩
  have reacts := followed_reacts s
  generalize follow s = t at reacts
  induction reacts with
  | refl => exact start
  | tail _ last ih => exact last.begun h.quiet ih

/-- What every change keeps until the follow of a second. -/
theorem afterMetering_unflushed {x : SecondInputs} {f : Bool} (h : (filterSecond (brineSecond x (capacitySecond x f s))).Unflushed n i) :
    (afterMetering x f s).begun n i := by
  have hI {e : Span} {own : Bool} {s t : State} (he : e.screen = false) (h : Pass e own false s t) (hs : s.Unflushed n i) : t.Unflushed n i :=
    h.unflushed he hs
  have untimed : (s.untimed x f).Unflushed n i := by
    unfold State.untimed
    exact (passes_timed (e := {}) (own := false) (claims := false) _).keeps (I := State.Unflushed n i) (hI rfl) h
  have timers : (s.untimed x f).timers.Unflushed n i := by
    unfold State.timers
    exact (passes_timers (e := { timer := true, dwell := true }) (own := false) (claims := false) _ rfl rfl).keeps
      (I := State.Unflushed n i) (hI rfl) untimed
  have worked : (s.worked x f).Unflushed n i := by
    rw [worked_eq]
    exact (moved_reacts (own := false) (claims := false) _).passes.keeps (e := {}) (I := State.Unflushed n i) (hI rfl) timers
  have clocked : (s.clocked x f).Unflushed n i := by
    unfold State.clocked
    exact (passes_clock (e := {}) (own := false) (claims := false) _).keeps (I := State.Unflushed n i) (hI rfl) worked
  have watched : (s.watched x f).Unflushed n i := by
    unfold State.watched
    exact (passes_leakSecond (e := {}) (claims := false) f _).keeps (I := State.Unflushed n i) (hI rfl)
      ((exercised_reacts (s.clocked x f)).passes.keeps (e := {}) (I := State.Unflushed n i) (hI rfl) clocked)
  rw [afterMetering_eq]
  exact follow_begun ((steadied_reacts (s.watched x f)).passes.keeps (e := {}) (I := State.Unflushed n i) (hI rfl) watched)

end

end Sys2Proof.Machine

/-! The Filter Monitor's second, its baseline and its due set: O27. -/

namespace Sys2Proof.Machine

set_option Elab.async false

/-! ### The Filter Monitor's stage of a second -/

section
variable {s : State} {x : SecondInputs} {f : Bool}

/-- What the stages before the filter's leave to it. -/
theorem brineStage_others (x : SecondInputs) (f : Bool) (s : State) : (brineSecond x (capacitySecond x f s)).filter = s.filter
    ∧ (brineSecond x (capacitySecond x f s)).line = s.line ∧ (brineSecond x (capacitySecond x f s)).meter = s.meter
    ∧ (brineSecond x (capacitySecond x f s)).settings = s.settings := by
  obtain ⟨c, q, d, n, l, capacity⟩ := capacitySecond_others x f s
  obtain ⟨b, k, m, e, -⟩ := brineSecond_others x (capacitySecond x f s)
  rw [(levelled_levelSecond x.level _).others] at e
  rw [e, capacity]
  exact ⟨rfl, rfl, rfl, rfl⟩

theorem indexSecond_state {q : Nat} (h : s.filter.state ≠ .flushing) : (indexSecond q s).filter.state ≠ .flushing := by
  by_cases hold : flowHoldAfter s.filter q s.settings.user.filter.qMin = 30
  · obtain ⟨b, e⟩ := indexSecond_runs hold
    rw [e]
    show ((s.filter.indexed s.settings.inst.qRef q).evaluated s.settings.user.filter).state ≠ .flushing
    rw [Filter.evaluated_state (f := s.filter.indexed s.settings.inst.qRef q) h]
    exact evaluatedState_ne_flushing _ _
  · rw [indexSecond_holds hold]
    exact h

theorem indexSecond_flushing {q : Nat} (h : s.filter.state = .flushing) : (indexSecond q s).filter.state = .flushing := by
  obtain ⟨g, e, still⟩ := indexSecond_filter q s
  rw [e]
  exact (still h).1

/-- Outside a flush the filter's stage is its counts. -/
theorem filterSecond_counts (h : s.filter.state ≠ .flushing) : filterSecond s = s.screened := by
  obtain ⟨g, e, -, -, -, state⟩ := screened_filter s
  have idle : s.screened.filter.state ≠ .flushing := by
    rw [e]
    show g.state ≠ .flushing
    rw [state]
    exact indexSecond_state h
  rw [filterSecond_eq, flushEnd, if_neg fun hc => idle hc.1]

/-- The flow-hold count and the index after a second (R109, R110): `m` is the state after the metering stage. -/
theorem afterMetering_index (h : s.filter.state ≠ .flushing) :
    (afterMetering x f s).filter.rs10 = (indexSecond s.meter.now.vIn (brineSecond x (capacitySecond x f s))).filter.rs10
    ∧ (afterMetering x f s).filter.acq = (indexSecond s.meter.now.vIn (brineSecond x (capacitySecond x f s))).filter.acq
    ∧ (afterMetering x f s).filter.baseline = (indexSecond s.meter.now.vIn (brineSecond x (capacitySecond x f s))).filter.baseline := by
  obtain ⟨filter, -, meter, -⟩ := brineStage_others x f s
  obtain ⟨d, k, c, e⟩ := afterMetering_filter x f s
  generalize brineSecond x (capacitySecond x f s) = w at *
  obtain ⟨g, screened, rs10, acq, baseline, -⟩ := screened_filter w
  rw [filterSecond_counts (by rw [filter]; exact h), screened] at e
  rw [meter] at rs10 acq baseline
  rw [← rs10, ← acq, ← baseline]
  generalize afterMetering x f s = t at e
  have e1 := congrArg Filter.rs10 e
  have e2 := congrArg Filter.acq e
  have e3 := congrArg Filter.baseline e
  simp only [Filter.counts] at e1 e2 e3
  exact ⟨e1, e2, e3⟩

/-- The filter's state and the flow-hold count after a second, where no flush runs or waits (R109, R111). -/
theorem afterMetering_begun (h : s.filter.state ≠ .flushing) (hl : s.line.flush = none) :
    (afterMetering x f s).begun (indexSecond s.meter.now.vIn (brineSecond x (capacitySecond x f s))).filter.state
      (flowHoldAfter s.filter s.meter.now.vIn s.settings.user.filter.qMin) := by
  obtain ⟨filter, line, meter, settings⟩ := brineStage_others x f s
  refine afterMetering_unflushed ?_
  generalize brineSecond x (capacitySecond x f s) = w at *
  have idle : w.filter.state ≠ .flushing := by rw [filter]; exact h
  obtain ⟨g, screened, -, -, -, state⟩ := screened_filter w
  rw [filterSecond_counts idle]
  rw [meter, filter, settings] at screened
  rw [meter] at state
  refine ⟨?_, ?_, indexSecond_state idle, ?_⟩
  · rw [(works_screened w).undisturbed.line, line, hl]
  · rw [screened]
    exact state
  · rw [screened]

theorem flowHoldAfter_idle {r : Filter} {q n : Nat} (h : r.state ≠ .flushing) : flowHoldAfter r q n =
    if n ≤ q ∧ r.p1.held = false ∧ r.p2.held = false then min 30 (r.flowHold + 1) else 0 := by
  unfold flowHoldAfter
  simp only [h, ne_eq, not_false_eq_true, true_and]

/-- The index, the acquisition and the filter's state after a second without a flush (R109 to R111). -/
theorem afterMetering_indexed (h : s.filter.state ≠ .flushing) (hl : s.line.flush = none) :
    let t := afterMetering x f s
    let hold := if s.settings.user.filter.qMin ≤ s.meter.now.vIn ∧ s.filter.p1.held = false ∧ s.filter.p2.held = false then
      min 30 (s.filter.flowHold + 1) else 0
    (hold ≠ 30 → t.filter.rs10 = s.filter.rs10 ∧ t.filter.acq = s.filter.acq)
    ∧ (hold = 30 → t.filter.rs10 = smoothed s.filter (resistance s.filter s.settings.inst.qRef s.meter.now.vIn)
      ∧ t.filter.acq = (if s.filter.acq < 60 then s.filter.acq + 1 else s.filter.acq)
      ∧ (s.filter.acq = 59 → t.filter.baseline = t.filter.rs10 / 10)
      ∧ (t.filter.state ≠ .flushing → t.filter.state = evaluatedState t.filter s.settings.user.filter))
    ∧ (t.filter.state ≠ .flushing → t.filter.flowHold = hold) := by
  obtain ⟨rs10, acq, baseline⟩ := afterMetering_index (x := x) (f := f) h
  have begun := afterMetering_begun (x := x) (f := f) h hl
  obtain ⟨filter, -, -, settings⟩ := brineStage_others x f s
  dsimp only
  rw [← flowHoldAfter_idle h]
  generalize brineSecond x (capacitySecond x f s) = w at *
  generalize afterMetering x f s = t at *
  rw [← filter, ← settings] at begun ⊢
  refine ⟨fun hold => ?_, fun hold => ?_, fun hn => ?_⟩
  · rw [rs10, acq, indexSecond_holds hold]
    exact ⟨rfl, rfl⟩
  · obtain ⟨b, e⟩ := indexSecond_runs hold
    obtain ⟨n, d, same⟩ := (w.filter.indexed w.settings.inst.qRef s.meter.now.vIn).evaluated_others w.settings.user.filter
    have state : (indexSecond s.meter.now.vIn w).filter.state =
        evaluatedState (w.filter.indexed w.settings.inst.qRef s.meter.now.vIn) w.settings.user.filter := by
      rw [e]
      exact Filter.evaluated_state (f := w.filter.indexed w.settings.inst.qRef s.meter.now.vIn) (by rw [← filter] at h; exact h)
    rw [e, same] at rs10 acq baseline
    refine ⟨rs10, acq, fun ha => ?_, fun hn => ?_⟩
    · rw [baseline, rs10]
      exact if_pos ha
    · rw [(begun.resolve_right fun hb => hn hb.2).2.1, state, evaluatedState, evaluatedState, Filter.rs, Filter.rs, rs10, acq]
  · exact (begun.resolve_right fun hb => hn hb.2).2.2

/-- The screen's and the cartridge's counts after a second (R112, R113, R118). -/
theorem afterMetering_counts (x : SecondInputs) (f : Bool) (s : State) :
    let g := (afterMetering x f s).filter
    let c := s.settings.user.filter
    let volume := min 4294967295 (s.filter.volume + s.meter.now.vTr)
    g.cartVolume = min 4294967295 (s.filter.cartVolume + s.meter.now.vTr)
    ∧ g.quiet = (if s.meter.now.vH < c.qMin then min 60 (s.filter.quiet + 1) else 0)
    ∧ (s.filter.state ≠ .flushing → g.volume = volume)
    ∧ (s.filter.state = .flushing → s.filter.flush.elapsed + 1 < s.filter.flush.time → g.volume = volume)
    ∧ (s.filter.state = .flushing → s.filter.flush.time ≤ s.filter.flush.elapsed + 1 →
      g.volume = if 1000 ≤ s.filter.flush.volume + s.meter.now.vProc then 0 else volume)
    ∧ (c.cartVolume ≠ 0 → c.cartVolume * 1000 ≤ g.cartVolume → g.cartDue = true) := by
  obtain ⟨filter, -, meter, settings⟩ := brineStage_others x f s
  obtain ⟨d, k, due, e⟩ := afterMetering_filter x f s
  dsimp only
  rw [← filter, ← meter, ← settings]
  generalize brineSecond x (capacitySecond x f s) = w at *
  generalize afterMetering x f s = t at *
  obtain ⟨g, screened, -, -, -, state⟩ := screened_filter w
  obtain ⟨h, ended, -⟩ := flushEnd_filter w.screened
  have cartDue : (filterSecond w).filter.cartDue = w.screened.filter.cartDue := by
    have same := congrArg Filter.cartDue ended
    simp only [Filter.counts] at same
    exact same
  rw [cartDue, filterSecond_eq, ended] at e
  have cartVolume := congrArg Filter.cartVolume e
  have quiet := congrArg Filter.quiet e
  have volume := congrArg Filter.volume e
  have marked := congrArg Filter.cartDue e
  simp only [Filter.counts] at cartVolume quiet volume marked
  rw [screened] at cartVolume quiet volume marked
  dsimp only at cartVolume quiet volume marked
  rw [state] at volume
  refine ⟨cartVolume, quiet, fun hs => ?_, fun hs hd => ?_, fun hs hd => ?_, fun hn hd => ?_⟩
  · rw [volume, if_neg fun hc => indexSecond_state hs hc.1]
  · rw [volume, indexSecond_flushing hs, if_pos rfl]
    exact if_neg fun hc => Nat.not_le.2 hd hc.2.1
  · rw [volume, indexSecond_flushing hs, if_pos rfl]
    by_cases hv : 1000 ≤ w.filter.flush.volume + w.meter.now.vProc
    · rw [if_pos ⟨rfl, hd, hv⟩, if_pos hv]
    · rw [if_neg fun hc => hv hc.2.2, if_neg hv]
  · rw [cartVolume] at hd
    rw [marked, decide_eq_true hd, bne_iff_ne.mpr hn]
    simp only [Bool.and_true, Bool.or_true, Bool.true_or]

/-- A flush under way keeps its record to the end of a second that does not end it (R115). -/
theorem afterMetering_flush (h : s.filter.state = .flushing) (hg : s.line.flushGranted = true)
    (hd : s.filter.flush.elapsed + 1 < s.filter.flush.time) : (afterMetering x f s).filter.flush =
      { s.filter.flush with elapsed := s.filter.flush.elapsed + 1, volume := s.filter.flush.volume + s.meter.now.vProc } := by
  obtain ⟨filter, line, meter, -⟩ := brineStage_others x f s
  have kept (hf : (filterSecond (brineSecond x (capacitySecond x f s))).flushes
      { s.filter.flush with elapsed := s.filter.flush.elapsed + 1, volume := s.filter.flush.volume + s.meter.now.vProc }) :=
    later_keeps (x := x) (f := f) (s := s) (I := State.flushes
      { s.filter.flush with elapsed := s.filter.flush.elapsed + 1, volume := s.filter.flush.volume + s.meter.now.vProc })
      (fun _ he h hs => h.flushes he hs) hf
  refine (kept ?_).1
  clear kept
  rw [← filter] at h hd ⊢
  rw [← line] at hg
  rw [← meter]
  generalize brineSecond x (capacitySecond x f s) = w at *
  obtain ⟨g, screened, -, -, -, state⟩ := screened_filter w
  have flushing : g.state = .flushing := by rw [state, indexSecond_flushing h]
  rw [flushing, if_pos rfl] at screened
  have goes : filterSecond w = w.screened := by
    rw [filterSecond_eq, flushEnd, if_neg]
    rw [screened]
    exact fun hc => Nat.not_le.2 hd hc.2
  rw [goes]
  refine ⟨?_, .inl ?_⟩
  · rw [screened]
  · rw [(works_screened w).undisturbed.line]
    exact hg

end

/-! ### The cartridge (R118) -/

/-- What a state tells a later one still tells, where few notices come between. -/
theorem told_adds {s t u : State} {k : NoticeKind} {v1 v2 v3 : Int} {i j : Nat} (h : Told k v1 v2 v3 s t) (hk : isStateKind k = false)
    (hs : Adds i s.notices t.notices) (ha : Adds j t.notices u.notices) (hij : i + j ≤ 9) : Told k v1 v2 v3 s u := by
  intro hl
  obtain ⟨n, hn, kind, values⟩ := h hl
  have length := hs.length
  exact ⟨n, ha.keeps (by omega) n hn (by rw [kind]; exact hk), kind, values⟩

section
variable {s : State} {n : Nat} {b : Bool}

theorem cartridgeDue_posts (hb : b = true) (hd : s.filter.cartDue = false) : cartridgeDue n b s =
    post .cartridgeDue .none n (s.filter.cartVolume / 1000 : Nat) s.filter.cartMonths { s with filter := { s.filter with cartDue := true } } := by
  rw [cartridgeDue, hb, hd]
  rfl

theorem flushVolumeReached_due (s : State) : ∃ b, flushVolumeReached s =
    { s with filter := { s.filter with due := { s.filter.due with volume := b } } } := by
  unfold flushVolumeReached
  dsimp only
  split
  · exact ⟨true, rfl⟩
  · exact ⟨s.filter.due.volume, rfl⟩

/-- CARTRIDGE_DUE for VOLUME, at the second that reaches it. -/
theorem screenSecond_told (v q : Nat) (s : State) (hn : s.settings.user.filter.cartVolume ≠ 0)
    (hv : s.settings.user.filter.cartVolume * 1000 ≤ min 4294967295 (s.filter.cartVolume + v)) (hd : s.filter.cartDue = false) :
    Told .cartridgeDue 0 (min 4294967295 (s.filter.cartVolume + v) / 1000 : Nat) (s.filter.cartDays / 30 : Nat) s (screenSecond v q s) := by
  intro hl
  rw [screenSecond]
  dsimp only
  generalize hw : ({ s with filter := { s.filter with
    volume := satAdd 4294967295 s.filter.volume v, cartVolume := satAdd 4294967295 s.filter.cartVolume v
    quiet := if q < s.settings.user.filter.qMin then min 60 (s.filter.quiet + 1) else 0 } } : State) = w
  obtain ⟨b, e⟩ := flushVolumeReached_due w
  have reached : cartVolumeReached (flushVolumeReached w) = true := by
    rw [e, ← hw]
    exact Bool.and_eq_true_iff.mpr ⟨bne_iff_ne.mpr hn, decide_eq_true hv⟩
  rw [cartridgeDue_posts reached (by rw [e, ← hw]; exact hd), e, ← hw]
  exact NoticeQueue.tells_post s.notices _ (by omega)

/-- The Filter Monitor's record after midnight (R112, R118). -/
theorem filterMidnight_record (s : State) : (filterMidnight s).filter = { s.filter with
    days := min 65535 (s.filter.days + 1), cartDays := min 65535 (s.filter.cartDays + 1)
    due := { s.filter.due with
      loaded := s.filter.due.loaded || s.filter.state == .loaded
      blocked := s.filter.due.blocked || s.filter.state == .blocked
      volume := s.filter.due.volume || decide (s.settings.user.filter.flushVolume ≠ 0 ∧ s.settings.user.filter.flushVolume * 1000 ≤ s.filter.volume)
      days := s.filter.due.days
        || decide (s.settings.user.filter.flushDays ≠ 0 ∧ s.settings.user.filter.flushDays ≤ min 65535 (s.filter.days + 1)) }
    cartDue := s.filter.cartDue || decide (s.settings.user.filter.cartMonths ≠ 0
      ∧ s.settings.user.filter.cartMonths ≤ min 65535 (s.filter.cartDays + 1) / 30) } := by
  have on (v : Nat) (p : Prop) [Decidable p] : (v != 0 && decide p) = decide (v ≠ 0 ∧ p) := by
    rw [Bool.eq_iff_iff, Bool.and_eq_true, bne_iff_ne, decide_eq_true_iff, decide_eq_true_iff]
  have limited (v m : Nat) : (v * 1000 != 0 && decide (v * 1000 ≤ m)) = decide (v ≠ 0 ∧ v * 1000 ≤ m) := by
    rw [on, decide_eq_decide]
    omega
  rw [filterMidnight]
  dsimp only
  rw [cartridgeDue_filter, ← limited, ← on, ← on]
  rfl

/-- CARTRIDGE_DUE for AGE, at the midnight that reaches it. -/
theorem filterMidnight_told (ha : s.settings.user.filter.cartMonths ≠ 0
      ∧ s.settings.user.filter.cartMonths ≤ min 65535 (s.filter.cartDays + 1) / 30) (hd : s.filter.cartDue = false) :
    Told .cartridgeDue 1 (s.filter.cartVolume / 1000 : Nat) (min 65535 (s.filter.cartDays + 1) / 30 : Nat) s (filterMidnight s) := by
  intro hl
  have reached : (s.settings.user.filter.cartMonths != 0
      && decide (s.settings.user.filter.cartMonths ≤ min 65535 (s.filter.cartDays + 1) / 30)) = true :=
    Bool.and_eq_true_iff.mpr ⟨bne_iff_ne.mpr ha.1, decide_eq_true ha.2⟩
  rw [filterMidnight]
  dsimp only
  generalize hw : ({ s with filter := _ } : State) = w
  have aged : cartAgeReached w = true := by
    rw [← hw]
    exact reached
  rw [cartridgeDue_posts aged (by rw [← hw]; exact hd), ← hw]
  exact NoticeQueue.tells_post s.notices _ (by omega)

theorem filterMidnight_adds (s : State) : Adds 1 s.notices (filterMidnight s).notices := by
  unfold filterMidnight cartridgeDue
  dsimp only
  split
  · exact .post _ _
  · exact .refl 1 _

theorem adds_brineMidnight (s : State) : Adds 2 s.notices (brineMidnight s).notices := by
  obtain ⟨l, n, e, told⟩ := repeatReminder_others s
  exact (by rw [e]; exact told : Adds 1 s.notices (repeatReminder s).notices).trans (adds_forecastReminder _)

theorem filterEvaluate_own (s : State) : filterEvaluate s =
    { s with filter := (filterEvaluate s).filter, notices := (filterEvaluate s).notices } := by
  unfold filterEvaluate filterEvaluateNow
  split
  · rfl
  · rw [setFilter_others]

theorem cartridgeDue_others (n : Nat) (b : Bool) (s : State) : cartridgeDue n b s =
    { s with filter := (cartridgeDue n b s).filter, notices := (cartridgeDue n b s).notices } := by
  unfold cartridgeDue
  split <;> rfl

theorem baselineSet_others (s : State) : baselineSet s =
    { s with filter := (baselineSet s).filter, notices := (baselineSet s).notices } := by
  unfold baselineSet
  split
  · dsimp only
    rw [cartridgeDue_others, filterEvaluate_own]
  · rfl

/-- The Filter Monitor's record as the baseline is set (R110). -/
theorem baselineSet_record (hd : s.filter.baselineDue = true) (hn : s.filter.state ≠ .flushing) : (baselineSet s).filter =
    let n := evaluatedState s.filter s.settings.user.filter
    { s.filter with
      baseline := s.filter.rs10 / 10, baselineDue := false, state := n
      due := if n = s.filter.state then s.filter.due else s.filter.due.enter n
      cartDue := s.filter.cartDue || decide (s.settings.user.filter.cartIndex ≤ s.filter.rs10 / 10) } := by
  have due : s.filter.dueAfter (evaluatedState s.filter s.settings.user.filter) =
      if evaluatedState s.filter s.settings.user.filter = s.filter.state then s.filter.due
      else s.filter.due.enter (evaluatedState s.filter s.settings.user.filter) := by
    rw [Filter.dueAfter]
    simp only [hn, or_false, eq_comm]
  have evaluated := filterEvaluate_filter { s with filter := { s.filter with baseline := s.filter.rs, baselineDue := false } }
  rw [Filter.evaluated, if_neg hn] at evaluated
  have settings : (filterEvaluate { s with filter := { s.filter with baseline := s.filter.rs, baselineDue := false } }).settings = s.settings := by
    rw [filterEvaluate_own]
  rw [baselineSet, hd, if_pos rfl]
  dsimp only
  rw [cartridgeDue_filter, cartIndexReached, settings, evaluated, ← due]
  rfl

end

/-- R108 to R118: the Filter Monitor's second, midnight, and its two events. Settles O27: after its stage the state and the flow-hold count of
the filter stay until the follow of the second begins a flush, and a flush under way keeps its record. -/
theorem baselineAndFlushVolume : Obligations.BaselineAndFlushVolume := by
  refine ⟨fun x s h => ?_, fun v q s => screenSecond_told v q s, fun s h hd => ?_, fun s h => ⟨fun hd => event_leaves h ?_, fun hd hn => ?_,
    fun hn => event_leaves h ?_, fun hn hv ht => event_leaves h ?_⟩⟩
  · obtain ⟨b, e⟩ := exec_second x h
    have kept := metered_metered x s
    have filter : (s.metered x).filter = { s.filter with
        p1 := s.filter.p1.sampled x.p1, p2 := s.filter.p2.sampled x.p2, p3 := s.filter.p3.sampled x.p3 } := by
      have before : (s.metered x).filter = (beforeMetering x s).filter := by rw [(works_metered x s).meter_eq]
      rw [before, beforeMetering_filter]
    obtain ⟨p1, p2, p3⟩ := afterMetering_sensors x (secondFrozen x s) (s.metered x)
    have indexed := afterMetering_indexed (x := x) (f := secondFrozen x s) (s := s.metered x)
    obtain ⟨cartVolume, quiet, away, runs, ends, marks⟩ := afterMetering_counts x (secondFrozen x s) (s.metered x)
    have flush := afterMetering_flush (x := x) (f := secondFrozen x s) (s := s.metered x)
    obtain ⟨w, o, i, y, meter⟩ := afterMetering_meter x (secondFrozen x s) (s.metered x)
    have now : (s.metered x).meter.now = (afterMetering x (secondFrozen x s) (s.metered x)).meter.now := by rw [meter]
    rw [kept.settings] at indexed quiet marks
    rw [kept.line] at indexed flush
    generalize afterMetering x (secondFrozen x s) (s.metered x) = t at *
    generalize s.metered x = m at *
    rw [now] at indexed cartVolume quiet away runs ends flush
    rw [filter] at p1 p2 p3 indexed cartVolume quiet away runs ends flush
    dsimp only at p1 p2 p3 indexed cartVolume quiet away runs ends flush
    refine ⟨_, e, ⟨p1, p2, p3⟩, fun hn hl => ?_, cartVolume, quiet, away, fun hf hg hd => ⟨runs hf hd, flush hf hg hd⟩, ends, marks⟩
    obtain ⟨holds, counts, hold⟩ := indexed hn hl
    rw [← p1, ← p2] at holds counts hold
    dsimp only
    refine ⟨fun hh => holds (Nat.ne_of_lt hh), fun hh => ?_, hold⟩
    obtain ⟨rs10, acq, baseline, state⟩ := counts hh
    exact ⟨rs10, acq, baseline, state⟩
  · have e : midnight s = brineMidnight (exerciseMidnight (filterMidnight (closeDay
        { s with clock := { s.clock with midnightDue := false } }))) := by rw [midnight, if_pos hd]
    have record : (midnight s).filter = _ := (midnight_filter_due hd).trans (filterMidnight_record _)
    refine ⟨_, event_leaves h rfl, ?_⟩
    dsimp only
    rw [record]
    refine ⟨rfl, fun ha hn hl => ?_, rfl⟩
    rw [e]
    have told := filterMidnight_told (s := closeDay { s with clock := { s.clock with midnightDue := false } }) ha hn
    exact told_adds (i := 1) (j := 2) told rfl (filterMidnight_adds (closeDay { s with clock := { s.clock with midnightDue := false } }))
      (adds_brineMidnight (exerciseMidnight _)) (by decide) hl
  · rw [baselineSet, hd, if_neg Bool.false_ne_true]
  · have record := baselineSet_record hd hn
    refine ⟨_, event_leaves h rfl, record, ?_⟩
    exact baselineSet_others s
  · rw [flushVolumeReached, flushVolumeLimit]
    exact if_neg fun ⟨h1, h2, h3⟩ => by omega
  · rw [flushVolumeReached, flushVolumeLimit]
    exact if_pos ⟨hn, ht, hv⟩

end Sys2Proof.Machine

/-! How many notices the valve's operations and the arbiter's grants post. -/

namespace Sys2Proof.Machine

set_option Elab.async false

/-! ### A bound of what is posted -/

/-- The notices of `t` come from those of `s` by at most `k` notices; no other than a state notice leaves (R181). -/
structure Posts (k : Nat) (s t : State) : Prop where
  length : t.notices.queue.length ≤ s.notices.queue.length + k
  keeps : ∀ m ∈ s.notices.queue, isStateKind m.kind = false → m ∈ t.notices.queue

theorem NoticeQueue.post_keeps (q : NoticeQueue) (n : Notice) {m : Notice} (hm : m ∈ q.queue) (hk : isStateKind m.kind = false) :
    m ∈ (q.post n).queue := by
  unfold NoticeQueue.post
  split
  next merged =>
    refine List.mem_map.2 ⟨m, hm, if_neg fun hn => ?_⟩
    simp only [Notice.mergesInto, Bool.and_eq_true, beq_iff_eq] at hn
    rw [hn.1.2, hn.1.1] at hk
    cases hk
  next =>
    split
    · exact List.mem_append_left _ hm
    · split
      · exact List.mem_append_left _ ((List.mem_eraseP_of_neg (by rw [hk]; exact Bool.false_ne_true)).2 hm)
      · exact hm

section
variable {i j k : Nat} {s t u v : State}

theorem Posts.refl (s : State) : Posts 0 s s := ⟨Nat.le_refl _, fun _ hm _ => hm⟩

theorem Posts.same (h : t.notices = s.notices := by rfl) : Posts 0 s t := by
  refine ⟨?_, ?_⟩
  · rw [h]
    exact Nat.le_refl _
  · rw [h]
    exact fun _ hm _ => hm

theorem Posts.trans (h : Posts j s t) (h' : Posts k t u) : Posts (j + k) s u := by
  obtain ⟨hl, hk⟩ := h
  obtain ⟨hl', hk'⟩ := h'
  exact ⟨by omega, fun m hm hn => hk' m (hk m hm hn) hn⟩

theorem Posts.mono (h : Posts j s t) (hjk : j ≤ k) : Posts k s t := ⟨Nat.le_trans h.length (Nat.add_le_add_left hjk _), h.keeps⟩

theorem Posts.post (k : NoticeKind) (u : Subject) (a b c : Int) (s : State) : Posts 1 s (Machine.post k u a b c s) :=
  ⟨(Adds.post _ _).length, fun _ hm hn => NoticeQueue.post_keeps _ _ hm hn⟩

theorem Posts.ite {c : Prop} [Decidable c] (ht : c → Posts k s t) (hu : ¬ c → Posts k s u) : Posts k s (if c then t else u) := by
  split
  · exact ht ‹_›
  · exact hu ‹_›

/-- A notice told stays told, unless it is a state notice. -/
theorem Told.posts {n : NoticeKind} {a b c : Int} (h : Told n a b c s t) (hn : isStateKind n = false) (hp : Posts k t u) : Told n a b c s u :=
  fun hl => by
    obtain ⟨m, hm, kind, values⟩ := h hl
    exact ⟨m, hp.keeps m hm (by rw [kind]; exact hn), kind, values⟩

/-- What is told from a state on is told from an earlier one, with the same time and few notices between. -/
theorem Told.since {n : NoticeKind} {a b c : Int} (h : t.notices.queue.length < 24 → ∃ m ∈ u.notices.queue,
      m.kind = n ∧ m.subject = .none ∧ m.stamp = t.now ∧ m.v1 = a ∧ m.v2 = b ∧ m.v3 = c)
    (hp : Posts 8 s t) (hn : t.now = s.now) : Told n a b c s u := fun hl => by
  rw [← hn]
  exact h (by have := hp.length; omega)

/-! ### The filter and the valve -/

theorem posts_filterEvaluateNow (s : State) : Posts 1 s (filterEvaluateNow s) := by
  unfold filterEvaluateNow setFilter
  dsimp only
  refine .ite (fun _ => (Posts.refl s).mono (Nat.zero_le 1)) fun _ => ?_
  exact Posts.trans (j := 0) (k := 1) .same (.post _ _ _ _ _ _)

theorem posts_flushCut (s : State) : Posts 2 s (flushCut s) := by
  unfold flushCut dropFlush
  refine .ite (fun _ => ?_) fun _ => (Posts.refl s).mono (by decide)
  have evaluated := posts_filterEvaluateNow { s with filter := { s.filter with solenoid := false } }
  generalize filterEvaluateNow { s with filter := { s.filter with solenoid := false } } = v at evaluated
  have dropped : Posts 0 v (if v.line.flushGranted then { v with line := { v.line with flush := none } } else v) :=
    .ite (fun _ => .same) fun _ => .same
  have cut : Posts 1 s (if v.line.flushGranted then { v with line := { v.line with flush := none } } else v) :=
    Posts.trans (j := 1) (k := 0) ⟨evaluated.length, evaluated.keeps⟩ dropped
  exact cut.trans (.post _ _ _ _ _ _)

theorem posts_valveChange (v : ValveState) (s : State) : Posts 3 s (valveChange v s) := by
  unfold valveChange
  dsimp only
  refine .ite (fun _ => (Posts.refl s).mono (by decide)) fun _ => ?_
  have told : Posts 1 s (post .shutoffState .none (valveCode v) (reasonsCode s.valve.reasons) (exerciseCode s.valve.exercise)
      { s with valve := { s.valve with state := v } }) := Posts.trans (j := 0) (k := 1) .same (.post _ _ _ _ _ _)
  exact .ite (fun _ => told.trans (posts_flushCut _)) fun _ => told.mono (by decide)

theorem posts_valveChange_away (v : ValveState) (h : s.valve.state ≠ .opened) : Posts 1 s (valveChange v s) := by
  unfold valveChange
  dsimp only
  refine .ite (fun _ => (Posts.refl s).mono (by decide)) fun _ => ?_
  rw [if_neg h]
  exact Posts.trans (j := 0) (k := 1) .same (.post _ _ _ _ _ _)

theorem posts_answerTag (s : State) : Posts 1 s (answerTag s) := by
  have still : Posts 1 s s := (Posts.refl s).mono (by decide)
  have answered (g : Byte) (o : DoneOutcome) (d : Nat) :
      Posts 1 s (requestDone .none g kindShutoffCmd o d { s with valve := { s.valve with tag := none } }) :=
    Posts.trans (j := 0) (k := 1) .same (.post _ _ _ _ _ _)
  unfold answerTag
  split
  · exact still
  · dsimp only
    split
    · exact .ite (fun _ => still) fun _ => answered _ _ _
    · exact .ite (fun _ => answered _ _ _) fun _ => still
    · exact answered _ _ _
    · exact still

/-- An arrival posts the valve's state, what a cut flush posts, and the tag's answer. -/
theorem posts_valveArrive (e : ValveEnd) (s : State) :
    Posts 4 s (valveArrive e s) ∧ (s.valve.state ≠ .opened → Posts 2 s (valveArrive e s)) := by
  have after {w a : State} {n : Nat} {c : Bool} (h : Posts 0 s w) (ha : Posts n w a) :
      Posts (n + 1) s (answerTag (if c then faultGone .shutoffStuck .none a else a)) := by
    have cured : Posts 0 a (if c then faultGone .shutoffStuck .none a else a) := .ite (fun _ => .same) fun _ => .same
    have all := ((h.trans ha).trans cured).trans (posts_answerTag _)
    exact all.mono (by omega)
  unfold valveArrive
  exact ⟨after .same (posts_valveChange _ _), fun h => after .same (posts_valveChange_away _ h)⟩

theorem posts_driveOrArrive (e : ValveEnd) (s : State) :
    Posts 4 s (driveOrArrive e s) ∧ (s.valve.state ≠ .opened → Posts 2 s (driveOrArrive e s)) := by
  have driven (v : State) : Posts 0 v (drive e v) := .same
  obtain ⟨arrive, away⟩ := posts_valveArrive e s
  unfold driveOrArrive
  refine ⟨.ite (fun _ => arrive) fun _ => ?_, fun h => .ite (fun _ => away h) fun _ => ?_⟩
  · exact ((posts_valveChange _ s).trans (driven _)).mono (by decide)
  · exact ((posts_valveChange_away _ h).trans (driven _)).mono (by decide)

theorem posts_beginTravel (s : State) : Posts 4 s (beginTravel s) ∧ (s.valve.state ≠ .opened → Posts 2 s (beginTravel s)) := by
  have start : Posts 0 s { s with valve := { s.valve with second := false, retried := false } } := .same
  obtain ⟨drives, away⟩ := posts_driveOrArrive s.targetEnd { s with valve := { s.valve with second := false, retried := false } }
  unfold beginTravel
  exact ⟨(start.trans drives).mono (by decide), fun h => (start.trans (away h)).mono (by decide)⟩

theorem posts_reverseTravel (h : s.valve.state ≠ .opened) : Posts 1 s (reverseTravel s) := by
  unfold reverseTravel
  exact Posts.trans (j := 0) (k := 1) .same (posts_valveChange_away _ h)

/-- A travel that reverses posts its state, and stands at no end. -/
theorem reverseTravel_state (s : State) : (reverseTravel s).valve.state = travelState s.targetEnd := by
  unfold reverseTravel
  rw [valveChange_valve]

theorem valveArrive_state (e : ValveEnd) (s : State) : (valveArrive e s).valve.state = restState e := by
  rw [valveArrive_valve]
  rfl

theorem driveOrArrive_closes (s : State) : (driveOrArrive .closedEnd s).valve.state ≠ .opened := by
  cases h : s.pins.switch .closedEnd with
  | true =>
    rw [driveOrArrive_arrives h, valveArrive_state]
    exact ValveState.noConfusion
  | false =>
    rw [driveOrArrive_drives h]
    show (valveChange (travelState .closedEnd) s).valve.state ≠ .opened
    rw [valveChange_valve]
    exact ValveState.noConfusion

/-- A CLOSE_RUN that goes on as a travel posts what its arrival does. -/
theorem posts_closeRunTravels (h : s.valve.state = .closing) :
    Posts 4 s (closeRunTravels s) ∧ (closeRunTravels s).valve.state ≠ .opened := by
  have passed (v : State) : Posts 0 v (exercisePassed v) ∧ (exercisePassed v).valve.state = v.valve.state := ⟨.same, rfl⟩
  have judged (v : State) (hv : v.valve.state = .closing) (hp : Posts 0 s v) :
      Posts 4 s (if s.pins.closedEnd then valveArrive .closedEnd v else v)
      ∧ (if s.pins.closedEnd then valveArrive .closedEnd v else v).valve.state ≠ .opened := by
    split
    · exact ⟨(hp.trans (posts_valveArrive _ v).1).mono (by decide), by rw [valveArrive_state]; exact ValveState.noConfusion⟩
    · exact ⟨hp.mono (by decide), by rw [hv]; exact ValveState.noConfusion⟩
  unfold closeRunTravels
  dsimp only
  refine judged _ ?_ ?_
  · split
    · exact (passed _).2.trans h
    · exact h
  · split
    · exact Posts.trans (j := 0) (k := 0) .same (passed _).1
    · exact .same

/-- The target becomes CLOSED: the valve leaves OPEN and closes, or goes on (R142, R143, R145, R150). -/
theorem posts_targetBecameClosed (h : s.targetClosed = true) :
    Posts 4 s (targetBecameClosed s) ∧ (targetBecameClosed s).valve.state ≠ .opened := by
  have reversed (v : State) (hv : v.valve.state ≠ .opened) : Posts 4 v (reverseTravel v) ∧ (reverseTravel v).valve.state ≠ .opened :=
    ⟨(posts_reverseTravel hv).mono (by decide), by rw [reverseTravel_state]; exact travelState_ne_opened _⟩
  have ended (hv : s.valve.state ≠ .opened) : Posts 4 s (reverseTravel { s with valve := { s.valve with exercise := .none } })
      ∧ (reverseTravel { s with valve := { s.valve with exercise := .none } }).valve.state ≠ .opened := by
    obtain ⟨posts, away⟩ := reversed { s with valve := { s.valve with exercise := .none } } hv
    exact ⟨Posts.trans (j := 0) (k := 4) .same posts, away⟩
  have closes : s.targetEnd = .closedEnd := if_pos h
  have away {v : ValveState} (hs : s.valve.state = v) (hv : v ≠ .opened) : s.valve.state ≠ .opened := by rw [hs]; exact hv
  unfold targetBecameClosed
  split
  · refine ⟨(posts_beginTravel s).1, ?_⟩
    unfold beginTravel
    rw [closes]
    exact driveOrArrive_closes _
  next hs _ => exact posts_closeRunTravels hs
  next hs _ => exact ended (away hs ValveState.noConfusion)
  next hs _ => exact ended (away hs ValveState.noConfusion)
  next hs _ => exact reversed s (away hs ValveState.noConfusion)
  next hs _ _ => exact reversed s (away hs ValveState.noConfusion)
  next hs => exact ⟨(Posts.refl s).mono (by decide), away hs ValveState.noConfusion⟩
  next hs => exact ⟨(Posts.refl s).mono (by decide), away hs ValveState.noConfusion⟩

/-- A reason added posts nothing, or takes the valve away from OPEN (R142). -/
theorem posts_addReason (n : Reason) (s : State) :
    Posts 0 s (addReason n s) ∨ Posts 4 s (addReason n s) ∧ (addReason n s).valve.state ≠ .opened := by
  unfold addReason
  dsimp only
  split
  · exact .inl .same
  · obtain ⟨posts, away⟩ := posts_targetBecameClosed (s := s.withReason n true) (Reasons.any_put _ _)
    exact .inr ⟨Posts.trans (j := 0) (k := 4) .same posts, away⟩

/-- A reason that leaves posts what the valve's way back does (R142, R143, R145). -/
theorem posts_dropReason (n : Reason) (s : State) : Posts 2 s (dropReason n s) := by
  have put : Posts 0 s (s.withReason n false) := .same
  have begun (hv : s.valve.state ≠ .opened) : Posts 2 s (beginTravel (s.withReason n false)) :=
    (put.trans ((posts_beginTravel (s.withReason n false)).2 hv)).mono (by decide)
  have reversed (hv : s.valve.state ≠ .opened) : Posts 2 s (reverseTravel (s.withReason n false)) :=
    (put.trans (posts_reverseTravel (s := s.withReason n false) hv)).mono (by decide)
  unfold dropReason
  dsimp only
  refine .ite (fun _ => ?_) fun _ => put.mono (by decide)
  split
  next hs => exact begun (by rw [hs]; exact ValveState.noConfusion)
  next hs => exact reversed (by rw [hs]; exact ValveState.noConfusion)
  next hs => exact reversed (by rw [hs]; exact ValveState.noConfusion)
  next => exact put.mono (by decide)

/-- The valve that becomes STUCK posts its state, what a cut flush posts, the fault and the tag's answer (R144, R146). -/
theorem posts_valveStuckCore (c : StuckCause) (d : Int) (s : State) : Posts 5 s (valveStuckCore c d s) := by
  have stopped : Posts 0 s { s with valve := s.valve.sticking c } := .same
  have reported (v : State) : Posts 1 v (faultReport (stuckFault c) .none d v) := Posts.trans (j := 0) (k := 1) .same (.post _ _ _ _ _ _)
  rw [valveStuckCore_eq]
  exact ((stopped.trans (posts_valveChange .stuck _)).trans (reported _)).trans (posts_answerTag _)

end

end Sys2Proof.Machine

/-! What the arbiter's grants post, and what they leave of the Leak Monitor and the valve. -/

namespace Sys2Proof.Machine

set_option Elab.async false

section
variable {k : Tank} {x : Step} {s t u : State}

/-! ### The sequencer's part of a grant (R70, R71, R82) -/

theorem posts_changeTank (k : Tank) (r : TankRecord) (s : State) : Posts 1 s (changeTank k r s) := by
  have put : Posts 0 s (s.withTank k r) := .same
  exact .ite (fun _ => put.mono (by decide)) fun _ => put.trans (.post _ _ _ _ _ _)

theorem posts_discRequest (p : Pos) (s : State) : Posts 0 s (discRequest p s) := by
  unfold discRequest
  split
  · exact .refl s
  · exact .same
  · exact .same

/-- A step's arrival tells the tank's state, and nothing of the brine (R71, R82). -/
theorem posts_stepArrival (k : Tank) (x : Step) (s : State) : Posts 1 s (stepArrival k x s) := by
  have started (v : State) : Posts 0 v (stepStarted k x v) := by
    obtain ⟨b, e, -⟩ := stepStarted_others k x v
    rw [e]
    exact .same
  have ended (v : State) : Posts 0 v (brineEnd v) := by
    unfold brineEnd
    split
    · exact .refl v
    · exact .same
  have entered : Posts 1 s (enterOtherStep k x s) := by
    have left : Posts 0 s (if (s.tank k).step = some .brine ∧ (s.tank k).phase = some .inStep then brineEnd s else s) :=
      .ite (fun _ => ended s) fun _ => .refl s
    exact (left.trans (posts_changeTank _ _ _)).trans (started _)
  have arrived := posts_changeTank k { s.tank k with phase := some .inStep } s
  exact .ite (fun _ => .ite (fun _ => arrived.trans (started _)) fun _ => arrived) fun _ => entered

/-- A tank told of MANUAL has its deferral told when it is EXHAUSTED (R82). -/
theorem posts_manualTold (k : Tank) (s : State) :
    Posts 1 s (manualTold k s) ∧ ((s.tank k).service ≠ .exhausted → Posts 0 s (manualTold k s)) := by
  obtain ⟨e, he⟩ := withdrawRegen_others k s
  have withdrawn : Posts 0 s (withdrawRegen k s) := by
    rw [he]
    exact .same
  have service : ((withdrawRegen k s).tank k).service = (s.tank k).service := by
    rw [he, ← TankRecord.withdrawn_service (s.tank k)]
    exact congrArg TankRecord.service (withTank_tank_same s k _)
  have deferred (v : State) : Posts 1 v (defer k .manual v) := by
    have put (r : TankRecord) : Posts 0 v (v.withTank k r) := .same
    exact .ite (fun _ => (Posts.refl v).mono (by decide)) fun _ => (put _).trans (.post _ _ _ _ _ _)
  refine ⟨.ite (fun _ => withdrawn.trans (deferred _)) fun _ => withdrawn.mono (by decide), fun hs => ?_⟩
  exact .ite (fun h => absurd (service.symm.trans h) hs) fun _ => withdrawn

/-- MANUAL reaches at most one EXHAUSTED tank, when a tank is not EXHAUSTED (R54, R82). -/
theorem posts_applyManual (h : (s.tank k).service ≠ .exhausted) : Posts 1 s (applyManual s) := by
  have reported (v : State) (hv : (v.tank k).service ≠ .exhausted) : Posts 1 v (manualReported v) := by
    obtain ⟨first, idleFirst⟩ := posts_manualTold .a v
    obtain ⟨last, idleLast⟩ := posts_manualTold .b (manualTold .a v)
    rw [manualReported_eq]
    cases k with
    | a => exact (idleFirst hv).trans last
    | b =>
      refine first.trans (idleLast ?_)
      rw [(manualTold_tank .a v).2.1 .b Tank.noConfusion]
      exact hv
  have manual : Posts 0 s { s with disc := { s.disc with mode := .manual } } := .same
  exact .ite (fun _ => manual.trans (reported _ h)) fun _ => (Posts.refl s).mono (by decide)

/-- A grant of REGEN tells the tank as it begins and as it arrives, and a MANUAL that waited (R70, R82). -/
theorem posts_grantRegen (e : RegenEntry) (s : State) : Posts 3 s (grantRegen e s) := by
  have asked (k : Tank) (v : State) (hv : (v.tank k).service ≠ .exhausted) : Posts 2 v (askStepMove k .backwash v) := by
    have requested := posts_discRequest (stepPosition k .backwash) v
    refine .ite (fun _ => ?_) fun _ => requested.mono (by decide)
    refine (requested.trans (posts_stepArrival k .backwash _)).trans (posts_applyManual (k := k) ?_)
    rw [stepArrival_service, discRequest_tank]
    exact hv
  have granted : Posts 0 s { s with line := { s.line with regen := some { e with granted := true } } } := .same
  refine .ite (fun _ => ?_) fun _ => Posts.mono (j := 0) .same (by decide)
  refine (granted.trans (posts_changeTank _ _ _)).trans (asked _ _ ?_)
  rw [changeTank_tank_same]
  exact fun h => nomatch h

theorem posts_grantFlush (e : FlushEntry) (s : State) : Posts 1 s (grantFlush e s) := by
  have changed (n : FilterState) (v : State) : Posts 1 v (setFilter n v) := by
    unfold setFilter
    dsimp only
    exact .ite (fun _ => (Posts.refl v).mono (by decide)) fun _ => Posts.trans (j := 0) (k := 1) .same (.post _ _ _ _ _ _)
  have done (v : State) : Posts 0 v { v with filter := { v.filter with flowHold := 0 } } := .same
  unfold grantFlush flushStart
  exact Posts.trans (j := 1) (k := 0) (Posts.trans (j := 0) (k := 1) .same (changed _ _)) (done _)

/-! ### Grants (R86, R87) -/

/-- What the arbiter makes of the state: it waits and tells nothing, or a free line gets its owner, with at most three notices. -/
inductive Grants (s t : State) : Prop
  | waits (posts : Posts 0 s t) (line : s.line.owner ≠ .none → t.line.owner ≠ .none)
  | grants (free : s.line.owner = .none) (owned : t.line.owner ≠ .none) (posts : Posts 3 s t)

theorem Grants.refl (s : State) : Grants s s := .waits (.refl s) id

theorem Grants.trans (h : Grants s t) (h' : Grants t u) : Grants s u := by
  cases h with
  | waits posts line =>
    cases h' with
    | waits posts' line' => exact .waits (posts.trans posts') fun hs => line' (line hs)
    | grants free owned posts' => exact .grants (not_not.1 fun hs => line hs free) owned ((posts.trans posts').mono (by decide))
  | grants free owned posts =>
    cases h' with
    | waits posts' line' => exact .grants free (line' owned) (posts.trans posts')
    | grants free' => exact absurd free' owned

theorem Grants.ite {c : Prop} [Decidable c] (ht : c → Grants s t) (hu : ¬ c → Grants s u) : Grants s (if c then t else u) := by
  split
  · exact ht ‹_›
  · exact hu ‹_›

theorem Grants.posts (h : Grants s t) : Posts 3 s t := by
  cases h with
  | waits posts => exact posts.mono (by decide)
  | grants _ _ posts => exact posts

/-- A line in use lets nothing be told. -/
theorem Grants.posts_owned (h : Grants s t) (ho : s.line.owner ≠ .none) : Posts 0 s t := by
  cases h with
  | waits posts => exact posts
  | grants free => exact absurd free ho

theorem Line.owner_regen {l : Line} (h : l.regenGranted = true) : l.owner ≠ .none := by
  rw [Line.owner, if_pos h]
  exact Owner.noConfusion

theorem grants_grantFlush (ho : s.line.owner = .none) (e : FlushEntry) : Grants s (grantFlush e s) :=
  .grants ho (owner_granted (by rw [grantFlush_line]; rfl)) ((posts_grantFlush e s).mono (by decide))

/-- A decision grants, or waits, as long as no test can take its grant. -/
theorem grants_grantDecision (h : s.untestable) : Grants s (grantDecision s) := by
  refine .ite (fun hg => ?_) fun _ => .refl s
  obtain ⟨owner, -, opened⟩ := (grantAllowed_iff s).mp hg
  split
  next => exact .refl s
  next e _ => exact .grants owner (Line.owner_regen (by rw [grantRegen_line]; rfl)) (posts_grantRegen e s)
  next e _ => exact grants_grantFlush owner e
  next hw =>
    have unclaimed : s.leak.test.phase ≠ .claiming :=
      h.elim (absurd opened) fun h => h.resolve_left (Line.winner_test hw)
    have released : Grants s { s with line := { s.line with test := none } } := .waits .same (absurd owner)
    unfold grantTest
    rw [if_neg unclaimed]
    dsimp only
    split
    next e _ => exact released.trans (grants_grantFlush (Line.owner_without_test owner) e)
    next => exact released

/-! ### What grants leave of the valve and the Leak Monitor -/

theorem Reacts.rests {claims : Bool} (h : Reacts false claims s t) (hu : s.untestable) :
    t.valve = s.valve ∧ t.leak = s.leak ∧ t.supply = s.supply ∧ t.pins = s.pins ∧ t.untestable := by
  induction h with
  | refl => exact ⟨rfl, rfl, rfl, rfl, hu⟩
  | tail _ step ih =>
    obtain ⟨valve, leak, supply, pins, untestable⟩ := ih
    obtain ⟨valve', leak', supply', pins', untestable'⟩ := step.rests untestable
    exact ⟨valve'.trans valve, leak'.trans leak, supply'.trans supply, pins'.trans pins, untestable'⟩

theorem grants_keepClaim (h : s.untestable) (k : Tank) : Grants s (keepClaim k s) := by
  have pend (hr : s.line.regen = none) : Grants s (s.claiming k) ∧ (s.claiming k).untestable := by
    refine ⟨.waits .same fun ho => ?_, h⟩
    show ({ s.line with regen := some { granted := false, tank := k, continuation := false } } : Line).owner ≠ .none
    rw [Line.owner_claimed hr rfl]
    exact ho
  refine .ite (fun ⟨_, _, hr⟩ => ?_) fun _ => .refl s
  obtain ⟨pends, untestable⟩ := pend hr
  unfold claimRegen
  split
  · exact pends.trans (grants_grantDecision untestable)
  next e he => exact nomatch hr.symm.trans he

theorem grants_changeDecision (h : s.untestable) : Grants s (changeDecision s) := by
  obtain ⟨-, -, -, -, first⟩ := (reacts_keepClaim (claims := false) (.refl (a := s)) .a).rests h
  obtain ⟨-, -, -, -, both⟩ := (reacts_keepClaim (claims := false) (.refl (a := keepClaim .a s)) .b).rests first
  exact ((grants_keepClaim h .a).trans (grants_keepClaim first .b)).trans (grants_grantDecision both)

theorem grants_openedDecision (h : t.untestable) (s : State) : Grants t (openedDecision s t) :=
  .ite (fun _ => grants_changeDecision h) fun _ => .refl t

/-- Giving up a test's claim frees no line that another owns (R88). -/
theorem grants_giveUpTest (s : State) : Posts 3 s (giveUpTest s) ∧ (s.line.testGranted = false → Posts 0 s (giveUpTest s)) := by
  have freed : Posts 0 s { s with line := { s.line with test := none } } := .same
  have decided := (grants_grantDecision (s := { s with line := { s.line with test := none } }) (.inr (.inl rfl))).posts
  unfold giveUpTest
  refine ⟨.ite (fun _ => (freed.trans decided).mono (by decide)) fun _ => freed.mono (by decide), fun h => ?_⟩
  rw [h, if_neg Bool.false_ne_true]
  exact freed

end

end Sys2Proof.Machine

/-! The end of a pressure-hold test: what frees the line, and the result recorded. -/

namespace Sys2Proof.Machine

set_option Elab.async false

section
variable {c : Bool} {s t u : State}

/-! ### What a test's grant leaves behind (R138) -/

/-- The state with the test's reason and its claim withdrawn: steps 2 and 3 of R138. -/
def State.withdrawnTest (c : Bool) (s : State) : State := giveUpTest (if c = true then removeReason .test s else s)

/-- The close reasons with the test's own withdrawn, for a test that has the valve. -/
def Reasons.withdrawn (r : Reasons) (c : Bool) : Reasons := if c = true then { r with test := false } else r

/-- What the withdrawal of a test's claim leaves of the Leak Monitor and the valve. -/
structure Withdraws (c : Bool) (s t : State) : Prop where
  leak : t.leak = s.leak
  reasons : t.valve.reasons = s.valve.reasons.withdrawn c
  now : t.now = s.now

theorem giveUpTest_rests (s : State) : (giveUpTest s).valve = s.valve ∧ (giveUpTest s).leak = s.leak := by
  have rests := (reacts_grantDecision (own := false) (claims := false) (.refl (a := { s with line := { s.line with test := none } }))).rests
    (.inr (.inl rfl))
  obtain ⟨valve, leak, -⟩ := rests
  unfold giveUpTest
  split
  · exact ⟨valve, leak⟩
  · exact ⟨rfl, rfl⟩

theorem dropReason_leak (n : Reason) (s : State) : (dropReason n s).leak = s.leak := by
  rw [(valves_dropReason n s).others]
  rfl

/-- With no test in CLAIMING, the decision that a reason's removal brings leaves the Leak Monitor and the valve. -/
theorem removeReason_rests (n : Reason) (h : s.leak.test.phase ≠ .claiming) :
    (removeReason n s).valve = (dropReason n s).valve ∧ (removeReason n s).leak = s.leak := by
  have untestable : (dropReason n s).untestable := .inr (.inr (by rw [dropReason_leak]; exact h))
  obtain ⟨valve, leak, -⟩ := (reacts_openedDecision (own := false) (claims := false) (.refl (a := dropReason n s)) s).rests untestable
  exact ⟨valve, leak.trans (dropReason_leak n s)⟩

theorem now_of_clock (h : t.clock = s.clock) : t.now = s.now := by rw [State.now, State.now, h]

/-- The withdrawal of a test's claim. -/
theorem withdraws_withdrawnTest (h : c = true → s.leak.test.phase ≠ .claiming) : Withdraws c s (s.withdrawnTest c) := by
  have now (v : State) : (giveUpTest v).now = v.now := now_of_clock (congrArg Calm.clock (calm_giveUpTest v))
  unfold State.withdrawnTest
  cases c with
  | false =>
    obtain ⟨valve, leak⟩ := giveUpTest_rests s
    exact ⟨leak, congrArg Valve.reasons valve, now s⟩
  | true =>
    obtain ⟨valve, leak⟩ := giveUpTest_rests (removeReason .test s)
    obtain ⟨valve', leak'⟩ := removeReason_rests .test (h rfl)
    refine ⟨leak.trans leak', ?_, (now _).trans ?_⟩
    · show (giveUpTest (removeReason .test s)).valve.reasons = s.valve.reasons.put .test false
      rw [valve, valve', dropReason_reasons]
    · exact now_of_clock (latches_removeReason .test s).clock

/-! ### What it posts -/

theorem Line.owner_test {l : Line} (h : l.testGranted = true) : l.owner ≠ .none := by
  unfold Line.owner
  rw [h]
  split
  · exact Owner.noConfusion
  · split
    · exact Owner.noConfusion
    · exact Owner.noConfusion

/-- A grant to a test comes from the Leak Monitor's own claim alone. -/
theorem React.testGranted {claims : Bool} (h : React false claims s t) (hu : s.untestable) (ht : t.line.testGranted = true) :
    s.line.testGranted = true := by
  cases h with
  | untested => exact Bool.noConfusion ht
  | tests _ hg hp hn =>
    obtain ⟨-, -, opened⟩ := (grantAllowed_iff s).mp hg
    exact absurd hp (hu.elim (absurd opened) fun h => h.resolve_left hn)
  | shifts _ ho => cases ho
  | leak _ ho => cases ho
  | claimsTest ho => cases ho
  | supply _ ho => cases ho
  | pods _ ho => cases ho
  | stops ho => cases ho
  | _ => exact ht

theorem Reacts.testGranted {claims : Bool} (h : Reacts false claims s t) (hu : s.untestable) (ht : t.line.testGranted = true) :
    s.line.testGranted = true := by
  induction h with
  | refl => exact ht
  | tail h step ih => exact ih (step.testGranted (Reacts.rests h hu).2.2.2.2 ht)

/-- The withdrawal posts what the valve's way back does, and what one grant does. -/
theorem posts_withdrawnTest (h : c = true → s.leak.test.phase ≠ .claiming) : Posts 5 s (s.withdrawnTest c) := by
  unfold State.withdrawnTest
  cases c with
  | false => exact (grants_giveUpTest s).1.mono (by decide)
  | true =>
    have untestable : (dropReason .test s).untestable := .inr (.inr (by rw [dropReason_leak]; exact h rfl))
    have decided : Grants (dropReason .test s) (removeReason .test s) := grants_openedDecision untestable s
    have dropped := posts_dropReason .test s
    obtain ⟨given, kept⟩ := grants_giveUpTest (removeReason .test s)
    show Posts 5 s (giveUpTest (removeReason .test s))
    cases ht : (removeReason .test s).line.testGranted with
    | false => exact (dropped.trans decided.posts).trans (kept ht)
    | true =>
      have before : (dropReason .test s).line.testGranted = true :=
        Reacts.testGranted (reacts_openedDecision (claims := false) (.refl (a := dropReason .test s)) s) untestable ht
      exact (dropped.trans (decided.posts_owned (Line.owner_test before))).trans given

/-- A STUCK valve stays as a reason leaves the set (R142). -/
theorem dropReason_stuck (n : Reason) (h : s.valve.state = .stuck) : dropReason n s = s.withReason n false := by
  unfold dropReason
  dsimp only
  split
  · split
    next hs => exact nomatch h.symm.trans hs
    next hs => exact nomatch h.symm.trans hs
    next hs => exact nomatch h.symm.trans hs
    next => rfl
  · rfl

/-- A valve away from OPEN allows no grant (R86). -/
theorem grantDecision_closed (h : s.valve.state ≠ .opened) : grantDecision s = s :=
  if_neg fun hg => h ((grantAllowed_iff s).mp hg).2.2

/-- With the valve away from OPEN, and kept there, the withdrawal posts nothing and moves nothing. -/
theorem withdrawnTest_away (ha : s.valve.state ≠ .opened)
    (h : c = true → (s.valve.reasons.put .test false).any = true ∨ s.valve.state = .stuck) :
    Posts 0 s (s.withdrawnTest c) ∧ (s.withdrawnTest c).valve.state = s.valve.state := by
  have given (v : State) (hv : v.valve.state ≠ .opened) (hp : Posts 0 s v) : Posts 0 s (giveUpTest v) := by
    have freed : Posts 0 v { v with line := { v.line with test := none } } := .same
    have ungranted : grantDecision { v with line := { v.line with test := none } } = { v with line := { v.line with test := none } } :=
      
      grantDecision_closed hv
    unfold giveUpTest
    rw [ungranted, ite_self]
    exact hp.trans freed
  unfold State.withdrawnTest
  cases c with
  | false => exact ⟨given s ha (.refl s), congrArg Valve.state (giveUpTest_rests s).1⟩
  | true =>
    have dropped : dropReason .test s = s.withReason .test false := (h rfl).elim (dropReason_stays .test) (dropReason_stuck .test)
    have removed : removeReason .test s = s.withReason .test false := by
      rw [removeReason, dropped]
      exact openedDecision_none (.inl ha)
    show Posts 0 s (giveUpTest (removeReason .test s)) ∧ (giveUpTest (removeReason .test s)).valve.state = s.valve.state
    rw [removed]
    exact ⟨given _ ha .same, (congrArg Valve.state (giveUpTest_rests (s.withReason .test false)).1 : _ = (s.withReason .test false).valve.state)⟩

/-! ### The result recorded (R138) -/

theorem posts_requestDoneIf (j : Subject) (g : Option Byte) (k : Nat) (o : DoneOutcome) (v : Int) (s : State) :
    Posts 1 s (requestDoneIf j g k o v s) := by
  cases g with
  | none => exact (Posts.refl s).mono (by decide)
  | some t => exact .post _ _ _ _ _ _

/-- After the TEST_RESULT a result tells at most its request's end. -/
theorem posts_recordResult (r : TestResult) (v : Int) (p0 : Nat) (d : Int) (s : State) : Posts 2 s (recordResult r v p0 d s) := by
  have cued (w : State) : Posts 0 w (exerciseCue w) := .same (by rw [exerciseCue_others])
  unfold recordResult
  dsimp only
  have told := Posts.trans (j := 0) (k := 1) (s := s) .same (.post .testResult .none (testResultCode r) v p0 { s with
    leak := { s.leak with record := { s.leak.record with result := some r, time := s.now, p0 := p0, decay := d } } })
  have answered := told.trans (posts_requestDoneIf .none s.leak.test.tag kindPressureTest
    (if r = .pass ∨ r = .microleak then .done else .cancelled) 0 _)
  exact (answered.trans (k := 0) .same).trans (cued _)

/-- The TEST_RESULT stands in the queue, where there is room for it. -/
theorem recordResult_told (r : TestResult) (v : Int) (p0 : Nat) (d : Int) (hl : s.notices.queue.length < 24) :
    (recordResult r v p0 d s).notices.tells (s.resultTold r v p0) := by
  have cued (w : State) : (exerciseCue w).notices = w.notices := by rw [exerciseCue_others]
  have answered (g : Option Byte) (o : DoneOutcome) (w : State) (hw : w.notices = s.notices.post (s.resultTold r v p0)) :
      (requestDoneIf .none g kindPressureTest o 0 w).notices.tells (s.resultTold r v p0) := by
    obtain ⟨m, hm, kind, values⟩ := NoticeQueue.tells_post s.notices (s.resultTold r v p0) hl
    exact ⟨m, (posts_requestDoneIf _ _ _ _ _ w).keeps m (by rw [hw]; exact hm) (by rw [kind]; rfl), kind, values⟩
  unfold recordResult
  dsimp only
  rw [cued]
  exact answered _ _ _ rfl

/-- A test ends: its record, and the close reasons with its own withdrawn. -/
structure Finished (r : TestResult) (p0 : Nat) (d : Int) (c : Bool) (s t : State) : Prop where
  leak : t.leak = { s.leak with record := { s.leak.record with result := some r, time := s.now, p0 := p0, decay := d }, test := {} }
  reasons : t.valve.reasons = s.valve.reasons.withdrawn c
  state : t.valve.state = (s.withdrawnTest c).valve.state

variable {r : TestResult} {v : Int} {p0 : Nat} {d : Int}

/-- The withdrawal and the record end the test. -/
theorem recordResult_ends (h : c = true → s.leak.test.phase ≠ .claiming) : Finished r p0 d c s (recordResult r v p0 d (s.withdrawnTest c)) := by
  obtain ⟨leak, reasons, now⟩ := withdraws_withdrawnTest h
  obtain ⟨n, e⟩ := recordResult_others r v p0 d (s.withdrawnTest c)
  obtain ⟨state', reasons'⟩ := exerciseCue_rest (s.withdrawnTest c)
  refine ⟨?_, ?_, ?_⟩
  · rw [e]
    show { (s.withdrawnTest c).leak with record := { (s.withdrawnTest c).leak.record with
      result := some r, time := (s.withdrawnTest c).now, p0 := p0, decay := d }, test := {} } = _
    rw [leak, now]
  · rw [e]
    exact reasons'.trans reasons
  · rw [e]
    exact state'

/-- The result is told, when what comes before it leaves room. -/
theorem recordResult_tellsEnd {w : State} (h : c = true → s.leak.test.phase ≠ .claiming) {n : Nat} (hp : Posts n s (s.withdrawnTest c))
    {k : Nat} (hw : Posts k w s) (hn : s.now = w.now) (hk : k + n ≤ 8) :
    Told .testResult (testResultCode r) v p0 w (recordResult r v p0 d (s.withdrawnTest c)) := by
  have now := (withdraws_withdrawnTest h).now
  refine Told.since (t := s.withdrawnTest c) (fun hl => ?_) ((hw.trans hp).mono hk) (now.trans hn)
  exact recordResult_told r v p0 d hl

end

end Sys2Proof.Machine

/-! A test abandoned (R137): by a cause latched, a pod lost, the supply, and a valve that becomes STUCK. -/

namespace Sys2Proof.Machine

set_option Elab.async false

section
variable {s t u w : State} {c : Cause} {d : Int} {n : Nat}

/-! ### A cause latched in a test (R128, R129, R137) -/

/-- Latching a cause changes the latch alone in the Leak Monitor. -/
theorem latchCore_leak (c : Cause) (d : Int) (s : State) : (latchCore c d s).leak = { s.leak with latch := (latchCore c d s).leak.latch } := by
  have added (v : State) : (addReason .trip v).leak = v.leak := by
    rw [(valves_addReason .trip v).others]
    rfl
  unfold latchCore
  split
  · dsimp only
    split
    · rw [added]
      rfl
    · rfl
  · split
    · rfl
    · rfl

/-- A cause latched tells its LEAK_TRIP, or as a first one also closes the valve (R128, R129). -/
theorem posts_latchCore (c : Cause) (d : Int) (s : State) : Posts 1 s (latchCore c d s)
    ∨ Posts 5 s (latchCore c d s) ∧ (latchCore c d s).valve.state ≠ .opened ∧ (latchCore c d s).valve.reasons.trip = true := by
  have tripped : Posts 1 s (s.tripped c d) := Posts.trans (j := 0) (k := 1) .same (.post _ _ _ _ _ _)
  have further (l : Trip) (v : Int) : Posts 1 s (post .leakTrip (causeSubject c) (causeCode c) d v
      { s with leak := { s.leak with latch := some l } }) :=
    Posts.trans (j := 0) (k := 1) .same (.post _ _ _ _ _ _)
  cases hl : s.leak.latch with
  | none =>
    rw [latchCore_first hl]
    split
    · refine (posts_addReason .trip (s.tripped c d)).imp (fun h => tripped.trans h) fun ⟨h, away⟩ => ⟨tripped.trans h, away, ?_⟩
      rw [addReason_reasons]
      rfl
    · exact .inl tripped
  | some l =>
    unfold latchCore
    rw [hl]
    exact .inl (.ite (fun _ => (Posts.refl s).mono (by decide)) fun _ => further _ _)

/-- What a cause and the withdrawal of the test after it post. -/
theorem posts_latchCore_withdrawn (c : Cause) (d : Int) {b : Bool} (h : b = true → s.leak.test.phase ≠ .claiming) :
    Posts 6 s ((latchCore c d s).withdrawnTest b) := by
  have unclaimed : b = true → (latchCore c d s).leak.test.phase ≠ .claiming := by
    rw [latchCore_test]
    exact h
  rcases posts_latchCore c d s with posts | ⟨posts, away, trip⟩
  · exact posts.trans (posts_withdrawnTest unclaimed)
  · have held : ((latchCore c d s).valve.reasons.put .test false).any = true := by
      simp only [Reasons.put, Reasons.any, trip, Bool.true_or]
    exact (posts.trans (withdrawnTest_away away fun _ => .inl held).1).mono (by decide)

theorem latchCore_now (c : Cause) (d : Int) (s : State) : (latchCore c d s).now = s.now := now_of_clock (latchCore_latches c d s).1.clock

/-! ### Abandonment (R137, R138) -/

theorem TestPhase.unclaimed {p : TestPhase} (h : p.closes = true) : p ≠ .claiming := by
  rintro rfl
  cases h

theorem TestPhase.running {p : TestPhase} (h : p.closes = true) : p ≠ .idle := by
  rintro rfl
  cases h

/-- The test that runs in `s` is abandoned for a reason, with its result told and recorded (R137, R138). -/
structure Abandons (n : Nat) (s u : State) : Prop where
  test : u.leak.test = {}
  reasons : s.leak.test.phase.closes = true → u.valve.reasons.test = false
  record : u.leak.record = { s.leak.record with result := some .abandoned, time := s.now, p0 := s.leak.test.p0, decay := 0 }
  told : Told .testResult 3 n (s.leak.test.p0 : Nat) s u

theorem abandonTest_eq (r : EndReason) (h : w.leak.test.phase ≠ .idle) : abandonTest r w =
    recordResult .abandoned (endReasonCode r) w.leak.test.p0 0 (w.withdrawnTest w.leak.test.phase.closes) := if_neg h

/-- What has changed on the way to the end of a test: neither the test nor its record, and at most eight notices. -/
structure Nearly (s w : State) : Prop where
  test : w.leak.test = s.leak.test
  record : w.leak.record = s.leak.record
  now : w.now = s.now
  room : Posts 8 s (w.withdrawnTest w.leak.test.phase.closes)

/-- Abandoning the test at such a state. -/
theorem Nearly.abandons (h : Nearly s w) (hp : s.leak.test.phase ≠ .idle) (r : EndReason) : Abandons (endReasonCode r) s (abandonTest r w)
    ∧ (abandonTest r w).valve.state = (w.withdrawnTest w.leak.test.phase.closes).valve.state := by
  obtain ⟨test, record, now, room⟩ := h
  have finished : Finished .abandoned w.leak.test.p0 0 w.leak.test.phase.closes w
      (recordResult .abandoned (endReasonCode r) w.leak.test.p0 0 (w.withdrawnTest w.leak.test.phase.closes)) :=
    recordResult_ends TestPhase.unclaimed
  have kept := (withdraws_withdrawnTest (s := w) (c := w.leak.test.phase.closes) TestPhase.unclaimed).now.trans now
  have told := Told.since (recordResult_told .abandoned (endReasonCode r) w.leak.test.p0 0) room kept
  obtain ⟨leak, reasons, state⟩ := finished
  rw [abandonTest_eq r (by rw [test]; exact hp)]
  refine ⟨⟨congrArg Leak.test leak, fun hc => ?_, ?_, ?_⟩, state⟩
  · rw [reasons, test, hc]
    rfl
  · rw [leak, record, now, test]
  · rw [← test]
    exact told

/-- What follows an abandonment leaves it, when it touches neither the Leak Monitor nor the test's reason. -/
theorem Abandons.after (h : Abandons n s t) {k : Nat} (hp : Posts k t u) (hl : u.leak = t.leak)
    (hr : u.valve.reasons.test = t.valve.reasons.test) : Abandons n s u := by
  obtain ⟨test, reasons, record, told⟩ := h
  exact ⟨by rw [hl]; exact test, fun hc => hr.trans (reasons hc), by rw [hl]; exact record, told.posts rfl hp⟩

/-- A cause latched abandons the test (R128, R137). -/
theorem abandons_latchCause (hp : s.leak.test.phase ≠ .idle) (hw : w.leak = s.leak) (hn : w.now = s.now) (hq : Posts 2 s w)
    (hl : latched c s = false) : Abandons 1 s (latchCause c d w) := by
  have unlatched : latched c w = false := by
    unfold latched
    rw [hw]
    exact hl
  have test := latchCore_test c d w
  have core : Nearly s (latchCore c d w) := by
    refine ⟨?_, ?_, (latchCore_now c d w).trans hn, ?_⟩
    · rw [test, hw]
    · rw [latchCore_leak, hw]
    · rw [test]
      exact hq.trans (posts_latchCore_withdrawn c d TestPhase.unclaimed)
  unfold latchCause
  rw [unlatched, if_neg Bool.false_ne_true]
  exact (core.abandons hp .trip).1

/-- A pod that is lost, told (R160). -/
theorem posts_losing (n : Fin 8) (s : State) : Posts 2 s (s.losing n) := by
  have put : Posts 0 s (s.withSlot n (s.slot n).gone) := .same
  have told (v : State) : Posts 1 v (postPod n v) := .post _ _ _ _ _ _
  have reported (v : State) : Posts 1 v (faultReport .podLost (.slot n) (s.slot n).serialNat v) :=
    Posts.trans (j := 0) (k := 1) .same (.post _ _ _ _ _ _)
  exact (put.trans (told _)).trans (reported _)

/-! ### A valve that becomes STUCK (R137, R144, R146) -/

/-- A valve that becomes STUCK in a test abandons it. -/
theorem abandons_valveStuck {k : StuckCause} (hc : s.leak.test.phase.closes = true) (hw : w.leak = s.leak) (hn : w.now = s.now)
    (hq : w.notices = s.notices) : Abandons 6 s (valveStuck k d w) ∧ (valveStuck k d w).valve.state = .stuck := by
  have leak : (valveStuckCore k d w).leak = s.leak := by
    rw [(valves_valveStuckCore k d w).others]
    exact hw
  have clock : (valveStuckCore k d w).clock = w.clock := by rw [(valves_valveStuckCore k d w).others]
  have stuck : (valveStuckCore k d w).valve.state = .stuck := by rw [valveStuckCore_valve]
  have posts : Posts 5 s (valveStuckCore k d w) := (Posts.same hq).trans (posts_valveStuckCore k d w)
  have closes : (valveStuckCore k d w).leak.test.phase.closes = true := by
    rw [leak]
    exact hc
  unfold valveStuck abandonClosing
  rw [if_pos closes]
  generalize valveStuckCore k d w = v at leak clock stuck posts
  obtain ⟨away, state⟩ := withdrawnTest_away (c := v.leak.test.phase.closes) (by rw [stuck]; exact ValveState.noConfusion) fun _ => .inr stuck
  have nearly : Nearly s v := ⟨congrArg Leak.test leak, congrArg Leak.record leak, (now_of_clock clock).trans hn,
    (posts.trans away).mono (by decide)⟩
  obtain ⟨abandons, kept⟩ := nearly.abandons (TestPhase.running hc) .valve
  exact ⟨abandons, kept.trans (state.trans stuck)⟩

theorem attemptFails_stucks {e : ValveEnd} (stall : Bool) (hx : s.valve.exercise ≠ .closeRun) (hd : s.valve.drive = driveTo e)
    (h2 : s.valve.second = true) : attemptFails stall s = valveStuck (.stuck (failureDetail e stall)) (failureDetail e stall) s := by
  simp only [attemptFails, hd, driveEnd_driveTo, hx, h2, if_false, if_true]

/-! ### A supply that leaves MAINS (R137, R151) -/

/-- A change of the supply away from MAINS abandons a test that has the valve. -/
theorem abandons_supplyChange {m : SupplyState} (hm : m = .battery ∨ m = .batteryLow) (hs : w.supply.state = .mains)
    (hc : s.leak.test.phase.closes = true) (hw : w.leak = s.leak) (hn : w.now = s.now) (hq : w.notices = s.notices) :
    Abandons 5 s (supplyChange m w) := by
  have cut (v : State) : (flushCut v).leak = v.leak ∧ (flushCut v).clock = v.clock := by
    rw [(valves_flushCut v).others]
    exact ⟨rfl, rfl⟩
  have told : Posts 1 s (w.supplied m) := by
    rw [supplied_told (by rw [hs]; exact SupplyState.noConfusion)]
    exact ((Posts.same hq).trans (k := 0) .same).trans (.post _ _ _ _ _ _)
  have same : (w.supplied m).leak = s.leak ∧ (w.supplied m).now = s.now := by
    rw [supplied_told (by rw [hs]; exact SupplyState.noConfusion)]
    exact ⟨hw, hn⟩
  obtain ⟨leak, now⟩ := same
  have left : Abandons 5 s (mainsLeft (w.supplied m)) := by
    generalize w.supplied m = v at told leak now
    obtain ⟨leak', clock'⟩ := cut v
    have kept := leak'.trans leak
    unfold mainsLeft abandonClosing
    rw [if_pos (by rw [kept]; exact hc)]
    have posts := told.trans (posts_flushCut v)
    have nearly : Nearly s (flushCut v) := ⟨congrArg Leak.test kept, congrArg Leak.record kept, (now_of_clock clock').trans now,
      posts.trans (posts_withdrawnTest TestPhase.unclaimed)⟩
    exact (nearly.abandons (TestPhase.running hc) .supply).1
  have changed := supplyChange_eq (s := w) (n := m) (by rw [hs]; rcases hm with rfl | rfl <;> exact SupplyState.noConfusion)
  rcases hm with rfl | rfl
  · rw [changed]
    show Abandons 5 s (if w.supply.state = .mains then mainsLeft (w.supplied .battery) else w.supplied .battery)
    rw [if_pos hs]
    exact left
  · rw [changed]
    show Abandons 5 s (lowEntered (if w.supply.state = .mains then mainsLeft (w.supplied .batteryLow) else w.supplied .batteryLow))
    rw [if_pos hs]
    generalize mainsLeft (w.supplied .batteryLow) = v at left
    have reported : Posts 1 v (faultReport .batteryLow .none v.supply.battery v) := Posts.trans (j := 0) (k := 1) .same (.post _ _ _ _ _ _)
    have first : Abandons 5 s (faultReport .batteryLow .none v.supply.battery v) := left.after reported rfl rfl
    unfold lowEntered
    dsimp only
    generalize faultReport .batteryLow .none v.supply.battery v = x at first
    split
    · have posts : Posts 4 x (addReason .lowBattery x) := (posts_addReason .lowBattery x).elim (fun h => h.mono (by decide)) fun h => h.1
      refine first.after posts ?_ ?_
      · rw [(valves_addReason .lowBattery x).others]
        rfl
      · rw [addReason_reasons]
        rfl
    · exact first

/-! ### The events that abandon a test (R137) -/

/-- A pod lost under its action CLOSE latches, and abandons the test. -/
theorem podLost_abandons {n : Fin 8} (hp : s.leak.test.phase ≠ .idle) (hst : (s.slot n).state = .active ∨ (s.slot n).state = .missing)
    (hm : 10 ≤ (s.slot n).missed) (ha : s.settings.user.leak.podLostAction = .close) (hl : latched (.podLost n) s = false) :
    Abandons 1 s (podLost n s) := by
  rw [podLost_eq hst hm, if_pos ha]
  exact abandons_latchCause hp rfl rfl (posts_losing n s) hl

theorem mainsLoss_abandons (hc : s.leak.test.phase.closes = true) (hs : s.supply.state = .mains) (hb : s.supply.below105 < 10) :
    Abandons 5 s (mainsLoss s) := by
  have next : stateOnLoss s.supply = .battery ∨ stateOnLoss s.supply = .batteryLow := by
    unfold stateOnLoss
    rw [if_neg (Nat.not_le.2 hb)]
    split
    · exact .inr rfl
    · exact .inl rfl
  unfold mainsLoss
  dsimp only
  rw [if_pos hs]
  exact abandons_supplyChange next hs hc rfl rfl rfl

theorem bothSwitchesMade_abandons (hc : s.leak.test.phase.closes = true) (hb : s.pins.bothMade = false) :
    Abandons 6 s (bothSwitchesMade s) ∧ (bothSwitchesMade s).valve.state = .stuck := by
  unfold bothSwitchesMade switchFault
  rw [hb, if_neg Bool.false_ne_true]
  exact abandons_valveStuck hc rfl rfl rfl

/-- A second attempt that fails, by time or by stall, abandons the test. -/
theorem attempts_abandon {e : ValveEnd} (hc : s.leak.test.phase.closes = true) (hd : s.valve.drive = driveTo e) (h2 : s.valve.second = true)
    (hx : s.valve.exercise ≠ .closeRun) :
    (Abandons 6 s (travelLimitReached s) ∧ (travelLimitReached s).valve.state = .stuck)
    ∧ Abandons 6 s (valveStalled s) ∧ (valveStalled s).valve.state = .stuck := by
  constructor
  · rw [travelLimitReached_driven hx hd,
      attemptFails_stucks (s := { s with valve := { s.valve with travel := s.settings.inst.travelLimit } }) false hx hd h2]
    exact abandons_valveStuck hc rfl rfl rfl
  · rw [valveStalled_driven hx hd, attemptFails_stucks (s := { s with valve := { s.valve with overcurrent := 500 } }) true hx hd h2]
    exact abandons_valveStuck hc rfl rfl rfl

end

end Sys2Proof.Machine

/-! The phases of the pressure-hold test, and its result (R134 to R139). -/

namespace Sys2Proof.Machine

set_option Elab.async false

section
variable {s : State}

/-! ### Phases (R134, R135) -/

theorem claimWaitExpiry_idle (h : s.leak.test.phase ≠ .claiming ∨ s.leak.test.wait < 1800) : claimWaitExpiry s = s :=
  if_neg fun hc => h.elim (fun hn => hn hc.1) fun hn => Nat.not_le.2 hn hc.2

theorem testSettle_idle (h : s.leak.test.phase ≠ .closing ∨ s.valve.state ≠ .closed) : testSettle s = s :=
  if_neg fun hc => h.elim (fun hn => hn hc.1) fun hn => hn hc.2

theorem holdBegin_idle (h : s.leak.test.phase ≠ .settle ∨ s.leak.test.settle < 10) : holdBegin s = s :=
  if_neg fun hc => h.elim (fun hn => hn hc.1) fun hn => Nat.not_le.2 hn hc.2

theorem holdEnd_idle (h : s.leak.test.phase ≠ .hold ∨ s.leak.test.hold < s.leak.test.duration) : holdEnd s = s := by
  unfold holdEnd
  dsimp only
  exact if_neg fun hc => h.elim (fun hn => hn hc.1) fun hn => Nat.not_le.2 hn hc.2

theorem holdBegin_holds (hp : s.leak.test.phase = .settle) (ht : 10 ≤ s.leak.test.settle) (hh : s.filter.p3.held = false) :
    holdBegin s = { s with leak := { s.leak with test := { s.leak.test with
      phase := .hold, hold := 0, p0 := s.filter.p3.reading, window := [s.filter.p3.reading] } } } :=
  (if_pos ⟨hp, ht⟩).trans (if_neg (by rw [hh]; exact Bool.false_ne_true))

theorem holdBegin_abandons (hp : s.leak.test.phase = .settle) (ht : 10 ≤ s.leak.test.settle) (hh : s.filter.p3.held = true) :
    holdBegin s = abandonTest .sensor s := (if_pos ⟨hp, ht⟩).trans (if_pos hh)

/-- A test whose claim has waited its time is SKIPPED, and its pending claim leaves the table (R134). -/
theorem claimWaitExpiry_skips (hp : s.leak.test.phase = .claiming) (hw : 1800 ≤ s.leak.test.wait)
    (hl : s.line.test = some { granted := false }) :
    claimWaitExpiry s = recordResult .skipped 4 s.leak.test.p0 0 { s with line := { s.line with test := none } } := by
  have ungranted : s.line.testGranted = false := by
    rw [Line.testGranted, hl]
  have withdrawn : s.withdrawnTest s.leak.test.phase.closes = { s with line := { s.line with test := none } } := by
    rw [hp]
    show giveUpTest s = _
    exact if_neg (by rw [ungranted]; exact Bool.false_ne_true)
  rw [← withdrawn]
  exact if_pos ⟨hp, hw⟩

/-! ### The result of HOLD (R136, R139) -/

/-- The decay of a HOLD that has reached its time (R136). -/
def TestRun.fall (t : TestRun) : Int := (t.p0 : Int) - (t.window.getLast?.getD t.p0 : Nat)

/-- The result of a HOLD that has reached its time (R136). -/
def TestRun.result (t : TestRun) : TestResult := if (t.decay : Int) ≤ t.fall then .microleak else .pass

/-- The state with the count of microleaks at `n` (R139). -/
def State.leaking (n : Nat) (s : State) : State := { s with leak := { s.leak with record := { s.leak.record with microleaks := n } } }

/-- The MICROLEAK notice of the count `n` (R139). -/
def State.leakTold (n : Nat) (d : Int) (s : State) : State := post .microleak .none n d s.leak.test.p0 (s.leaking n)

theorem microleakResult_told {d : Int} (h : 3 ≤ min 255 (s.leak.record.microleaks + 1)) : microleakResult .microleak d s =
    if s.settings.user.leak.microleakAction = .close then latchCore .microleak d (s.leakTold (min 255 (s.leak.record.microleaks + 1)) d)
    else s.leakTold (min 255 (s.leak.record.microleaks + 1)) d := by
  unfold microleakResult
  exact if_pos h

theorem microleakResult_counts {d : Int} (h : ¬ 3 ≤ min 255 (s.leak.record.microleaks + 1)) :
    microleakResult .microleak d s = s.leaking (min 255 (s.leak.record.microleaks + 1)) := by
  unfold microleakResult
  exact if_neg h

theorem holdEnd_ends (hp : s.leak.test.phase = .hold) (hd : s.leak.test.duration ≤ s.leak.test.hold) :
    holdEnd s = recordResult s.leak.test.result s.leak.test.fall s.leak.test.p0 s.leak.test.fall
      ((microleakResult s.leak.test.result s.leak.test.fall s).withdrawnTest true) := by
  have closes : s.leak.test.phase.closes = true := by rw [hp]; rfl
  have ended : holdEnd s = endTest s.leak.test.result s.leak.test.fall s.leak.test.fall s := if_pos ⟨hp, hd⟩
  rw [ended, ← closes]
  rfl

/-- What a result makes of the microleak count, before the test's claim is withdrawn (R139). -/
structure Tallied (n : Nat) (s w : State) : Prop where
  test : w.leak.test = s.leak.test
  record : w.leak.record = { s.leak.record with microleaks := n }
  now : w.now = s.now
  room : Posts 8 s (w.withdrawnTest true)

variable {n : Nat} {d : Int}

theorem tallied_leaking (h : s.leak.test.phase ≠ .claiming) : Tallied n s (s.leaking n) := by
  have same : Posts 0 s (s.leaking n) := .same
  exact ⟨rfl, rfl, rfl, (same.trans (posts_withdrawnTest fun _ => h)).mono (by decide)⟩

theorem posts_leakTold (n : Nat) (d : Int) (s : State) : Posts 1 s (s.leakTold n d) := Posts.trans (j := 0) (k := 1) .same (.post _ _ _ _ _ _)

theorem tallied_leakTold (h : s.leak.test.phase ≠ .claiming) : Tallied n s (s.leakTold n d) :=
  ⟨rfl, rfl, rfl, ((posts_leakTold n d s).trans (posts_withdrawnTest fun _ => h)).mono (by decide)⟩

theorem tallied_latchCore (h : s.leak.test.phase ≠ .claiming) : Tallied n s (latchCore .microleak d (s.leakTold n d)) := by
  refine ⟨(latchCore_test _ _ _).trans rfl, ?_, latchCore_now _ _ _, ?_⟩
  · rw [latchCore_leak]
    rfl
  · exact ((posts_leakTold n d s).trans (posts_latchCore_withdrawn _ _ fun _ => h)).mono (by decide)

/-- The test ends with its result at such a state. -/
theorem Tallied.ends {w : State} (h : Tallied n s w) (hp : s.leak.test.phase ≠ .claiming) (r : TestResult) (p0 : Nat) :
    Finished r p0 d true w (recordResult r d p0 d (w.withdrawnTest true))
    ∧ Told .testResult (testResultCode r) d p0 s (recordResult r d p0 d (w.withdrawnTest true))
    ∧ Posts 8 s (w.withdrawnTest true) := by
  obtain ⟨test, record, now, room⟩ := h
  have unclaimed : true = true → w.leak.test.phase ≠ .claiming := fun _ => by rw [test]; exact hp
  exact ⟨recordResult_ends unclaimed, Told.since (recordResult_told r d p0 d) room ((withdraws_withdrawnTest unclaimed).now.trans now), room⟩

/-- The MICROLEAK notice stands at the end of the test. -/
theorem leakTold_told {k : Nat} {u : State} (hp : Posts k (s.leakTold n d) u) : Told .microleak n d (s.leak.test.p0 : Nat) s u := by
  have told : Told .microleak n d (s.leak.test.p0 : Nat) s (s.leakTold n d) := fun hl =>
    NoticeQueue.tells_post s.notices
      { kind := .microleak, subject := .none, stamp := s.now, v1 := n, v2 := d, v3 := s.leak.test.p0 } (Nat.lt_trans hl (by decide))
  exact told.posts rfl hp

end

end Sys2Proof.Machine

/-! The end of HOLD: PASS or MICROLEAK, with the notice and the latch (R136, R138, R139). -/

namespace Sys2Proof.Machine

set_option Elab.async false

section
variable {n : Nat} {d : Int} {r : TestResult} {s w u : State}

/-- A test that ended in HOLD with the result `r`, its decay `d` and the count of microleaks at `n`; `w` is the state as the count was taken. -/
structure Resulted (r : TestResult) (d : Int) (n : Nat) (s w u : State) : Prop where
  test : u.leak.test = {}
  reason : u.valve.reasons.test = false
  record : u.leak.record = { result := some r, time := s.now, p0 := s.leak.test.p0, decay := d, microleaks := n }
  told : Told .testResult (testResultCode r) d (s.leak.test.p0 : Nat) s u
  latch : u.leak.latch = w.leak.latch
  trip : u.valve.reasons.trip = w.valve.reasons.trip
  posts : Posts 7 w u

theorem Tallied.resulted (h : Tallied n s w) (hp : s.leak.test.phase ≠ .claiming) (r : TestResult) (d : Int) :
    Resulted r d n s w (recordResult r d s.leak.test.p0 d (w.withdrawnTest true)) := by
  obtain ⟨⟨leak, reasons, -⟩, told, -⟩ := h.ends (d := d) hp r s.leak.test.p0
  obtain ⟨test, record, now, -⟩ := h
  have unclaimed : true = true → w.leak.test.phase ≠ .claiming := fun _ => by rw [test]; exact hp
  have withdrawn := posts_withdrawnTest unclaimed
  have recorded := posts_recordResult r d s.leak.test.p0 d (w.withdrawnTest true)
  refine ⟨congrArg Leak.test leak, congrArg Reasons.test reasons, ?_, told, by rw [leak], by rw [reasons]; rfl,
    withdrawn.trans recorded⟩
  rw [leak, record, now]

theorem TestRun.result_microleak {t : TestRun} (h : (t.decay : Int) ≤ t.fall) : t.result = .microleak := if_pos h

theorem TestRun.result_pass {t : TestRun} (h : ¬ (t.decay : Int) ≤ t.fall) : t.result = .pass := if_neg h

/-- The count of microleaks after a MICROLEAK (R139). -/
def TestRecord.next (r : TestRecord) : Nat := min 255 (r.microleaks + 1)

variable (hp : s.leak.test.phase = .hold) (hd : s.leak.test.duration ≤ s.leak.test.hold)
include hp

theorem hold_unclaimed : s.leak.test.phase ≠ .claiming := by
  rw [hp]
  exact TestPhase.noConfusion

include hd

theorem holdEnd_pass (h : ¬ (s.leak.test.decay : Int) ≤ s.leak.test.fall) :
    Resulted .pass s.leak.test.fall 0 s (s.leaking 0) (holdEnd s) := by
  rw [holdEnd_ends hp hd, TestRun.result_pass h]
  exact (tallied_leaking (hold_unclaimed hp)).resulted (hold_unclaimed hp) .pass s.leak.test.fall

variable (h : (s.leak.test.decay : Int) ≤ s.leak.test.fall)
include h

/-- A MICROLEAK under the count of three posts no notice of its own, and latches nothing (R139). -/
theorem holdEnd_few (hn : ¬ 3 ≤ s.leak.record.next) :
    Resulted .microleak s.leak.test.fall s.leak.record.next s (s.leaking s.leak.record.next) (holdEnd s) := by
  rw [holdEnd_ends hp hd, TestRun.result_microleak h, microleakResult_counts hn]
  exact (tallied_leaking (hold_unclaimed hp)).resulted (hold_unclaimed hp) .microleak s.leak.test.fall

/-- From the third MICROLEAK on the notice is posted (R139). -/
theorem holdEnd_tells (hn : 3 ≤ s.leak.record.next) (ha : s.settings.user.leak.microleakAction ≠ .close) :
    Resulted .microleak s.leak.test.fall s.leak.record.next s (s.leakTold s.leak.record.next s.leak.test.fall) (holdEnd s) := by
  rw [holdEnd_ends hp hd, TestRun.result_microleak h, microleakResult_told hn, if_neg ha]
  exact (tallied_leakTold (hold_unclaimed hp)).resulted (hold_unclaimed hp) .microleak s.leak.test.fall

/-- Under the action CLOSE it is also latched (R139). -/
theorem holdEnd_latches (hn : 3 ≤ s.leak.record.next) (ha : s.settings.user.leak.microleakAction = .close) :
    Resulted .microleak s.leak.test.fall s.leak.record.next s
      (latchCore .microleak s.leak.test.fall (s.leakTold s.leak.record.next s.leak.test.fall)) (holdEnd s) := by
  rw [holdEnd_ends hp hd, TestRun.result_microleak h, microleakResult_told hn, if_pos ha]
  exact (tallied_latchCore (hold_unclaimed hp)).resulted (hold_unclaimed hp) .microleak s.leak.test.fall

omit hp hd h in
/-- A MICROLEAK latched: the first cause, or a further one (R128, R129). -/
theorem latchCore_leakTold (n : Nat) (d : Int) (s : State) :
    (s.leak.latch = none → (latchCore .microleak d (s.leakTold n d)).leak.latch = some {
        first := .microleak, time := s.now, detail := d, further := []
        litres := if s.leak.detector.active.isSome then s.leak.detector.volume / 1000 else 0 }
      ∧ (s.settings.user.leak.action = .close → (latchCore .microleak d (s.leakTold n d)).valve.reasons.trip = true))
    ∧ ∀ l, s.leak.latch = some l → (latchCore .microleak d (s.leakTold n d)).leak.latch =
        some (if l.first = .microleak ∨ .microleak ∈ l.further then l else { l with further := l.further ++ [.microleak] }) := by
  have latch := (latchCore_latches .microleak d (s.leakTold n d)).2
  refine ⟨fun hn => ⟨latch.trans (congrArg some (latchAfter_first (s := s.leakTold n d) hn)), fun ha => ?_⟩,
    fun l hl => latch.trans (congrArg some (latchAfter_further (s := s.leakTold n d) hl))⟩
  rw [latchCore_first (s := s.leakTold n d) hn]
  have close : (s.leakTold n d).settings.user.leak.action = .close := ha
  rw [if_pos close, addReason_reasons]
  rfl

end

/-- R134 to R139: the events of a test's phases. -/
theorem testEvents {s : State} (h : s.stopped = false) :
    let t := s.leak.test
    (t.phase = .claiming → 1800 ≤ t.wait → s.line.test = some { granted := false } →
        ∃ u, exec .claimWaitExpiry s = commit s (follow u) ∧ u.leak.test = {} ∧ u.line = { s.line with test := none }
          ∧ u.leak.record = { s.leak.record with result := some .skipped, time := s.now, p0 := t.p0, decay := 0 }
          ∧ u.leak.latch = s.leak.latch ∧ u.valve.reasons = s.valve.reasons ∧ u.valve.state = s.valve.state
          ∧ Told .testResult 2 4 (t.p0 : Nat) s u)
    ∧ (t.phase = .settle → 10 ≤ t.settle → s.filter.p3.held = true → ∃ u, exec .holdBegin s = commit s (follow u)
        ∧ u.leak.test = {} ∧ u.valve.reasons = { s.valve.reasons with test := false }
        ∧ u.leak.record = { s.leak.record with result := some .abandoned, time := s.now, p0 := t.p0, decay := 0 }) := by
  refine ⟨fun hp hw hl => ?_, fun hp ht hh => ?_⟩
  · obtain ⟨n, e⟩ := recordResult_others .skipped 4 s.leak.test.p0 0 { s with line := { s.line with test := none } }
    have told := recordResult_told (s := { s with line := { s.line with test := none } }) .skipped 4 s.leak.test.p0 0
    obtain ⟨state, reasons⟩ := exerciseCue_rest { s with line := { s.line with test := none } }
    have skips := claimWaitExpiry_skips hp hw hl
    rw [e] at told skips
    refine ⟨_, event_leaves h skips, rfl, rfl, rfl, rfl, reasons, state, fun hq => told (Nat.lt_trans hq (by decide))⟩
  · have closes : s.leak.test.phase.closes = true := by rw [hp]; rfl
    have running := TestPhase.running closes
    have finished := recordResult_ends (s := s) (r := .abandoned) (v := endReasonCode .sensor) (p0 := s.leak.test.p0) (d := 0)
      (c := s.leak.test.phase.closes) TestPhase.unclaimed
    rw [← abandonTest_eq .sensor running, ← holdBegin_abandons hp ht hh] at finished
    obtain ⟨leak, withdrawn, -⟩ := finished
    refine ⟨_, event_leaves h rfl, congrArg Leak.test leak, ?_, ?_⟩
    · rw [withdrawn, closes]
      rfl
    · rw [leak]

end Sys2Proof.Machine

/-! A second of the pressure-hold test: its sample, and what the second leaves of the test (R136, R137). -/

namespace Sys2Proof.Machine

set_option Elab.async false

section
variable {x : SecondInputs} {f : Bool} {s m d k : State}

/-! ### The stages before the test -/

/-- Away from OPEN an exercise begins nothing: its phase and its time alone change (R149). -/
theorem exerciseSecond_others (h : s.valve.state ≠ .opened) :
    ∃ e n, exerciseSecond s = { s with valve := { s.valve with exercise := e, exerciseTime := n } } := by
  have idle (v : State) (hv : v.valve.state ≠ .opened) : exerciseStart v = v :=
    if_neg fun ⟨_, hr⟩ => by
      simp only [exerciseReady, Bool.and_eq_true, beq_iff_eq] at hr
      exact hv hr.1.1.1.2
  unfold exerciseSecond
  split
  · rw [idle]
    · unfold armedExpiry
      split
      · exact ⟨.none, s.valve.exerciseTime + 1, rfl⟩
      · exact ⟨s.valve.exercise, s.valve.exerciseTime + 1, rfl⟩
    · exact h
  · exact ⟨s.valve.exercise, _, rfl⟩
  · exact ⟨s.valve.exercise, s.valve.exerciseTime, rfl⟩

/-- What the stages before the test leave of a HOLD in a closed valve. -/
structure Held (s d : State) : Prop where
  test : d.leak.test = s.leak.test
  record : d.leak.record = s.leak.record
  state : d.valve.state = s.valve.state
  reasons : d.valve.reasons = s.valve.reasons
  p3 : d.filter.p3 = s.filter.p3
  supply : d.supply.state = s.supply.state
  settings : d.settings = s.settings
  second : d.clock.second = s.clock.second

/-- The state in which the test's stage finds a second. -/
@[irreducible] def State.tested (x : SecondInputs) (f : Bool) (s : State) : State :=
  detectorSecond (exerciseSecond (s.clocked x f)).meter.now.vH f (exerciseSecond (s.clocked x f))

theorem watched_eq (x : SecondInputs) (f : Bool) (s : State) : s.watched x f = offCue (testMinuteReached (testSecond (s.tested x f))) := by
  unfold State.watched State.tested leakSecond
  with_reducible rfl

/-- The test's stage finds the valve and the test as the second began, and the time that the second ends with. -/
theorem tested_held (x : SecondInputs) (f : Bool) (h : s.valve.state ≠ .opened) :
    Held s (s.tested x f) ∧ (s.tested x f).clock = (afterMetering x f s).clock := by
  obtain ⟨valve, leak, supply, -, -⟩ := clocked_rests x f (.inl h : s.untestable)
  obtain ⟨-, -, p3⟩ := afterMetering_sensors x f s
  have ended := State.gauges_clock (gauges_second x f s)
  have clock := State.gauges_clock (gauges_clocked x f s)
  have settings := (State.gauges_settings (gauges_second x f s)).symm.trans (afterMetering_settings x f s)
  have sensors := congrArg Filter.p3 (State.gauges_filter (gauges_second x f s))
  simp only [Filter.counts, State.gauges] at ended sensors settings
  unfold State.tested
  generalize s.clocked x f = c at *
  have away : c.valve.state ≠ .opened := by rw [valve]; exact h
  obtain ⟨e, n, exercised⟩ := exerciseSecond_others away
  rw [exercised, detectorSecond]
  dsimp only
  rw [if_pos away]
  refine ⟨⟨?_, ?_, ?_, ?_, ?_, congrArg Supply.state supply, settings, ?_⟩, ended.symm⟩
  · show c.leak.test = _
    rw [leak]
  · show c.leak.record = _
    rw [leak]
  · show c.valve.state = _
    rw [valve]
  · show c.valve.reasons = _
    rw [valve]
  · exact sensors.symm.trans p3
  · show c.clock.second = _
    rw [clock]

/-! ### The stages after the test -/

theorem testMinuteReached_other (h : k.settings.user.leak.testMinute = 1440 ∨ k.clock.second ≠ k.settings.user.leak.testMinute * 60) :
    testMinuteReached k = { k with leak := { k.leak with testDue := false } } := by
  have undue : (k.settings.user.leak.testMinute != 1440 && k.clock.second == k.settings.user.leak.testMinute * 60) = false := by
    rcases h with h | h
    · rw [h]
      rfl
    · rw [beq_eq_false_iff_ne.2 h, Bool.and_false]
  unfold testMinuteReached testDue
  dsimp only
  rw [undue, if_neg Bool.false_ne_true]

theorem enrolSecond_others (s : State) : ∃ p n, enrolSecond s = { s with pods := p, notices := n } := by
  unfold enrolSecond enrolWindowClose
  split
  · dsimp only
    split
    · exact ⟨_, _, rfl⟩
    · exact ⟨_, _, rfl⟩
  · exact ⟨_, _, rfl⟩

theorem offCue_others (s : State) : ∃ e n, offCue s = { s with valve := { s.valve with exercise := e, exerciseTime := n } } := by
  unfold offCue exerciseCue
  split
  · split
    · exact ⟨_, _, rfl⟩
    · exact ⟨s.valve.exercise, s.valve.exerciseTime, rfl⟩
  · exact ⟨s.valve.exercise, s.valve.exerciseTime, rfl⟩

theorem voltageSteady_mains (h : s.supply.state = .mains) : voltageSteady s = s := by
  unfold voltageSteady stateOnVoltage
  rw [h]

/-- On mains the last stages of a second leave the Leak Monitor and the valve. -/
theorem steadied_tested (hm : k.supply.state = .mains) (hk : k.leak.test.phase ≠ .claiming) :
    (follow (voltageSteady (enrolSecond k))).valve = k.valve ∧ (follow (voltageSteady (enrolSecond k))).leak = k.leak := by
  obtain ⟨p, n, enrolled⟩ := enrolSecond_others k
  rw [enrolled, voltageSteady_mains (s := { k with pods := p, notices := n }) hm]
  obtain ⟨valve, leak, -⟩ := (followed_reacts { k with pods := p, notices := n }).rests (.inr (.inr hk))
  exact ⟨valve, leak⟩

/-- The rest of a second on mains leaves the test, its record and the close reasons. -/
theorem afterMetering_tested (hm : s.supply.state = .mains) (hv : s.valve.state ≠ .opened)
    (ht : s.settings.user.leak.testMinute = 1440 ∨ s.clock.second ≠ s.settings.user.leak.testMinute * 60)
    (hk : (testSecond (s.tested x f)).leak.test.phase ≠ .claiming) :
    (afterMetering x f s).leak = { (testSecond (s.tested x f)).leak with testDue := false }
    ∧ (afterMetering x f s).valve.reasons = (testSecond (s.tested x f)).valve.reasons := by
  obtain ⟨⟨-, -, -, -, -, supply, settings, second⟩, -⟩ := tested_held x f hv
  have steady := steady_testSecond (s.tested x f)
  rw [afterMetering_eq, watched_eq]
  generalize s.tested x f = d at *
  generalize testSecond d = k at *
  have settings' : k.settings = s.settings := (congrArg Steady.settings steady).trans settings
  have second' : k.clock.second = s.clock.second := (congrArg Steady.second steady).trans second
  have mains : k.supply.state = .mains := ((congrArg Steady.supply steady).trans supply).trans hm
  rw [testMinuteReached_other (by rw [settings', second']; exact ht)]
  obtain ⟨e, n, cued⟩ := offCue_others { k with leak := { k.leak with testDue := false } }
  rw [cued]
  obtain ⟨valve, leak⟩ := steadied_tested (k := { k with
    leak := { k.leak with testDue := false }, valve := { k.valve with exercise := e, exerciseTime := n } }) mains hk
  exact ⟨leak, by rw [valve]⟩

/-! ### A second of HOLD (R136) -/

/-- The test with a second's reading taken (R136). -/
def TestRun.held (t : TestRun) (x : Nat) : TestRun := { t with window := windowAfter t.window x, hold := t.hold + 1 }

/-- The state with a second's reading taken into the test (R136). -/
def State.holding (s : State) : State := { s with leak := { s.leak with test := s.leak.test.held s.filter.p3.reading } }

theorem holdSecond_eq (s : State) : holdSecond s =
    if s.filter.p3.held then abandonTest .sensor s.holding
    else if s.leak.test.draw + s.filter.p3.reading < (windowAfter s.leak.test.window s.filter.p3.reading).foldl max 0 then
      abandonTest .draw s.holding
    else holdEnd s.holding := rfl

theorem testSecond_hold (h : s.leak.test.phase = .hold) : testSecond s = holdSecond s := by
  unfold testSecond
  dsimp only
  rw [h]

theorem windowAfter_eq (w : List Nat) (x : Nat) : windowAfter w x = w.drop (w.length - 20) ++ [x] := by
  unfold windowAfter
  split
  next h =>
    rw [show w.length - 20 = 0 by omega, List.drop_zero]
  next => rfl

/-- The highest reading of a window exceeds a bound when one of its readings does. -/
theorem lt_foldl_max_iff (w : List Nat) (a n : Nat) : n < w.foldl max a ↔ n < a ∨ ∃ p ∈ w, n < p := by
  induction w generalizing a with
  | nil => simp
  | cons p w ih =>
    rw [List.foldl_cons, ih, lt_max_iff]
    simp only [List.mem_cons, exists_eq_or_imp, or_assoc]

end

end Sys2Proof.Machine

/-! The phases of the pressure-hold test, its abandonments and its result: O34. -/

namespace Sys2Proof.Machine

set_option Elab.async false

section
variable {x : SecondInputs} {f : Bool} {s d : State}

/-! ### A HOLD's second (R136, R137) -/

theorem nearly_self (s : State) : Nearly s s := ⟨rfl, rfl, rfl, (posts_withdrawnTest TestPhase.unclaimed).mono (by decide)⟩

/-- A HOLD abandoned with a second's reading taken. -/
theorem holding_abandons (hp : s.leak.test.phase = .hold) (r : EndReason) :
    (abandonTest r s.holding).leak.test = {} ∧ (abandonTest r s.holding).valve.reasons.test = false
    ∧ (abandonTest r s.holding).leak.record
      = { s.leak.record with result := some .abandoned, time := s.now, p0 := s.leak.test.p0, decay := 0 }
    ∧ Told .testResult 3 (endReasonCode r) (s.leak.test.p0 : Nat) s (abandonTest r s.holding) := by
  have closes : s.holding.leak.test.phase.closes = true := by
    show s.leak.test.phase.closes = true
    rw [hp]
    rfl
  obtain ⟨⟨test, reasons, record, told⟩, -⟩ := (nearly_self s.holding).abandons (TestPhase.running closes) r
  exact ⟨test, reasons closes, record, told⟩

theorem testSecond_sensor (hp : s.leak.test.phase = .hold) (hh : s.filter.p3.held = true) : testSecond s = abandonTest .sensor s.holding := by
  rw [testSecond_hold hp, holdSecond_eq, if_pos hh]

/-- A reading of the window above the sample by more than the draw drop is a draw (R137). -/
theorem testSecond_draw (hp : s.leak.test.phase = .hold) (hh : s.filter.p3.held = false)
    (hd : ∃ p ∈ windowAfter s.leak.test.window s.filter.p3.reading, s.leak.test.draw + s.filter.p3.reading < p) :
    testSecond s = abandonTest .draw s.holding := by
  rw [testSecond_hold hp, holdSecond_eq, hh, if_neg Bool.false_ne_true, if_pos ((lt_foldl_max_iff _ _ _).2 (.inr hd))]

theorem testSecond_holds (hp : s.leak.test.phase = .hold) (hh : s.filter.p3.held = false)
    (hd : ∀ p ∈ windowAfter s.leak.test.window s.filter.p3.reading, p ≤ s.leak.test.draw + s.filter.p3.reading)
    (ht : s.leak.test.hold + 1 < s.leak.test.duration) : testSecond s = s.holding := by
  have undrawn : ¬ s.leak.test.draw + s.filter.p3.reading < (windowAfter s.leak.test.window s.filter.p3.reading).foldl max 0 := by
    rw [lt_foldl_max_iff]
    rintro (h | ⟨p, hm, h⟩)
    · exact Nat.not_lt_zero _ h
    · exact Nat.not_lt.2 (hd p hm) h
  rw [testSecond_hold hp, holdSecond_eq, hh, if_neg Bool.false_ne_true, if_neg undrawn]
  exact holdEnd_idle (s := s.holding) (.inr ht)

/-- A HOLD told as abandoned in its second (R138). -/
theorem testSecond_tells (hp : s.leak.test.phase = .hold) :
    (s.filter.p3.held = true → Told .testResult 3 7 (s.leak.test.p0 : Nat) s (testSecond s))
    ∧ (s.filter.p3.held = false →
      (∃ p ∈ s.leak.test.window.drop (s.leak.test.window.length - 20), s.leak.test.draw + s.filter.p3.reading < p) →
      Told .testResult 3 8 (s.leak.test.p0 : Nat) s (testSecond s)) := by
  refine ⟨fun hh => ?_, fun hh ⟨p, hm, hd⟩ => ?_⟩
  · rw [testSecond_sensor hp hh]
    exact (holding_abandons hp .sensor).2.2.2
  · rw [testSecond_draw hp hh ⟨p, by rw [windowAfter_eq]; exact List.mem_append_left _ hm, hd⟩]
    exact (holding_abandons hp .draw).2.2.2

/-- What a second on mains makes of a HOLD in a closed valve, by the sample of P3 as the second takes it (R136, R137). -/
theorem hold_second (hp : s.leak.test.phase = .hold) (hv : s.valve.state = .closed) (hm : s.supply.state = .mains)
    (ht : s.settings.user.leak.testMinute = 1440 ∨ s.clock.second ≠ s.settings.user.leak.testMinute * 60) :
    let t := afterMetering x f s
    let r := s.leak.test
    let window := windowAfter r.window s.filter.p3.reading
    let abandoned : Prop := t.leak.test = {} ∧ t.valve.reasons.test = false
      ∧ t.leak.record = { s.leak.record with result := some .abandoned, time := t.now, p0 := r.p0, decay := 0 }
    (s.filter.p3.held = true → abandoned)
    ∧ (s.filter.p3.held = false → (∃ p ∈ window, r.draw + s.filter.p3.reading < p) → abandoned)
    ∧ (s.filter.p3.held = false → (∀ p ∈ window, p ≤ r.draw + s.filter.p3.reading) → r.hold + 1 < r.duration →
      t.leak.test = { r with window := window, hold := r.hold + 1 } ∧ t.leak.record = s.leak.record) := by
  have away : s.valve.state ≠ .opened := by
    rw [hv]
    exact ValveState.noConfusion
  obtain ⟨⟨test, record, -, -, p3, -, -, -⟩, clock⟩ := tested_held x f away
  have rest := afterMetering_tested (x := x) (f := f) hm away ht
  have now := now_of_clock clock
  dsimp only
  generalize afterMetering x f s = t at *
  generalize s.tested x f = d at *
  rw [← test, ← record, ← p3]
  rw [← test] at hp
  have abandoned (q : EndReason) (e : testSecond d = abandonTest q d.holding) : t.leak.test = {} ∧ t.valve.reasons.test = false
      ∧ t.leak.record = { d.leak.record with result := some .abandoned, time := t.now, p0 := d.leak.test.p0, decay := 0 } := by
    obtain ⟨finished, reasons, result, -⟩ := holding_abandons hp q
    rw [e] at rest
    obtain ⟨leak, kept⟩ := rest (by rw [finished]; exact TestPhase.noConfusion)
    rw [leak, kept, ← now]
    exact ⟨finished, reasons, result⟩
  refine ⟨fun hh => abandoned .sensor (testSecond_sensor hp hh), fun hh hd => abandoned .draw (testSecond_draw hp hh hd), fun hh hd hl => ?_⟩
  have holds := testSecond_holds hp hh hd hl
  rw [holds] at rest
  obtain ⟨leak, -⟩ := rest (hold_unclaimed hp)
  rw [leak]
  exact ⟨rfl, rfl⟩

/-- The end of HOLD, in the words of R136 and R139. -/
theorem holdEnd_result (hp : s.leak.test.phase = .hold) (hd : s.leak.test.duration ≤ s.leak.test.hold) :
    let u := holdEnd s
    let t := s.leak.test
    u.leak.test = {} ∧ u.valve.reasons.test = false
    ∧ u.leak.record = (if (t.decay : Int) ≤ t.fall then
        { result := some .microleak, time := s.now, p0 := t.p0, decay := t.fall, microleaks := s.leak.record.next }
      else { result := some .pass, time := s.now, p0 := t.p0, decay := t.fall, microleaks := 0 })
    ∧ Told .testResult (if (t.decay : Int) ≤ t.fall then 1 else 0) t.fall (t.p0 : Nat) s u
    ∧ (let leak : Prop := (t.decay : Int) ≤ t.fall ∧ 3 ≤ s.leak.record.next
      let c := s.settings.user.leak
      (leak → Told .microleak (s.leak.record.next : Nat) t.fall (t.p0 : Nat) s u)
      ∧ (¬ leak ∨ c.microleakAction ≠ .close → u.leak.latch = s.leak.latch)
      ∧ (leak → c.microleakAction = .close →
        (s.leak.latch = none → u.leak.latch = some {
          first := .microleak, time := s.now, detail := t.fall, further := []
          litres := if s.leak.detector.active.isSome then s.leak.detector.volume / 1000 else 0 }
          ∧ (c.action = .close → u.valve.reasons.trip = true))
        ∧ (∀ l, s.leak.latch = some l → u.leak.latch =
          some (if l.first = .microleak ∨ .microleak ∈ l.further then l else { l with further := l.further ++ [.microleak] })))) := by
  dsimp only
  by_cases hf : (s.leak.test.decay : Int) ≤ s.leak.test.fall
  · rw [if_pos hf, if_pos hf]
    by_cases hn : 3 ≤ s.leak.record.next
    · by_cases ha : s.settings.user.leak.microleakAction = .close
      · obtain ⟨test, reason, record, told, latch, trip, posts⟩ := holdEnd_latches hp hd hf hn ha
        obtain ⟨first, further⟩ := latchCore_leakTold s.leak.record.next s.leak.test.fall s
        have latched : ∃ k, Posts k (s.leakTold s.leak.record.next s.leak.test.fall) (holdEnd s) :=
          (posts_latchCore _ _ _).elim (fun h => ⟨_, h.trans posts⟩) fun h => ⟨_, h.1.trans posts⟩
        obtain ⟨k, all⟩ := latched
        rw [latch, trip]
        exact ⟨test, reason, record, told, fun _ => leakTold_told all, fun hc => hc.elim (absurd ⟨hf, hn⟩) (absurd ha),
          fun _ _ => ⟨first, further⟩⟩
      · obtain ⟨test, reason, record, told, latch, -, posts⟩ := holdEnd_tells hp hd hf hn ha
        exact ⟨test, reason, record, told, fun _ => leakTold_told posts, fun _ => latch, fun _ hc => absurd hc ha⟩
    · obtain ⟨test, reason, record, told, latch, -, -⟩ := holdEnd_few hp hd hf hn
      exact ⟨test, reason, record, told, fun hc => absurd hc.2 hn, fun _ => latch, fun hc => absurd hc.2 hn⟩
  · rw [if_neg hf, if_neg hf]
    obtain ⟨test, reason, record, told, latch, -, -⟩ := holdEnd_pass hp hd hf
    exact ⟨test, reason, record, told, fun hc => absurd hc.1 hf, fun _ => latch, fun hc => absurd hc.1 hf⟩

/-- What a second's own stages before the metering leave of the test, and its sample of P3. -/
theorem metered_hold (x : SecondInputs) (s : State) : (s.metered x).leak = s.leak ∧ (s.metered x).valve.state = s.valve.state
    ∧ (s.metered x).supply.state = s.supply.state ∧ (s.metered x).settings = s.settings
    ∧ (s.metered x).filter.p3 = s.filter.p3.sampled x.p3 := by
  obtain ⟨n, valve⟩ := advanced_valve x s
  have sensors := beforeMetering_filter x s
  rw [(works_metered x s).meter_eq]
  refine ⟨?_, ?_, ?_, ?_, ?_⟩
  · rw [(works_beforeMetering x s).filter_eq]
    rfl
  · rw [(works_beforeMetering x s).filter_eq]
    show (s.advanced x).valve.state = _
    rw [valve]
  · rw [(works_beforeMetering x s).filter_eq]
    rfl
  · rw [(works_beforeMetering x s).filter_eq]
    rfl
  · exact congrArg Filter.p3 sensors

end

/-- R134 to R139. Settles O34, by phases: an event ends the test through its withdrawn claim and its recorded result, with a count of the
notices that come before that result. -/
theorem pressureTestPhases : Obligations.PressureTestPhases := by
  refine ⟨fun s h => ?events, fun x s h hp hv _ hm ht => ?second, fun s h hp => ?abandoned, fun s hp _ _ => testSecond_tells hp⟩
  case events =>
    obtain ⟨skips, sensor⟩ := testEvents h
    refine ⟨skips, fun hn => event_leaves h (claimWaitExpiry_idle hn), fun hp hv => event_leaves h (if_pos ⟨hp, hv⟩),
      fun hn => event_leaves h (testSettle_idle hn), fun hp ht hh => event_leaves h (holdBegin_holds hp ht hh), sensor,
      fun hn => event_leaves h (holdBegin_idle hn), fun hp hd => ⟨holdEnd s, event_leaves h rfl, ?_⟩,
      fun hn => event_leaves h (holdEnd_idle hn)⟩
    exact holdEnd_result hp hd
  case second =>
    obtain ⟨b, e⟩ := exec_second x h
    obtain ⟨leak, state, supply, settings, p3⟩ := metered_hold x s
    have clock := metered_clock x s
    have held := hold_second (x := x) (f := secondFrozen x s) (s := s.metered x) (by rw [leak]; exact hp) (by rw [state]; exact hv)
      (by rw [supply]; exact hm) (by rw [settings, clock]; exact ht)
    rw [leak, p3] at held
    refine ⟨_, e, ?_⟩
    generalize afterMetering x (secondFrozen x s) (s.metered x) = t at held
    dsimp only at held ⊢
    rw [windowAfter_eq] at held
    obtain ⟨sensor, draw, holds⟩ := held
    refine ⟨fun hx => sensor ?_, fun h0 h1 => ?_⟩
    · rw [Sensor.sampled, if_neg (by omega)]
    · have sampled : s.filter.p3.sampled x.p3 = { reading := x.p3.toNat, held := false } := if_pos ⟨h0, h1⟩
      rw [sampled] at draw holds
      exact ⟨draw rfl, holds rfl⟩
  case abandoned =>
    have listed {n : Nat} {u : State} (a : Abandons n s u) : u.leak.test = {} ∧ (s.leak.test.phase.closes = true → u.valve.reasons.test = false)
        ∧ u.leak.record = { s.leak.record with result := some .abandoned, time := s.now, p0 := s.leak.test.p0, decay := 0 }
        ∧ Told .testResult 3 n (s.leak.test.p0 : Nat) s u := ⟨a.test, a.reasons, a.record, a.told⟩
    refine ⟨fun c detail hl => listed (abandons_latchCause hp rfl rfl ((Posts.refl s).mono (by decide)) hl),
      fun n hst hm ha hl => ⟨_, event_leaves h rfl, listed (podLost_abandons hp hst hm ha hl)⟩,
      fun hc hs hb => ⟨_, event_leaves h rfl, listed (mainsLoss_abandons hc hs hb)⟩, fun hc hb => ?_, fun e hc hd h2 hx => ?_⟩
    · obtain ⟨abandons, stuck⟩ := bothSwitchesMade_abandons hc hb
      exact ⟨_, event_leaves h rfl, listed abandons, stuck⟩
    · obtain ⟨⟨timed, stuck⟩, stalled, stuck'⟩ := attempts_abandon hc hd h2 hx
      exact ⟨⟨_, event_leaves h rfl, listed timed, stuck⟩, ⟨_, event_leaves h rfl, listed stalled, stuck'⟩⟩

end Sys2Proof.Machine
